-- ==== Sys2Proof/Word.lean ====
section
/-! DEFINITION. The widths of the JT3420's words: a line code, an internal character, a link byte, a condition set. -/

namespace Sys2Proof

/-- A five-unit line code, 0..31; bit k is unit k + 1 (R1). -/
abbrev Code := BitVec 5

/-- An internal character, 0..127 (section 1.2). -/
abbrev IChar := BitVec 7

/-- A byte of the host link (R189). -/
abbrev Byte := BitVec 8

/-- A condition set as the host sees it: condition bit k at bit k of 24 (section 10.9). -/
abbrev CondSet := BitVec 24

end Sys2Proof
end

