-- ==== Sys2Proof/Syntax.lean ====
section
/-! DEFINITION. The commands of the block: one constructor for each row of spec/opcode_table.json, with the row's operands. -/

namespace Sys2Proof

/-- The two line levels (section 1.1). -/
inductive Level where
  | space
  | mark
  deriving DecidableEq, Repr

/-- The two text queues that the local path drains (R85). -/
inductive TextQueue where
  | keyboard
  | send
  deriving DecidableEq, Repr

/-- The levels of the input pins (section 11.4); `keys` bit n is the contact of position n, closed when set (R114). HOST_RX
stands beside them, as the bytes that come on it (`HostWire`). -/
structure Inputs where
  /-- RESET stands asserted (R211). -/
  reset : Bool
  lineRx : Level
  callIn : Bool
  loopOk : Bool
  home : Bool
  paperOut : Bool
  headWarm : Bool
  headHot : Bool
  tapeLow : Bool
  keys : BitVec 64
  rate : BitVec 2
  deriving DecidableEq, Repr

/-- The commands. A list of levels is LINE_RX at each sixteenth from the start edge (R17 to R19). -/
inductive Instr where
  -- reset
  | coldReset (inputs : Inputs)
  -- line receiver and calibrator
  | characterDelivered (line : List Level)
  | receivedBreak
  | holdoffExpiry
  | identityCaptureGapExpiry
  -- transmitter and local path
  | transmitterTake
  | codeCompletion
  | breakSendEnd
  | breakGuardEnd
  | localPathTake (queue : TextQueue)
  -- call controller
  | callInAsserted
  | callInDeasserted
  | answerDelayExpiry
  | loopOkAsserted
  | loopOkDeasserted
  | lossTimerExpiry
  | connectTimerExpiry
  | proceedTimerExpiry
  | identityTimerExpiry
  | idleClearExpiry
  | clearingGuardExpiry
  -- keyboard and bell
  | keyboardScan (closed : BitVec 64)
  | bellPulseEnd
  -- printer
  | printerTakeEntry (home : Bool)
  | strikeDone
  | coolingPauseEnd
  | feedDone
  | printerResponseLimitExpiry
  | carriageStepEnd (home : Bool)
  | haltCauseChange (paperOut headHot : Bool)
  | printerHaltGraceExpiry
  | headWarmChange (headWarm : Bool)
  -- punch
  | punchTakeWork
  | punchDone
  | punchResponseLimitExpiry
  | tapeLowChange (tapeLow : Bool)
  -- motor and watchdog
  | runUpExpiry
  | idleStopExpiry
  | hostWatchdogExpiry
  -- frames of the host
  | frameBadCheck
  | frameBadLength
  | frameGapTimeout
  | frameByteError
  | frameUnknownKind
  | writeTranslate (first : Byte) (entries : List Byte)
  | writeRoute (first : Byte) (entries : List Byte)
  | writeSequence (first : Byte) (entries : List Byte)
  | writeKeymap (first : Byte) (entries : List Byte)
  | writeAnswerback (first : Byte) (codes : List Byte)
  | writeSettings (first : Byte) (entries : List Byte)
  | writeSignals (first : Byte) (entries : List Byte)
  | writeLog (first : Byte) (entries : List Byte)
  | read (body : List Byte)
  | status (body : List Byte)
  | text (chars : List Byte)
  | orderMode (mode : Byte)
  | orderAckRestart
  | orderReset
  | orderCall (chars : List Byte)
  | orderAnswer
  | orderClear
  | orderAnswerback
  | orderIdentify
  | orderBreak
  | orderArmSend (n : BitVec 16)
  | orderArmCapture (n : BitVec 16) (size : Byte)
  | orderDisarmSend
  | orderDisarmCapture
  | orderHoldSend (on : Byte)
  | orderHoldCapture (on : Byte)
  | orderPrinterOff
  | orderPrinterOn
  | orderPunchOff
  | orderPunchOn
  | orderPunchLeader (n : Byte)
  | orderTapeLoaded (n : BitVec 16)
  | orderMotorStart
  | orderMotorStop
  | orderClearFaults (conditions : CondSet)
  | orderNoticeMask (mask : BitVec 16)
  | orderCalibrate
  | orderLogDiscard (n : Byte)
  -- capture channel and link transmitter
  | captureFlushExpiry
  | linkTransmitterTake
  | linkFrameSent (rate : BitVec 2)
  -- framing of received characters
  | startEdge
  | falseStart
  | stopSampleAtSpace (line : List Level)
  | lineReturnToMark
  -- frames that name nothing
  | orderUnknownCode (body : List Byte)
  | writeUnknownTable (body : List Byte)
  deriving DecidableEq, Repr

end Sys2Proof
end

