-- ==== Sys2Proof/Decode.lean ====
section
/-! DEFINITION. No row of the table has bits, so no word spells a command; the bytes of HOST_RX do: the check, the frames of
section 10.9 as commands, and the frame receiver that reads them byte by byte. -/

namespace Sys2Proof

/-- No row of spec/opcode_table.json gives bits, so no word spells a command (log 6). -/
def decodeTableWord (_nbits _w : Nat) : Option Instr := none

/-! ## The check of a frame (R190) -/

/-- One shift of the check register toward its most significant end (R190). -/
def checkShift (reg : Byte) : Byte := if reg.msb then (reg <<< 1) ^^^ 0x4D else reg <<< 1

/-- One byte combined into the check register (R190). -/
def checkByte (reg b : Byte) : Byte :=
  checkShift (checkShift (checkShift (checkShift (checkShift (checkShift (checkShift (checkShift (reg ^^^ b))))))))

/-- The check over KIND, LEN and BODY (R190). -/
def frameCheck (bytes : List Byte) : Byte := bytes.foldl checkByte 0xFF

/-! ## The command of a good frame (section 10.9, log 8) -/

/-- Two bytes, most significant first. -/
def word16 (hi lo : Byte) : BitVec 16 := hi ++ lo

/-- The command of a WRITE body; fewer than two bytes or an identifier of no table gives WRITE_UNKNOWN_TABLE (R193). -/
def writeCommand (body : List Byte) : Instr :=
  match body with
  | t :: first :: es =>
    match t.toNat with
    | 1 => .writeTranslate first es
    | 2 => .writeRoute first es
    | 3 => .writeSequence first es
    | 4 => .writeKeymap first es
    | 5 => .writeAnswerback first es
    | 6 => .writeSettings first es
    | 7 => .writeSignals first es
    | 8 => .writeLog first es
    | _ => .writeUnknownTable body
  | _ => .writeUnknownTable body

/-- The command of an ORDER body; a code of no order, a wrong length, or a channel, on/off or start/stop argument outside its
codes that the row itself cannot carry gives ORDER_UNKNOWN_CODE, which is answered RANGE like them (R196, log 17). -/
def orderCommand (body : List Byte) : Instr :=
  match body with
  | [] => .orderUnknownCode body
  | c :: args =>
    match c.toNat, args with
    | 1, [m] => .orderMode m
    | 2, [] => .orderAckRestart
    | 3, [] => .orderReset
    | 4, chars => .orderCall chars
    | 5, [] => .orderAnswer
    | 6, [] => .orderClear
    | 7, [] => .orderAnswerback
    | 8, [] => .orderIdentify
    | 9, [] => .orderBreak
    | 10, [hi, lo] => .orderArmSend (word16 hi lo)
    | 11, [hi, lo, f] => .orderArmCapture (word16 hi lo) f
    | 12, [0x00#8] => .orderDisarmSend
    | 12, [0x01#8] => .orderDisarmCapture
    | 13, [0x00#8, on] => .orderHoldSend on
    | 13, [0x01#8, on] => .orderHoldCapture on
    | 14, [0x00#8] => .orderPrinterOff
    | 14, [0x01#8] => .orderPrinterOn
    | 15, [0x00#8] => .orderPunchOff
    | 15, [0x01#8] => .orderPunchOn
    | 16, [n] => .orderPunchLeader n
    | 17, [hi, lo] => .orderTapeLoaded (word16 hi lo)
    | 18, [0x00#8] => .orderMotorStop
    | 18, [0x01#8] => .orderMotorStart
    | 19, [b2, b1, b0] => .orderClearFaults (b2 ++ b1 ++ b0)
    | 20, [hi, lo] => .orderNoticeMask (word16 hi lo)
    | 21, [] => .orderCalibrate
    | 22, [n] => .orderLogDiscard n
    | _, _ => .orderUnknownCode body

/-- The command of a good frame (R191, section 10.9). -/
def frameCommand (kind : Byte) (body : List Byte) : Instr :=
  match kind.toNat with
  | 1 => writeCommand body
  | 2 => .read body
  | 3 => .status body
  | 4 => orderCommand body
  | 5 => .text body
  | _ => .frameUnknownKind

/-! ## The frame receiver (R189) -/

/-- The byte that the frame receiver waits for, with what it has stored of the frame in progress (R189). -/
inductive FrameRx where
  | hunt
  | kind
  | len (kind : Byte)
  | body (kind : Byte) (length : Nat) (stored : List Byte)
  | check (kind : Byte) (body : List Byte)
  deriving DecidableEq, Repr

/-- The receiver once the body bytes stored so far stand: in CHECK when they are as many as LEN says. -/
def FrameRx.storing (kind : Byte) (length : Nat) (stored : List Byte) : FrameRx :=
  if length ≤ stored.length then .check kind stored else .body kind length stored

/-- The command of a frame that its CHECK byte ends (R190, R191). -/
def checkedCommand (kind : Byte) (body : List Byte) (check : Byte) : Instr :=
  if check = frameCheck (kind :: BitVec.ofNat 8 body.length :: body) then frameCommand kind body else .frameBadCheck

/-- One byte at the frame receiver, none for a byte error: the state it leads to, and the command of a frame that it ends or
drops (R189, R190). -/
def FrameRx.receive : FrameRx → Option Byte → FrameRx × Option Instr
  | .hunt, some b => (if b = 0xA5 then .kind else .hunt, none)
  | .hunt, none => (.hunt, none)
  | _, none => (.hunt, some .frameByteError)
  | .kind, some b => (.len b, none)
  | .len k, some b => if 64 < b.toNat then (.hunt, some .frameBadLength) else (.storing k b.toNat [], none)
  | .body k n bs, some b => (.storing k n (bs ++ [b]), none)
  | .check k bs, some b => (.hunt, some (checkedCommand k bs b))

/-- The commands that a run of bytes without gap or byte error makes, from a state of the receiver. -/
def FrameRx.commands : FrameRx → List Byte → List Instr
  | _, [] => []
  | r, b :: bs => (r.receive (some b)).2.toList ++ FrameRx.commands (r.receive (some b)).1 bs

/-- The commands of a run of bytes on HOST_RX, from HUNT (R189, R190). -/
def frameCommands (bytes : List Byte) : List Instr := FrameRx.commands .hunt bytes

/-! ## A byte on the link (R189): 1 is mark, and bit 0 is the first on the wire -/

/-- The ten bits of a byte: a start bit of space, eight data bits least significant first, a stop bit of mark. -/
def linkBits (b : Byte) : BitVec 10 := 1#1 ++ b ++ 0#1

/-- The byte of the nine bits after a start bit; none where the stop bit is at space, a byte error. -/
def linkByte (bits : BitVec 9) : Option Byte := if bits.getLsbD 8 then some (bits.setWidth 8) else none

end Sys2Proof
end

