-- ==== Sys2Proof/Config.lean ====
section
/-! DEFINITION. What the manual leaves open as a value: one free byte for each count. -/

namespace Sys2Proof

/-- A free value: the byte that stands in a field of a report to which the manual gives no value.
Nothing constrains it; the count makes each use a fresh one (log 18, DESIGN CHOICE). -/
opaque Config.freeByte : Nat → BitVec 8

end Sys2Proof
end

