-- ==== Sys2Proof/Machine/State.lean ====
section
/-! DEFINITION. The state of the JT3420, unit by unit (section 3 of the introduction), and the state after a cold reset. -/

namespace Sys2Proof.Machine

/-! ## Names of the manual -/

/-- The two shifts of the line code (section 1.2). -/
inductive Shift where
  | letters
  | figures
  deriving DecidableEq, Repr

/-- The ten classes of a translation entry (section 1.2). -/
inductive CharClass where
  | print
  | space
  | cr
  | lf
  | bell
  | ltrs
  | figs
  | ident
  | null
  | unassigned
  deriving DecidableEq, Repr

/-- The origin of a character (R70). -/
inductive Source where
  | line
  | keyboard
  | host
  | answerback
  deriving DecidableEq, Repr

/-- The station mode (R175); `localMode` is LOCAL. -/
inductive Mode where
  | localMode
  | attended
  | unattended
  deriving DecidableEq, Repr

/-- The three sinks of the traffic store (section 4.2). -/
inductive Sink where
  | print
  | punch
  | capture
  deriving DecidableEq, Repr

/-- The settings of the SETTINGS table, in the order of their indexes (section 10.9). -/
inductive Setting where
  | lineSpeed
  | stopLength
  | unshiftOnSpace
  | breakThreshold
  | breakSendLength
  | calibrationMode
  | fixedSamplePoint
  | window
  | band
  | distortionLimit
  | holdoff
  | lossTolerance
  | connectTimeout
  | proceedTimeout
  | idleClear
  | clearingGuard
  | attendedAnswerDelay
  | identityOnAnswer
  | answerIdentityDelay
  | identityRequestAfterSelection
  | identityCaptureGap
  | runUp
  | idleStop
  | width
  | marginBellColumn
  | overflow
  | stepSize
  | stepRate
  | coolingPause
  | haltGrace
  | responseLimit
  | substituteSymbol
  | gapSymbol
  | gapMarkerCode
  | gapMarkerCount
  | tapeLowReserve
  | divertOnPrinterLoss
  | printSwitchAtConnect
  | punchSwitchAtConnect
  | storeHighWater
  | scanPeriod
  | pressDebounce
  | releaseDebounce
  | stuckTimeout
  | hostWatchdog
  | captureFlushTime
  deriving DecidableEq, Repr

/-- A timer: not running, or the time left of its run, in units of 1/288 ms (log 1). -/
abbrev Timer := Option Nat

/-! ## Translation table -/

/-- One entry of the translation table (R3). -/
structure TransEntry where
  char : IChar
  cls : CharClass
  deriving DecidableEq, Repr

/-! ## Line receiver and sampling calibrator -/

/-- The framing states of the line receiver (section 2.1); `brk` is BREAK. -/
inductive Framing where
  | off
  | awaitMark
  | hunt
  | assemble
  | stopSpace
  | brk
  deriving DecidableEq, Repr

/-- The line receiver (section 2.1). -/
structure Receiver where
  framing : Framing
  /-- The receive shift (R8). -/
  shift : Shift
  /-- The sample point in use for the character in assembly (R17). -/
  samplePoint : Nat
  /-- The threshold of the character in assembly, from its start edge (R20). -/
  threshold : Nat
  /-- The time since the start edge of the character in assembly. -/
  sinceEdge : Nat
  /-- The unit levels sampled so far, unit 1 first (R18). -/
  levels : List Level
  /-- The transition displacements of the character (R26). -/
  displacements : List Int
  deriving DecidableEq, Repr

/-- The calibrator states (section 2.3). -/
inductive CalState where
  | idle
  | measuring
  | settled
  | holdoff
  deriving DecidableEq, Repr

/-- The sampling calibrator (section 2.3). -/
structure Calibrator where
  p : Nat
  state : CalState
  sumT : Nat
  sumS : Int
  maxM : Nat
  count : Nat
  holdoff : Timer
  lastBias : Int
  deriving DecidableEq, Repr

/-! ## Line transmitter -/

/-- Whose unit of work a code belongs to (R35, R39). A SEND unit `counts` while the arming it was taken under lasts (R200). -/
inductive TxUnit where
  | selection
  | send (counts : Bool)
  | keyboard
  | answerback
  | identOrder
  | identSelection
  deriving DecidableEq, Repr

/-- What follows a code of a unit: nothing, the character code of a pair, or a character code given up because the call
left SELECTING or CONNECTED before it began (R42). -/
inductive Follow where
  | last
  | code (code : Code)
  | abandoned
  deriving DecidableEq, Repr

/-- The transmitter states (section 2.4). A code in flight keeps the element and stop lengths with which it began; a unit that
waits, whether the reservation of its second code is still to be made (R36). -/
inductive TxPhase where
  | free
  | code (code : Code) (unit : TxUnit) (follow : Follow) (element stop : Nat)
  | unitWait (code : Code) (unit : TxUnit) (owed : Bool)
  | brk
  | breakGuard
  deriving DecidableEq, Repr

/-- Who asked for the pending IDENT sending (R39). -/
inductive IdentRequest where
  | afterSelection
  | byOrder
  deriving DecidableEq, Repr

/-- The line transmitter (section 2.4). -/
structure Transmitter where
  /-- The send shift (R12). -/
  shift : Shift
  phase : TxPhase
  timer : Timer
  /-- A copy reservation is held (R36). -/
  reservation : Bool
  breakPending : Bool
  identPending : Option IdentRequest
  /-- The selection characters not yet taken (R56). -/
  selection : List IChar
  deriving DecidableEq, Repr

/-! ## Call controller and call records -/

/-- The call states (section 3.2). -/
inductive CallState where
  | free
  | offered
  | refused
  | answering
  | calling
  | selecting
  | connected
  | clearing
  deriving DecidableEq, Repr

/-- The call controller (Chapter 3). -/
structure Call where
  state : CallState
  /-- A local clear is in progress (R61). -/
  localClear : Bool
  answerDelay : Timer
  connect : Timer
  proceed : Timer
  loss : Timer
  identity : Timer
  idleClear : Timer
  guard : Timer
  /-- The connected time of the open record so far (R57, R64). -/
  connectedTime : Nat
  deriving DecidableEq, Repr

inductive Direction where
  | incoming
  | outgoing
  deriving DecidableEq, Repr

/-- The ten outcomes (section 3.8). -/
inductive CallOutcome where
  | localClear
  | remoteClear
  | idleClear
  | sequenceClear
  | recorderLost
  | noConnect
  | refused
  | missed
  | collided
  | abandoned
  deriving DecidableEq, Repr

/-- The record flags (R182). -/
structure RecordFlags where
  printerLost : Bool
  punchLost : Bool
  calError : Bool
  breakReceived : Bool
  deriving DecidableEq, Repr

/-- A call record, open or closed (R182). -/
structure CallRecord where
  number : Nat
  direction : Direction
  modeAtStart : Mode
  outcome : Option CallOutcome
  selection : List IChar
  remoteIdentity : Option (List IChar)
  connectedSeconds : Nat
  received : Nat
  sent : Nat
  storedLine : Nat
  storedStation : Nat
  unroutedLine : Nat
  unroutedStation : Nat
  lost : Nat
  messages : Nat
  linesPrinted : Nat
  punched : Nat
  flags : RecordFlags
  deriving DecidableEq, Repr

/-- The station unit (Chapter 9). -/
structure Station where
  mode : Mode
  restartPending : Bool
  hostSilent : Bool
  watchdog : Timer
  record : Option CallRecord
  log : List CallRecord
  nextNumber : Nat
  deriving DecidableEq, Repr

/-! ## Traffic store and routing -/

/-- A set of sinks (R70). -/
structure SinkSet where
  print : Bool
  punch : Bool
  capture : Bool
  deriving DecidableEq, Repr

/-- A store entry (R70). -/
structure Entry where
  code : Code
  shift : Shift
  char : IChar
  cls : CharClass
  source : Source
  mutilated : Bool
  gapBefore : Bool
  pending : SinkSet
  deriving DecidableEq, Repr

/-- The cursor of each sink: the number of stored entries before it (R71). -/
structure Cursors where
  print : Nat
  punch : Nat
  capture : Nat
  deriving DecidableEq, Repr

/-- The traffic store, oldest entry first (R69). -/
structure Store where
  entries : List Entry
  cursors : Cursors
  /-- The gap count (R79). -/
  gap : Nat
  /-- The high-water armed flag (R81). -/
  armed : Bool
  deriving DecidableEq, Repr

/-- A route entry: a set of destinations (R82). -/
structure RouteEntry where
  print : Bool
  punch : Bool
  capture : Bool
  line : Bool
  deriving DecidableEq, Repr

/-- The route unit (sections 4.4, 4.5). -/
structure Route where
  table : List RouteEntry
  printSwitch : Bool
  punchSwitch : Bool
  deriving DecidableEq, Repr

/-! ## Sequence matcher and answerback unit -/

/-- The seven actions (section 5.1). -/
inductive SeqAction where
  | punchOn
  | punchOff
  | printOn
  | printOff
  | endOfMessage
  | clear
  | notice
  deriving DecidableEq, Repr

/-- An entry of the sequence table (R96). -/
structure SeqEntry where
  length : Nat
  pattern : List IChar
  action : SeqAction
  inLocal : Bool
  inAttended : Bool
  inUnattended : Bool
  noticeFlag : Bool
  deriving DecidableEq, Repr

structure Matcher where
  table : List SeqEntry
  progress : List Nat
  deriving DecidableEq, Repr

/-- The answerback unit (sections 5.5, 5.6). -/
structure Answerback where
  memory : List Code
  /-- The next position of an ACTIVE run (R106). -/
  run : Option Nat
  /-- The count of captured characters of an open identity-capture window (R110). -/
  window : Option Nat
  gapTimer : Timer
  deriving DecidableEq, Repr

/-! ## Keyboard -/

inductive KeyState where
  | up
  | pressing
  | down
  | releasing
  | stuck
  deriving DecidableEq, Repr

/-- A key position; `held` is its held time in ms (R117). -/
structure KeyPos where
  state : KeyState
  count : Nat
  held : Nat
  deriving DecidableEq, Repr

/-- The functions of the keymap (R119). -/
inductive KeyFunction where
  | hereIs
  | brk
  | answer
  | clear
  | fkey1
  | fkey2
  | fkey3
  | fkey4
  deriving DecidableEq, Repr

/-- A keymap entry (R119). -/
inductive KeyEntry where
  | none
  | char (c : IChar)
  | function (f : KeyFunction)
  deriving DecidableEq, Repr

structure Keyboard where
  positions : List KeyPos
  keymap : List KeyEntry
  queue : List IChar
  operatorFlag : Bool
  /-- The length in ms of the scan interval in progress (R114). -/
  interval : Nat
  scanTimer : Timer
  deriving DecidableEq, Repr

/-! ## Printer, punch and motor -/

/-- The printer states (section 7.2). -/
inductive PrinterState where
  | idle
  | busy
  | halted
  | out
  | off
  deriving DecidableEq, Repr

/-- One part of an operation on an entry (R135, R136). -/
inductive PrinterPart where
  | strike (c : IChar)
  | space
  | slew
  | feed
  | bell
  | silent
  deriving DecidableEq, Repr

/-- A slew in progress: its step size and step time, the length of the step in flight, and the number of that step among
the search steps toward HOME, 0 for a counted step (R146, R147). -/
structure Slew where
  size : Nat
  stepTime : Nat
  len : Nat
  extra : Nat
  deriving DecidableEq, Repr

/-- The mechanism action in flight; a slew or feed of a wrap carries the strike it precedes (R139). -/
inductive PrinterAction where
  | strike (c : IChar)
  | cooling
  | space
  | slew (w : Slew) (thenStrike : Option IChar)
  | feed (thenStrike : Option IChar)
  deriving DecidableEq, Repr

/-- The operation in flight: the action in flight and the parts after it. -/
structure PrinterOp where
  action : PrinterAction
  rest : List PrinterPart
  deriving DecidableEq, Repr

/-- The printer controller (Chapter 7). -/
structure Printer where
  state : PrinterState
  jamHold : Bool
  column : Nat
  op : Option PrinterOp
  /-- The response limit, cooling pause or step time in progress. -/
  timer : Timer
  haltGrace : Timer
  offRequest : Bool
  /-- The columns of the last step of an aborted slew, while it runs (R148). -/
  aborted : Option Nat
  deriving DecidableEq, Repr

/-- The punch states (R163). -/
inductive PunchState where
  | idle
  | busy
  | out
  | off
  deriving DecidableEq, Repr

/-- The punch operation in flight: an entry with the gap markers still to punch (the one in flight included), or a leader. -/
inductive PunchOp where
  | entry (markers : Nat) (marker code : Code)
  | leader
  deriving DecidableEq, Repr

/-- The punch controller (Chapter 8). -/
structure Punch where
  state : PunchState
  jamHold : Bool
  /-- The tape remaining count (R168). -/
  tape : Nat
  op : Option PunchOp
  timer : Timer
  leader : Nat
  offRequest : Bool
  deriving DecidableEq, Repr

/-- The motor states (R157). -/
inductive MotorState where
  | stopped
  | runup
  | running
  deriving DecidableEq, Repr

structure Motor where
  state : MotorState
  runUp : Timer
  idleStop : Timer
  deriving DecidableEq, Repr

/-! ## Host link -/

/-- The reasons of a REJECT reply (section 10.9). -/
inductive RejectReason where
  | check
  | kind
  | length
  | range
  | state
  | busy
  deriving DecidableEq, Repr

/-- A reply; `resetGrant` is the GRANT of ORDER RESET (R196). -/
inductive Reply where
  | grant
  | resetGrant
  | reject (reason : RejectReason)
  | wait (free : Nat)
  | report (body : List Byte)
  | table (body : List Byte)
  deriving DecidableEq, Repr

/-- Why an arming ended (section 10.9, CHANNEL). -/
inductive EndReason where
  | done
  | disarmed
  | cleared
  | brk
  | hostSilent
  deriving DecidableEq, Repr

/-- A notice with its body (R204, section 10.9). -/
inductive Notice where
  | restart (warm : Bool) (next closed : Nat)
  | mode (new old : Mode) (byWatchdog : Bool)
  | call (connected : Bool) (direction : Direction) (number : Nat)
  | closed (number : Nat) (outcome : CallOutcome)
  | channel (capture : Bool) (reason : EndReason) (residual : Nat)
  | store (occupancy gap lagPrint lagPunch lagCapture : Nat)
  | fault (faults : CondSet)
  | sequence (index : Nat) (action : SeqAction) (acted : Bool) (number : Nat)
  | key (function position : Nat)
  | operator (position : Nat) (entry : KeyEntry) (call : CallState)
  | calibration (drift : Bool) (p : Nat) (bias : Int)
  deriving DecidableEq, Repr

/-- A frame that the part sends (R192). -/
inductive OutFrame where
  | reply (r : Reply)
  | data (items : List Byte)
  | note (n : Notice)
  deriving DecidableEq, Repr

/-- The SEND channel (section 10.5). -/
structure SendChannel where
  armed : Bool
  held : Bool
  remaining : Nat
  queue : List IChar
  deriving DecidableEq, Repr

inductive CaptureState where
  | disarmed
  | armed
  | held
  deriving DecidableEq, Repr

/-- The CAPTURE channel (section 10.6); the frame being gathered is the first `taken` entries at and after the CAPTURE cursor
that hold CAPTURE (R73, R202). -/
structure CaptureChannel where
  state : CaptureState
  remaining : Nat
  size : Nat
  taken : Nat
  closed : Bool
  flush : Timer
  deriving DecidableEq, Repr

/-- The host link unit (Chapter 10). -/
structure Link where
  /-- The frame receiver (R189). -/
  rx : FrameRx
  /-- The time left until the gap after a byte of a frame has lasted more than 50 ms (R189). -/
  gap : Timer
  rateStrap : BitVec 2
  replies : List Reply
  busy : Nat
  resetPending : Bool
  sending : Option OutFrame
  timer : Timer
  /-- The notice pending set: rising kind codes, at most one of a kind (R204). -/
  notices : List Notice
  mask : BitVec 11
  send : SendChannel
  capture : CaptureChannel
  deriving DecidableEq, Repr

/-! ## Condition unit -/

/-- The mode of a signal output (section 11.3). -/
inductive SignalMode where
  | off
  | direct
  | linked
  deriving DecidableEq, Repr

/-- An entry of the SIGNALS table (section 11.3). -/
structure SignalEntry where
  mode : SignalMode
  activeLow : Bool
  latched : Bool
  directLevel : Bool
  mask : CondSet
  deriving DecidableEq, Repr

/-- The fault store and the SIGNALS table (Chapter 11). -/
structure Conditions where
  faults : CondSet
  signals : List SignalEntry
  deriving DecidableEq, Repr

/-! ## HOST_RX -/

/-- A byte that comes on HOST_RX: the units of mark before its start bit, and the nine bits after that, eight data bits least
significant first and the stop bit; 1 is mark (R189). -/
structure LinkByte where
  idle : Nat
  bits : BitVec 9
  deriving DecidableEq, Repr

/-- What comes on HOST_RX: the bytes still to come, and the time left of the one whose start bit has begun (log 39). -/
structure HostWire where
  bytes : List LinkByte
  timer : Timer
  deriving DecidableEq, Repr

/-! ## The whole machine -/

/-- The state of the block, and the commands that wait. -/
structure State where
  pins : Inputs
  translate : List TransEntry
  settings : List Nat
  rx : Receiver
  cal : Calibrator
  tx : Transmitter
  call : Call
  store : Store
  route : Route
  matcher : Matcher
  answer : Answerback
  kb : Keyboard
  printer : Printer
  bell : Timer
  punch : Punch
  motor : Motor
  station : Station
  link : Link
  cond : Conditions
  /-- What the host still sends on HOST_RX; the environment's, and kept by every reset (log 39). -/
  hostRx : HostWire
  /-- The model's own counter of free values (log 18). -/
  freeCount : Nat
  /-- The commands that wait, the first to be taken first. -/
  pending : List Instr
  deriving DecidableEq, Repr

/-- Why the machine would stop with a fault. The manual gives every command an effect, so no command raises one (log 26). -/
inductive Fault where
  /-- Raised by no command; safe, since nothing stops. -/
  | neverRaised
  deriving DecidableEq, Repr

/-- Why the model would refuse a command. -/
inductive Refusal where
  /-- Raised by an arm of exec that has no meaning yet, with the row's mnemonic; safe. No arm raises it now. -/
  | notModelled (mnemonic : String)
  deriving DecidableEq, Repr

/-- The input levels of State.reset: line at mark, nothing asserted, all contacts open, straps 0 (log 4, DESIGN CHOICE). -/
def Inputs.quiet : Inputs where
  reset := false
  lineRx := .mark
  callIn := false
  loopOk := false
  home := false
  paperOut := false
  headWarm := false
  headHot := false
  tapeLow := false
  keys := 0
  rate := 0

/-- The machine right after a cold reset with quiet inputs (R68 and the reset rules of every chapter). -/
def State.reset : State where
  pins := Inputs.quiet
  translate := List.replicate 64 { char := 0, cls := .unassigned }
  settings :=
    [1, 1, 0, 300, 400, 2, 8, 16, 2, 5, 60, 300, 10, 10, 120, 1000, 0, 1, 500, 1, 2, 500, 30]
    ++ [69, 0, 0, 2, 400, 100, 30, 100, 63, 35, 31, 2, 200, 1, 1, 1, 192, 5, 3, 3, 5, 0, 200]
  rx :=
    { framing := .off, shift := .letters, samplePoint := 8, threshold := 0, sinceEdge := 0
      levels := [], displacements := [] }
  cal :=
    { p := 8, state := .idle, sumT := 0, sumS := 0, maxM := 0, count := 0, holdoff := none, lastBias := 0 }
  tx :=
    { shift := .letters, phase := .free, timer := none, reservation := false, breakPending := false
      identPending := none, selection := [] }
  call :=
    { state := .free, localClear := false, answerDelay := none, connect := none, proceed := none
      loss := none, identity := none, idleClear := none, guard := none, connectedTime := 0 }
  store := { entries := [], cursors := { print := 0, punch := 0, capture := 0 }, gap := 0, armed := true }
  route :=
    { table := List.replicate 12 { print := false, punch := false, capture := false, line := false }
      printSwitch := true, punchSwitch := true }
  matcher :=
    { table := List.replicate 16
        { length := 0, pattern := List.replicate 8 0, action := .notice, inLocal := false
          inAttended := false, inUnattended := false, noticeFlag := false }
      progress := List.replicate 16 0 }
  answer := { memory := [], run := none, window := none, gapTimer := none }
  kb :=
    { positions := List.replicate 64 { state := .up, count := 0, held := 0 }
      keymap := List.replicate 64 .none, queue := [], operatorFlag := true, interval := 5
      scanTimer := some (5 * 288) }
  printer :=
    { state := .idle, jamHold := false, column := 1, op := none, timer := none, haltGrace := none
      offRequest := false, aborted := none }
  bell := none
  punch :=
    { state := .out, jamHold := false, tape := 0, op := none, timer := none, leader := 0, offRequest := false }
  motor := { state := .stopped, runUp := none, idleStop := none }
  station :=
    { mode := .unattended, restartPending := true, hostSilent := false, watchdog := none, record := none
      log := [], nextNumber := 1 }
  link :=
    { rx := .hunt, gap := none, rateStrap := 0, replies := [], busy := 0, resetPending := false, sending := none
      timer := none, notices := [.restart false 1 0, .fault 0x000010], mask := 0x7FF
      send := { armed := false, held := false, remaining := 0, queue := [] }
      capture := { state := .disarmed, remaining := 0, size := 1, taken := 0, closed := false, flush := none } }
  cond :=
    { faults := 0x000010
      signals := List.replicate 4
        { mode := .off, activeLow := false, latched := false, directLevel := false, mask := 0 } }
  hostRx := { bytes := [], timer := none }
  freeCount := 0
  pending := []

end Sys2Proof.Machine
end

