-- ==== Sys2Proof/Machine/Operands.lean ====
section
/-! DEFINITION. The operands of the commands: times, settings, line levels, and the byte forms of section 10.9. -/

namespace Sys2Proof.Machine

/-! ## Time (log 1): the unit is 1/288 ms, in which every length of the manual is whole -/

def msUnits (n : Nat) : Nat := 288 * n

def secUnits (n : Nat) : Nat := 288000 * n

/-! ## Settings (section 10.9) -/

/-- The index of a setting in the SETTINGS table (section 10.9). -/
def Setting.index : Setting → Nat
  | .lineSpeed => 0
  | .stopLength => 1
  | .unshiftOnSpace => 2
  | .breakThreshold => 3
  | .breakSendLength => 4
  | .calibrationMode => 5
  | .fixedSamplePoint => 6
  | .window => 7
  | .band => 8
  | .distortionLimit => 9
  | .holdoff => 10
  | .lossTolerance => 11
  | .connectTimeout => 12
  | .proceedTimeout => 13
  | .idleClear => 14
  | .clearingGuard => 15
  | .attendedAnswerDelay => 16
  | .identityOnAnswer => 17
  | .answerIdentityDelay => 18
  | .identityRequestAfterSelection => 19
  | .identityCaptureGap => 20
  | .runUp => 21
  | .idleStop => 22
  | .width => 23
  | .marginBellColumn => 24
  | .overflow => 25
  | .stepSize => 26
  | .stepRate => 27
  | .coolingPause => 28
  | .haltGrace => 29
  | .responseLimit => 30
  | .substituteSymbol => 31
  | .gapSymbol => 32
  | .gapMarkerCode => 33
  | .gapMarkerCount => 34
  | .tapeLowReserve => 35
  | .divertOnPrinterLoss => 36
  | .printSwitchAtConnect => 37
  | .punchSwitchAtConnect => 38
  | .storeHighWater => 39
  | .scanPeriod => 40
  | .pressDebounce => 41
  | .releaseDebounce => 42
  | .stuckTimeout => 43
  | .hostWatchdog => 44
  | .captureFlushTime => 45

/-- The settings in index order. -/
def Setting.all : List Setting :=
    [.lineSpeed, .stopLength, .unshiftOnSpace, .breakThreshold, .breakSendLength, .calibrationMode,
     .fixedSamplePoint, .window, .band, .distortionLimit, .holdoff, .lossTolerance,
     .connectTimeout, .proceedTimeout, .idleClear, .clearingGuard, .attendedAnswerDelay, .identityOnAnswer,
     .answerIdentityDelay, .identityRequestAfterSelection, .identityCaptureGap, .runUp, .idleStop, .width,
     .marginBellColumn, .overflow, .stepSize, .stepRate, .coolingPause, .haltGrace,
     .responseLimit, .substituteSymbol, .gapSymbol, .gapMarkerCode, .gapMarkerCount, .tapeLowReserve,
     .divertOnPrinterLoss, .printSwitchAtConnect, .punchSwitchAtConnect, .storeHighWater, .scanPeriod, .pressDebounce,
     .releaseDebounce, .stuckTimeout, .hostWatchdog, .captureFlushTime]

/-- The range that its chapter gives each setting (R194); the margin bell column is also held to the width. -/
def Setting.ok (k : Setting) (v : Nat) : Bool :=
  match k with
  | .lineSpeed => v ≤ 3
  | .stopLength => v ≤ 2
  | .unshiftOnSpace => v ≤ 1
  | .breakThreshold => 150 ≤ v && v ≤ 1500
  | .breakSendLength => 100 ≤ v && v ≤ 1000
  | .calibrationMode => v ≤ 2
  | .fixedSamplePoint => 2 ≤ v && v ≤ 14
  | .window => 8 ≤ v && v ≤ 64
  | .band => v == 1 || v == 2 || v == 4
  | .distortionLimit => 2 ≤ v && v ≤ 7
  | .holdoff => 5 ≤ v && v ≤ 300 && v % 5 == 0
  | .lossTolerance => 100 ≤ v && v ≤ 1000
  | .connectTimeout => 2 ≤ v && v ≤ 30
  | .proceedTimeout => 2 ≤ v && v ≤ 30
  | .idleClear => v == 0 || (10 ≤ v && v ≤ 600)
  | .clearingGuard => 500 ≤ v && v ≤ 3000
  | .attendedAnswerDelay => v ≤ 60
  | .identityOnAnswer => v ≤ 1
  | .answerIdentityDelay => v ≤ 2000
  | .identityRequestAfterSelection => v ≤ 1
  | .identityCaptureGap => 1 ≤ v && v ≤ 10
  | .runUp => 250 ≤ v && v ≤ 2000
  | .idleStop => v == 0 || (5 ≤ v && v ≤ 600)
  | .width => 40 ≤ v && v ≤ 80
  | .marginBellColumn => v ≤ 80
  | .overflow => v ≤ 1
  | .stepSize => 1 ≤ v && v ≤ 4
  | .stepRate => v == 100 || v == 200 || v == 400 || v == 800
  | .coolingPause => v ≤ 500
  | .haltGrace => v ≤ 120
  | .responseLimit => 50 ≤ v && v ≤ 500
  | .substituteSymbol => v ≤ 127
  | .gapSymbol => v ≤ 127
  | .gapMarkerCode => v ≤ 31
  | .gapMarkerCount => v ≤ 8
  | .tapeLowReserve => v ≤ 1000
  | .divertOnPrinterLoss => v ≤ 1
  | .printSwitchAtConnect => v ≤ 1
  | .punchSwitchAtConnect => v ≤ 1
  | .storeHighWater => 16 ≤ v && v ≤ 255
  | .scanPeriod => 2 ≤ v && v ≤ 20
  | .pressDebounce => 1 ≤ v && v ≤ 8
  | .releaseDebounce => 1 ≤ v && v ≤ 8
  | .stuckTimeout => 1 ≤ v && v ≤ 30
  | .hostWatchdog => v ≤ 60
  | .captureFlushTime => 50 ≤ v && v ≤ 1000

/-- The standing value of a setting. -/
def State.cfg (s : State) (k : Setting) : Nat := s.settings.getD k.index 0

/-- A timer of n ms. -/
def startMs (n : Nat) : Timer := some (msUnits n)

/-- A timer of n s. -/
def startSec (n : Nat) : Timer := some (secUnits n)

/-- A timer of n s whose setting 0 switches it off (section 5.3 of the introduction). -/
def startSecOrOff (n : Nat) : Timer := if n = 0 then none else startSec n

/-! ## Lengths on the line (R1, R19, R31) -/

/-- The element length: 22, 20, 13 1/3 and 10 ms at the four line speeds (section 1.1). -/
def State.elementUnits (s : State) : Nat :=
  match s.cfg .lineSpeed with
  | 0 => 6336
  | 1 => 5760
  | 2 => 3840
  | _ => 2880

/-- The length of the stop element: 1, 1.5 or 2 elements (R1). -/
def State.stopUnits (s : State) : Nat := s.elementUnits * (2 + s.cfg .stopLength) / 2

/-- The sixteenth of the stop sample: 104, 108 or 112 (R19). -/
def State.stopSample (s : State) : Nat := 104 + 4 * s.cfg .stopLength

/-- The time from the start edge to the stop sample. -/
def State.stopSampleUnits (s : State) : Nat := s.elementUnits / 16 * s.stopSample

/-- The threshold: the later of the break threshold and the stop sample (R20). -/
def State.breakUnits (s : State) : Nat := max (msUnits (s.cfg .breakThreshold)) s.stopSampleUnits

/-- One carriage step time, the reciprocal of the step rate (R141). -/
def State.stepUnits (s : State) : Nat := 288000 / s.cfg .stepRate

/-- The time of one byte of ten bits at 9600, 19200, 38400 or 115200 bits per second (R189). -/
def byteUnits (rate : BitVec 2) : Nat :=
  match rate.toNat with
  | 0 => 300
  | 1 => 150
  | 2 => 75
  | _ => 25

/-! ## The levels of a received character (R18, R19, R26) -/

/-- The level at a sixteenth; past the end of what the command gives, the line stands at mark. -/
def levelAt (line : List Level) (i : Nat) : Level := line.getD i .mark

/-- The samples of the five data elements, unit k at sixteenth 16k + p (R18). -/
def sampleLevels (p : Nat) (line : List Level) : List Level :=
  [1, 2, 3, 4, 5].map fun k => levelAt line (16 * k + p)

/-- The sum of the weights of the units at mark, unit 1 first with weight 1 (R1). -/
def weightOf : List Level → Nat
  | [] => 0
  | .mark :: ls => 1 + 2 * weightOf ls
  | .space :: ls => 2 * weightOf ls

/-- The code of five unit levels (R1). -/
def codeOf (levels : List Level) : Code := BitVec.ofNat 5 (weightOf levels)

/-- The displacement of the transition into element j, whose level is `later` (R26). -/
def displacementAt (line : List Level) (j : Nat) (later : Level) : Int :=
  match (List.range 16).find? fun d => levelAt line (16 * j + d - 8) == later with
  | some d => (d : Int) - 8
  | none => 7

/-- The displacements of the transitions from element j - 1 at level `before` through the elements that follow (R26). -/
def displacementsFrom (line : List Level) (j : Nat) (before : Level) : List Level → List Int
  | [] => []
  | l :: ls =>
    let rest := displacementsFrom line (j + 1) l ls
    if l = before then rest else displacementAt line j l :: rest

/-- The displacements of a good character: start at space, the sampled units, stop at mark (R26). -/
def displacementsOf (line levels : List Level) : List Int :=
  displacementsFrom line 1 .space (levels ++ [.mark])

/-! ## Bytes -/

def byteOf (n : Nat) : Byte := BitVec.ofNat 8 n

/-- Two bytes, most significant first (section 10.9). -/
def bytes2 (n : Nat) : List Byte := [byteOf (n / 256), byteOf n]

/-- Three bytes, most significant first. -/
def bytes3 (n : Nat) : List Byte := [byteOf (n / 65536), byteOf (n / 256), byteOf n]

def nat2 (hi lo : Byte) : Nat := 256 * hi.toNat + lo.toNat

def set3 (b2 b1 b0 : Byte) : CondSet := b2 ++ b1 ++ b0

def bit (b : Bool) (k : Nat) : Nat := if b then 2 ^ k else 0

/-- Every value, or none when one is missing. -/
def allSome {α : Type} : List (Option α) → Option (List α)
  | [] => some []
  | none :: _ => none
  | some a :: rest => (allSome rest).map (a :: ·)

/-- The bytes cut into entries of n bytes; none when they are not a whole number of entries (R193). -/
def chunks (n : Nat) : Nat → List Byte → Option (List (List Byte))
  | 0, l => if l.isEmpty then some [] else none
  | fuel + 1, l =>
    if l.isEmpty then some []
    else if l.length < n then none
    else (chunks n fuel (l.drop n)).map (l.take n :: ·)

/-- The entries of a WRITE body: a whole number, at least one, each with a meaning (R193). -/
def parseEntries {α : Type} (n : Nat) (parse : List Byte → Option α) (data : List Byte) : Option (List α) :=
  match chunks n data.length data with
  | none => none
  | some cs => if cs.isEmpty then none else allSome (cs.map parse)

/-- A table with the new entries at consecutive indexes from the first. -/
def overwrite {α : Type} (first : Nat) (new table : List α) : List α :=
  table.take first ++ new ++ table.drop (first + new.length)

/-! ## Codes of the items (section 10.9) -/

def CharClass.ofCode : Nat → Option CharClass
  | 0 => some .print
  | 1 => some .space
  | 2 => some .cr
  | 3 => some .lf
  | 4 => some .bell
  | 5 => some .ltrs
  | 6 => some .figs
  | 7 => some .ident
  | 8 => some .null
  | 9 => some .unassigned
  | _ => none

def CharClass.code : CharClass → Nat
  | .print => 0
  | .space => 1
  | .cr => 2
  | .lf => 3
  | .bell => 4
  | .ltrs => 5
  | .figs => 6
  | .ident => 7
  | .null => 8
  | .unassigned => 9

def SeqAction.ofCode : Nat → Option SeqAction
  | 0 => some .punchOn
  | 1 => some .punchOff
  | 2 => some .printOn
  | 3 => some .printOff
  | 4 => some .endOfMessage
  | 5 => some .clear
  | 6 => some .notice
  | _ => none

def SeqAction.code : SeqAction → Nat
  | .punchOn => 0
  | .punchOff => 1
  | .printOn => 2
  | .printOff => 3
  | .endOfMessage => 4
  | .clear => 5
  | .notice => 6

def KeyFunction.ofCode : Nat → Option KeyFunction
  | 0 => some .hereIs
  | 1 => some .brk
  | 2 => some .answer
  | 3 => some .clear
  | 4 => some .fkey1
  | 5 => some .fkey2
  | 6 => some .fkey3
  | 7 => some .fkey4
  | _ => none

def KeyFunction.code : KeyFunction → Nat
  | .hereIs => 0
  | .brk => 1
  | .answer => 2
  | .clear => 3
  | .fkey1 => 4
  | .fkey2 => 5
  | .fkey3 => 6
  | .fkey4 => 7

def Mode.ofCode : Nat → Option Mode
  | 0 => some .localMode
  | 1 => some .attended
  | 2 => some .unattended
  | _ => none

def Mode.code : Mode → Nat
  | .localMode => 0
  | .attended => 1
  | .unattended => 2

def CallState.code : CallState → Nat
  | .free => 0
  | .offered => 1
  | .refused => 2
  | .answering => 3
  | .calling => 4
  | .selecting => 5
  | .connected => 6
  | .clearing => 7

def CallOutcome.code : CallOutcome → Nat
  | .localClear => 0
  | .remoteClear => 1
  | .idleClear => 2
  | .sequenceClear => 3
  | .recorderLost => 4
  | .noConnect => 5
  | .refused => 6
  | .missed => 7
  | .collided => 8
  | .abandoned => 9

def Source.code : Source → Nat
  | .line => 0
  | .keyboard => 1
  | .host => 2
  | .answerback => 3

def MotorState.code : MotorState → Nat
  | .stopped => 0
  | .runup => 1
  | .running => 2

def PrinterState.code : PrinterState → Nat
  | .idle => 0
  | .busy => 1
  | .halted => 2
  | .out => 3
  | .off => 4

def PunchState.code : PunchState → Nat
  | .idle => 0
  | .busy => 1
  | .out => 2
  | .off => 3

def CaptureState.code : CaptureState → Nat
  | .disarmed => 0
  | .armed => 1
  | .held => 2

def CalState.code : CalState → Nat
  | .idle => 0
  | .measuring => 1
  | .settled => 2
  | .holdoff => 3

def Shift.code : Shift → Nat
  | .letters => 0
  | .figures => 1

def Direction.code : Direction → Nat
  | .incoming => 0
  | .outgoing => 1

def RejectReason.code : RejectReason → Nat
  | .check => 1
  | .kind => 2
  | .length => 3
  | .range => 4
  | .state => 5
  | .busy => 6

def EndReason.code : EndReason → Nat
  | .done => 0
  | .disarmed => 1
  | .cleared => 2
  | .brk => 3
  | .hostSilent => 4

def SignalMode.code : SignalMode → Nat
  | .off => 0
  | .direct => 1
  | .linked => 2

/-! ## Table entries as bytes (section 10.9) -/

/-- A byte that must be an internal character. -/
def icharOf (b : Byte) : Option IChar := if b.toNat ≤ 127 then some (b.setWidth 7) else none

def icharByte (c : IChar) : Byte := c.setWidth 8

def TransEntry.ofBytes : List Byte → Option TransEntry
  | [c, k] =>
    match icharOf c, CharClass.ofCode k.toNat with
    | some c, some k => some { char := c, cls := k }
    | _, _ => none
  | _ => none

def TransEntry.bytes (e : TransEntry) : List Byte := [icharByte e.char, byteOf e.cls.code]

def RouteEntry.ofBytes : List Byte → Option RouteEntry
  | [b] =>
    if b.toNat ≤ 15 then
      some { print := b.getLsbD 0, punch := b.getLsbD 1, capture := b.getLsbD 2, line := b.getLsbD 3 }
    else none
  | _ => none

def RouteEntry.bytes (r : RouteEntry) : List Byte :=
  [byteOf (bit r.print 0 + bit r.punch 1 + bit r.capture 2 + bit r.line 3)]

/-- An entry of the sequence table: length, eight positions, action, mode set with the notice flag (R96, R97). -/
def SeqEntry.ofBytes : List Byte → Option SeqEntry
  | len :: p1 :: p2 :: p3 :: p4 :: p5 :: p6 :: p7 :: p8 :: act :: modes :: [] =>
    match allSome ([p1, p2, p3, p4, p5, p6, p7, p8].map icharOf), SeqAction.ofCode act.toNat with
    | some pattern, some action =>
      if len.toNat ≤ 8 ∧ modes &&& 0x78 = 0 then
        some
          { length := len.toNat, pattern := pattern, action := action, inLocal := modes.getLsbD 0
            inAttended := modes.getLsbD 1, inUnattended := modes.getLsbD 2, noticeFlag := modes.getLsbD 7 }
      else none
    | _, _ => none
  | _ => none

def SeqEntry.bytes (e : SeqEntry) : List Byte :=
  [byteOf e.length] ++ e.pattern.map icharByte
    ++ [byteOf e.action.code
      , byteOf (bit e.inLocal 0 + bit e.inAttended 1 + bit e.inUnattended 2 + bit e.noticeFlag 7)]

/-- A keymap entry: kind, then internal character or function, 0 for NONE (R119, R120). -/
def KeyEntry.ofBytes : List Byte → Option KeyEntry
  | [k, v] =>
    match k.toNat with
    | 0 => if v.toNat = 0 then some .none else Option.none
    | 1 => (icharOf v).map .char
    | 2 => (KeyFunction.ofCode v.toNat).map .function
    | _ => Option.none
  | _ => Option.none

def KeyEntry.kind : KeyEntry → Nat
  | .none => 0
  | .char _ => 1
  | .function _ => 2

def KeyEntry.bytes : KeyEntry → List Byte
  | .none => [0, 0]
  | .char c => [1, icharByte c]
  | .function f => [2, byteOf f.code]

/-- A value of the SETTINGS table, two bytes. -/
def settingOfBytes : List Byte → Option Nat
  | [hi, lo] => some (nat2 hi lo)
  | _ => none

/-- An entry of the SIGNALS table (R210): mode 3, an unnamed bit and a mask bit above 17 give none. -/
def SignalEntry.ofBytes : List Byte → Option SignalEntry
  | [b, m2, m1, m0] =>
    let mask := set3 m2 m1 m0
    if b.toNat ≤ 31 ∧ mask.toNat < 2 ^ 18 then
      let entry (mode : SignalMode) : SignalEntry :=
        { mode := mode, activeLow := b.getLsbD 2, latched := b.getLsbD 3, directLevel := b.getLsbD 4
          mask := mask }
      match b.toNat % 4 with
      | 0 => some (entry .off)
      | 1 => some (entry .direct)
      | 2 => some (entry .linked)
      | _ => none
    else none
  | _ => none

def SignalEntry.bytes (e : SignalEntry) : List Byte :=
  byteOf (e.mode.code + bit e.activeLow 2 + bit e.latched 3 + bit e.directLevel 4) :: bytes3 e.mask.toNat

/-- A code of the answerback memory (R105). -/
def codeOfByte (b : Byte) : Option Code := if b.toNat ≤ 31 then some (b.setWidth 5) else none

/-! ## Names of the classes and sinks -/

/-- The shift that a class names (R2). -/
def CharClass.names : CharClass → Option Shift
  | .ltrs => some .letters
  | .figs => some .figures
  | _ => none

def Shift.other : Shift → Shift
  | .letters => .figures
  | .figures => .letters

/-- The class that names a shift (R2). -/
def Shift.shiftClass : Shift → CharClass
  | .letters => .ltrs
  | .figures => .figs

def SinkSet.has (p : SinkSet) : Sink → Bool
  | .print => p.print
  | .punch => p.punch
  | .capture => p.capture

def SinkSet.without (p : SinkSet) : Sink → SinkSet
  | .print => { p with print := false }
  | .punch => { p with punch := false }
  | .capture => { p with capture := false }

def SinkSet.isEmpty (p : SinkSet) : Bool := !p.print && !p.punch && !p.capture

def Cursors.get (c : Cursors) : Sink → Nat
  | .print => c.print
  | .punch => c.punch
  | .capture => c.capture

def Cursors.set (c : Cursors) (k : Sink) (n : Nat) : Cursors :=
  match k with
  | .print => { c with print := n }
  | .punch => { c with punch := n }
  | .capture => { c with capture := n }

def Entry.holds (k : Sink) (e : Entry) : Bool := e.pending.has k

/-- The index of a (source, mode) pair in the route table (R82). -/
def routeIndex (src : Source) (m : Mode) : Nat := 3 * src.code + m.code

/-- The mode set of a sequence entry (R96). -/
def SeqEntry.inMode (e : SeqEntry) : Mode → Bool
  | .localMode => e.inLocal
  | .attended => e.inAttended
  | .unattended => e.inUnattended

/-- An entry is active while its length is not 0 and its mode set holds the mode (R96). -/
def SeqEntry.active (e : SeqEntry) (m : Mode) : Bool := e.length != 0 && e.inMode m

end Sys2Proof.Machine
end

