-- ==== Sys2Proof/Machine/Update.lean ====
section
/-! DEFINITION. One update for each unit's part of the state; every other part stands. -/

namespace Sys2Proof.Machine

def State.modPins (f : Inputs → Inputs) (s : State) : State := { s with pins := f s.pins }

def State.modTranslate (f : List TransEntry → List TransEntry) (s : State) : State := { s with translate := f s.translate }

def State.modSettings (f : List Nat → List Nat) (s : State) : State := { s with settings := f s.settings }

def State.modRx (f : Receiver → Receiver) (s : State) : State := { s with rx := f s.rx }

def State.modCal (f : Calibrator → Calibrator) (s : State) : State := { s with cal := f s.cal }

def State.modTx (f : Transmitter → Transmitter) (s : State) : State := { s with tx := f s.tx }

def State.modCall (f : Call → Call) (s : State) : State := { s with call := f s.call }

def State.modStore (f : Store → Store) (s : State) : State := { s with store := f s.store }

def State.modRoute (f : Route → Route) (s : State) : State := { s with route := f s.route }

def State.modMatcher (f : Matcher → Matcher) (s : State) : State := { s with matcher := f s.matcher }

def State.modAnswer (f : Answerback → Answerback) (s : State) : State := { s with answer := f s.answer }

def State.modKb (f : Keyboard → Keyboard) (s : State) : State := { s with kb := f s.kb }

def State.modPrinter (f : Printer → Printer) (s : State) : State := { s with printer := f s.printer }

def State.modBell (f : Timer → Timer) (s : State) : State := { s with bell := f s.bell }

def State.modPunch (f : Punch → Punch) (s : State) : State := { s with punch := f s.punch }

def State.modMotor (f : Motor → Motor) (s : State) : State := { s with motor := f s.motor }

def State.modStation (f : Station → Station) (s : State) : State := { s with station := f s.station }

def State.modLink (f : Link → Link) (s : State) : State := { s with link := f s.link }

def State.modCond (f : Conditions → Conditions) (s : State) : State := { s with cond := f s.cond }

def State.modHostRx (f : HostWire → HostWire) (s : State) : State := { s with hostRx := f s.hostRx }

def State.modFreeCount (f : Nat → Nat) (s : State) : State := { s with freeCount := f s.freeCount }

def State.modPending (f : List Instr → List Instr) (s : State) : State := { s with pending := f s.pending }

/-- The SEND channel of the link. -/
def State.modSend (f : SendChannel → SendChannel) (s : State) : State :=
  s.modLink fun l => { l with send := f l.send }

/-- The CAPTURE channel of the link. -/
def State.modCapture (f : CaptureChannel → CaptureChannel) (s : State) : State :=
  s.modLink fun l => { l with capture := f l.capture }

/-- The open call record, while one is open (R182). -/
def State.modRecord (f : CallRecord → CallRecord) (s : State) : State :=
  s.modStation fun u => { u with record := u.record.map f }

end Sys2Proof.Machine
end

