-- ==== Sys2Proof/Machine/Flags.lean ====
section
/-! DEFINITION. Conditions, the fault store, notices, record counters and the signal outputs (Chapters 9, 10.7 and 11). -/

namespace Sys2Proof.Machine

/-! ## Condition bits (section 10.9) -/

def Cond.paperOut : Nat := 0
def Cond.headWarm : Nat := 1
def Cond.headHot : Nat := 2
def Cond.tapeLow : Nat := 3
def Cond.tapeOut : Nat := 4
def Cond.stuckKey : Nat := 5
def Cond.hostSilent : Nat := 6
def Cond.callOffered : Nat := 7
def Cond.connected : Nat := 8
def Cond.unattended : Nat := 9
def Cond.motorRunning : Nat := 10
def Cond.printerJam : Nat := 11
def Cond.punchJam : Nat := 12
def Cond.lineLost : Nat := 13
def Cond.storeOverrun : Nat := 14
def Cond.calError : Nat := 15
def Cond.answerbackEmpty : Nat := 16
def Cond.recorderLost : Nat := 17

/-- The live faults, bits 0 to 6 (section 11.1). -/
def Cond.liveFaults : CondSet := 0x00007F

/-- The status conditions, bits 7 to 10 (section 11.1). -/
def Cond.statuses : CondSet := 0x000780

/-- The event faults, bits 11 to 17 (section 11.1). -/
def Cond.events : CondSet := 0x03F800

/-- The number of positions in STUCK (R117). -/
def State.stuckCount (s : State) : Nat := (s.kb.positions.filter fun k => k.state == .stuck).length

/-- The live condition set: each member equal to the state the table of section 11.1 names for it (R205). -/
def State.live (s : State) : CondSet :=
  BitVec.ofNat 24
    (bit s.pins.paperOut Cond.paperOut + bit s.pins.headWarm Cond.headWarm + bit s.pins.headHot Cond.headHot
      + bit s.pins.tapeLow Cond.tapeLow + bit (s.punch.tape == 0) Cond.tapeOut
      + bit (s.stuckCount != 0) Cond.stuckKey + bit s.station.hostSilent Cond.hostSilent
      + bit (s.call.state == .offered) Cond.callOffered + bit (s.call.state == .connected) Cond.connected
      + bit (s.station.mode == .unattended) Cond.unattended
      + bit (s.motor.state == .running) Cond.motorRunning)

/-! ## Notices (R204) -/

/-- The kind code of a notice (R204). -/
def Notice.kind : Notice → Nat
  | .restart .. => 1
  | .mode .. => 2
  | .call .. => 3
  | .closed .. => 4
  | .channel .. => 5
  | .store .. => 6
  | .fault .. => 7
  | .sequence .. => 8
  | .key .. => 9
  | .operator .. => 10
  | .calibration .. => 11

/-- The pending set with a notice in it: one body of each kind, the latest, in rising kind codes (R204). -/
def putNotice (n : Notice) : List Notice → List Notice
  | [] => [n]
  | m :: ms =>
    if n.kind < m.kind then n :: m :: ms
    else if n.kind = m.kind then n :: ms
    else m :: putNotice n ms

/-- Makes a notice pending (R204). -/
def State.note (n : Notice) (s : State) : State :=
  s.modLink fun l => { l with notices := putNotice n l.notices }

/-! ## The fault store (R206) -/

/-- Latches condition bit k: a new member makes a FAULT notice pending with the whole store (R206). -/
def State.latch (k : Nat) (s : State) : State :=
  if s.cond.faults.getLsbD k then s
  else
    let faults := s.cond.faults ||| BitVec.ofNat 24 (2 ^ k)
    (s.modCond fun c => { c with faults := faults }).note (.fault faults)

/-- Latches bit k when its condition becomes true. -/
def State.latchIf (b : Bool) (k : Nat) (s : State) : State := if b then s.latch k else s

/-- The store after ORDER CLEAR FAULTS: named bits leave, and the live faults among them join again (R207). -/
def clearedFaults (named live faults : CondSet) : CondSet :=
  (faults &&& ~~~ named) ||| (faults &&& named &&& live &&& Cond.liveFaults)

/-! ## Signal outputs (R209) -/

/-- The set that a LINKED output's mask is tested against (R209). -/
def State.testedSet (s : State) (latched : Bool) : CondSet :=
  (s.live &&& Cond.statuses) ||| (s.cond.faults &&& Cond.events)
    ||| ((if latched then s.cond.faults else s.live) &&& Cond.liveFaults)

/-- A signal output is active as its entry decides (R209). -/
def State.signalActive (s : State) (e : SignalEntry) : Bool :=
  match e.mode with
  | .off => false
  | .direct => e.directLevel
  | .linked => e.mask &&& s.testedSet e.latched != 0

/-! ## The open call record (R182) -/

/-- A counter increased by 1, saturating at 65535 (R182). -/
def bump (n : Nat) : Nat := min (n + 1) 65535

/-- Sets the outcome of the open record, unless one is set (R182: set once, a further cause absorbed). -/
def State.setOutcome (o : CallOutcome) (s : State) : State :=
  s.modRecord fun r => { r with outcome := r.outcome.orElse fun _ => some o }

def State.flagRecord (f : RecordFlags → RecordFlags) (s : State) : State :=
  s.modRecord fun r => { r with flags := f r.flags }

/-- Counts a stored character in the part of its source (R80). -/
def State.countStored (src : Source) (s : State) : State :=
  s.modRecord fun r =>
    if src = .line then { r with storedLine := bump r.storedLine }
    else { r with storedStation := bump r.storedStation }

/-- Counts an unrouted character in the part of its source (R80). -/
def State.countUnrouted (src : Source) (s : State) : State :=
  s.modRecord fun r =>
    if src = .line then { r with unroutedLine := bump r.unroutedLine }
    else { r with unroutedStation := bump r.unroutedStation }

/-- Whole seconds of the connected time, saturating (R64, R182). -/
def secondsOf (units : Nat) : Nat := min (units / 288000) 16777215

/-- The connected seconds so far: running in CONNECTED, as fixed otherwise (R64, R183). -/
def State.connectedSeconds (s : State) (r : CallRecord) : Nat :=
  if s.call.state = .connected then secondsOf s.call.connectedTime else r.connectedSeconds

/-- The number of the open record, 0 when none is open. -/
def State.recordNumber (s : State) : Nat := (s.station.record.map (·.number)).getD 0

end Sys2Proof.Machine
end

