-- ==== Sys2Proof/Machine/Ops.lean ====
section
/-! DEFINITION. The operations that several commands share: the motor's start cause, resolution, sink sets, the traffic store,
the ends of the channels, and the course of a call. -/

namespace Sys2Proof.Machine

/-! ## The motor (section 8.1) -/

/-- A start cause (R158). -/
def State.startCause (s : State) : State :=
  match s.motor.state with
  | .stopped => s.modMotor fun m => { m with state := .runup, runUp := startMs (s.cfg .runUp) }
  | .runup => s
  | .running =>
    s.modMotor fun m =>
      { m with idleStop := if m.idleStop.isSome then startSecOrOff (s.cfg .idleStop) else none }

/-- The idle conditions (R160); a last step of an aborted slew is an operation in flight (log 13). -/
def State.idleConditions (s : State) : Bool :=
  s.call.state == .free
    && s.store.entries.all (fun e => !e.pending.print && !e.pending.punch)
    && s.printer.op.isNone && s.printer.aborted.isNone && s.punch.op.isNone && s.punch.leader == 0

/-- The idle-stop timer at the end of a command: started when the last idle condition has come to hold in RUNNING, cancelled
when one has ceased to hold (R160). An idle stop written above 0 while the conditions hold and no timer runs does not start it:
R160's list of starts is followed and not its "runs while", the model's choice (log 43). -/
def State.motorWatch (before after : State) : State :=
  if after.motor.state != .running then after
  else if !after.idleConditions then after.modMotor fun m => { m with idleStop := none }
  else if before.idleConditions && before.motor.state == .running then after
  else after.modMotor fun m => { m with idleStop := startSecOrOff (after.cfg .idleStop) }

/-- A command's whole outcome: its effect, then the idle-stop timer. -/
def complete (f : State → State) (s : State) : Host.Outcome State Fault Refusal :=
  .next (s.motorWatch (f s))

/-- A pulse of 50 ms on the shared BELL output (R122, R140). -/
def State.bellPulse (s : State) : State := s.modBell fun t => some (max (t.getD 0) (msUnits 50))

/-! ## The translation table (Chapter 1) -/

/-- The entry of a code in a shift (R3). -/
def State.entryAt (s : State) (sh : Shift) (c : Code) : TransEntry :=
  s.translate.getD (32 * sh.code + c.toNat) { char := 0, cls := .unassigned }

/-- The lowest code of a half of the table whose entry satisfies p. -/
def State.findCode (s : State) (sh : Shift) (p : TransEntry → Bool) : Option Code :=
  ((List.range 32).find? fun n => p (s.entryAt sh (BitVec.ofNat 5 n))).map (BitVec.ofNat 5)

/-- The lowest code in a half that carries an internal character (R10). -/
def State.carrier (s : State) (sh : Shift) (c : IChar) : Option Code :=
  s.findCode sh fun e => e.char == c && e.cls != .unassigned

/-- The lowest code in a half whose class names the other shift (R10 step 3). -/
def State.shiftCode (s : State) (sh : Shift) : Option Code :=
  s.findCode sh fun e => e.cls == sh.other.shiftClass

/-- c is resolvable from a shift (R9). -/
def State.resolvableFrom (s : State) (sh : Shift) (c : IChar) : Bool :=
  (s.carrier sh c).isSome || ((s.carrier sh.other c).isSome && (s.shiftCode sh).isSome)

/-- c has a resolution (R9). -/
def State.hasResolution (s : State) (c : IChar) : Bool :=
  s.resolvableFrom .letters c && s.resolvableFrom .figures c

/-- The codes of an internal character from a shift, each with the table entry used (R10, R11). -/
def State.resolve (s : State) (sh : Shift) (c : IChar) : Option (List (Code × TransEntry)) :=
  match s.carrier sh c with
  | some k => some [(k, s.entryAt sh k)]
  | none =>
    match s.carrier sh.other c with
    | none => none
    | some k =>
      let e := s.entryAt sh.other k
      if e.cls.names.isSome then some [(k, e)]
      else (s.shiftCode sh).map fun j => [(j, s.entryAt sh j), (k, e)]

/-- The codes of an IDENT sending from the send shift (R39). -/
def State.identCodes (s : State) : Option (List Code) :=
  match s.findCode s.tx.shift fun e => e.cls == .ident with
  | some k => some [k]
  | none =>
    match s.findCode s.tx.shift.other fun e => e.cls == .ident, s.shiftCode s.tx.shift with
    | some k, some j => some [j, k]
    | _, _ => none

/-- The effect of a code on the send shift, its class read in the send shift as it stands (R12). -/
def State.moveSendShift (c : Code) (s : State) : State :=
  match (s.entryAt s.tx.shift c).cls.names with
  | some sh => s.modTx fun t => { t with shift := sh }
  | none => s

/-- The table lock (R14). -/
def State.tableLock (s : State) : Bool :=
  s.call.state != .free || !s.kb.queue.isEmpty || !s.link.send.queue.isEmpty

/-! ## Routes and sink sets (sections 4.3 to 4.7) -/

/-- A sink is attached as the state of its device says (R87). -/
def State.attached (s : State) : Sink → Bool
  | .print => s.printer.state == .idle || s.printer.state == .busy || s.printer.state == .halted
  | .punch => s.punch.state == .idle || s.punch.state == .busy
  | .capture => s.link.capture.state != .disarmed

/-- The route entry of a source in a mode (R82). -/
def State.routeEntry (s : State) (src : Source) (m : Mode) : RouteEntry :=
  s.route.table.getD (routeIndex src m) { print := false, punch := false, capture := false, line := false }

/-- The route entry of a source in the standing mode names LINE (R84). -/
def State.namesLine (s : State) (src : Source) : Bool := (s.routeEntry src s.station.mode).line

/-- Diversion applies (R90). -/
def State.diversionApplies (s : State) : Bool :=
  s.cfg .divertOnPrinterLoss == 1 && s.printer.state == .out && s.station.mode == .unattended

/-- The sink set of a new entry (R76). -/
def State.sinkSet (s : State) (src : Source) : SinkSet :=
  let r := s.routeEntry src s.station.mode
  let print := r.print && (src != .line || s.route.printSwitch)
  let punch :=
    if src != .line then r.punch
    else if s.diversionApplies && print then true
    else r.punch && s.route.punchSwitch
  { print := print && s.attached .print, punch := punch && s.attached .punch
    capture := r.capture && s.attached .capture }

/-- A sink that a route entry names is attached (R48, R92). -/
def State.namedSinkAttached (s : State) (r : RouteEntry) : Bool :=
  (r.print && s.attached .print) || (r.punch && s.attached .punch) || (r.capture && s.attached .capture)

/-! ## The traffic store (Chapter 4) -/

/-- The places of the traffic store (R69). -/
def storeSize : Nat := 256

/-- The number of free entries (R69). -/
def State.freeEntries (s : State) : Nat :=
  storeSize - s.store.entries.length - (if s.tx.reservation then 1 else 0)

/-- The lag of a sink (R71). -/
def State.lag (s : State) (k : Sink) : Nat := s.store.entries.length - s.store.cursors.get k

/-- The index of the oldest entry at or after index i that holds the sink (R73). -/
def nextHeld (k : Sink) (i : Nat) (es : List Entry) : Option Nat :=
  ((es.drop i).findIdx? fun e => e.holds k).map (i + ·)

/-- The entry that a sink would take, with its index (R73). -/
def State.nextFor (s : State) (k : Sink) : Option (Nat × Entry) :=
  match nextHeld k (s.store.cursors.get k) s.store.entries with
  | none => none
  | some i => (s.store.entries[i]?).map fun e => (i, e)

/-- The number of leading entries whose pending sets are empty (R75). -/
def emptyHeads : List Entry → Nat
  | [] => 0
  | e :: es => if e.pending.isEmpty then emptyHeads es + 1 else 0

/-- The cursors after the removal of n entries at the head (R71). -/
def Cursors.back (c : Cursors) (n : Nat) : Cursors :=
  { print := c.print - n, punch := c.punch - n, capture := c.capture - n }

/-- Removal of the empty heads, and the high-water flag that a removal may set again (R75, R81). -/
def State.trim (s : State) : State :=
  let n := emptyHeads s.store.entries
  if n = 0 then s
  else
    s.modStore fun t =>
      { t with
        entries := t.entries.drop n
        cursors := t.cursors.back n
        armed := t.armed || 2 * (t.entries.length - n) < s.cfg .storeHighWater }

/-- The entries with the sink taken from the first n that hold it (R74). -/
def releaseHeld (k : Sink) : Nat → List Entry → List Entry
  | 0, es => es
  | _ + 1, [] => []
  | n + 1, e :: es =>
    if e.holds k then { e with pending := e.pending.without k } :: releaseHeld k n es
    else e :: releaseHeld k (n + 1) es

/-- The sink consumes the first n entries after its cursor that hold it (R74). -/
def State.consume (k : Sink) (n : Nat) (s : State) : State :=
  (s.modStore fun t =>
    let i := t.cursors.get k
    let es := t.entries.take i ++ releaseHeld k n (t.entries.drop i)
    { t with entries := es, cursors := t.cursors.set k ((nextHeld k i es).getD es.length) }).trim

/-- The entries after the CAPTURE cursor that hold CAPTURE. -/
def State.heldForCapture (s : State) : List Entry :=
  (s.store.entries.drop s.store.cursors.capture).filter fun e => e.holds .capture

/-- The CAPTURE channel gathers what it can into its frame (R73, R202). -/
def State.gather (s : State) : State :=
  let c := s.link.capture
  let limit := min c.size c.remaining
  let taken := min limit s.heldForCapture.length
  if c.state != .armed || c.closed || taken ≤ c.taken then s
  else
    let s := if c.taken = 0 then
        s.modStore fun t =>
          { t with cursors := { t.cursors with
              capture := (nextHeld .capture t.cursors.capture t.entries).getD t.entries.length } }
      else s
    s.modCapture fun c =>
      { c with
        taken := taken
        closed := taken == limit
        flush := if taken = limit then none
          else if c.taken = 0 then startMs (s.cfg .captureFlushTime) else c.flush }

/-- The STORE notice of an append (R81). It stands after the append has cleared the gap count (R79), so it gives 0: the model's
choice (log 40). -/
def State.storeNotice (s : State) : State :=
  if s.store.armed && s.cfg .storeHighWater ≤ s.store.entries.length then
    (s.note (.store s.store.entries.length s.store.gap (s.lag .print) (s.lag .punch) (s.lag .capture))).modStore
      fun t => { t with armed := false }
  else s

/-- The entry of a character before its GAP_BEFORE mark (R70). -/
def newEntry (code : Code) (sh : Shift) (e : TransEntry) (src : Source) (mutilated : Bool) (set : SinkSet) : Entry :=
  { code := code, shift := sh, char := e.char, cls := e.cls, source := src, mutilated := mutilated
    gapBefore := false, pending := set }

/-- An entry is appended: GAP_BEFORE and the gap count back to 0, the counts, the start cause, the STORE notice, the gathering
(R77 to R81, R202). The gap count goes before the notice (log 40), and the notice before the gathering (log 23): the model's
choices. -/
def State.append (e : Entry) (s : State) : State :=
  let s := s.modStore fun t =>
    { t with entries := t.entries ++ [{ e with gapBefore := t.gap != 0 }], gap := 0 }
  let s := s.countStored e.source
  let s := if e.pending.print || e.pending.punch then s.startCause else s
  s.storeNotice.gather

/-- A LINE character is stored, counted unrouted or lost (R77). -/
def State.routeLine (code : Code) (sh : Shift) (e : TransEntry) (mutilated : Bool) (s : State) : State :=
  let set := s.sinkSet .line
  if set.isEmpty then s.countUnrouted .line
  else if s.freeEntries = 0 then
    ((s.modStore fun t => { t with gap := bump t.gap }).modRecord fun r => { r with lost := bump r.lost }).latch
      Cond.storeOverrun
  else s.append (newEntry code sh e .line mutilated set)

/-! ## The end of an arming (sections 10.5, 10.6) -/

/-- A SEND unit in flight counts no more once its arming has ended (R200). -/
def TxUnit.uncounted : TxUnit → TxUnit
  | .send _ => .send false
  | u => u

def TxPhase.uncounted : TxPhase → TxPhase
  | .code c u f el st => .code c u.uncounted f el st
  | .unitWait c u owed => .unitWait c u.uncounted owed
  | p => p

/-- A SEND character is disposed of: the count falls, and at 0 the arming is done (R200). -/
def State.countSend (s : State) : State :=
  if s.link.send.remaining ≤ 1 then
    (s.modSend fun c => { c with armed := false, held := false, remaining := 0 }).note (.channel false .done 0)
  else s.modSend fun c => { c with remaining := c.remaining - 1 }

/-- The SEND arming ends early; the SEND queue is emptied (R200). -/
def State.endSend (why : EndReason) (s : State) : State :=
  if s.link.send.armed then
    ((s.modSend fun c => { c with armed := false, held := false, queue := [] }).modTx fun t =>
      { t with phase := t.phase.uncounted }).note (.channel false why s.link.send.remaining)
  else s.modSend fun c => { c with queue := [] }

/-! ## The course of a call (Chapter 3) -/

/-- A code, a break or a break's guard is in flight (R61). -/
def State.inFlight (s : State) : Bool :=
  match s.tx.phase with
  | .code .. | .brk | .breakGuard => true
  | .free | .unitWait .. => false

/-- What is left of the phase when the call leaves SELECTING or CONNECTED (R42). -/
def TxPhase.afterLine : TxPhase → TxPhase
  | .code c u (.code _) el st => .code c u .abandoned el st
  | .unitWait .. => .free
  | p => p

/-- The second code of a unit is not yet begun. -/
def TxPhase.waits : TxPhase → Bool
  | .unitWait .. => true
  | _ => false

/-- The transmitter discards the work it has not begun (R42). -/
def State.discardWork (s : State) : State :=
  s.modTx fun t =>
    { t with
      phase := t.phase.afterLine
      reservation := t.reservation && !t.phase.waits
      breakPending := false
      identPending := none
      selection := [] }

/-- The receiver enters OFF and abandons the character in assembly (R16). -/
def State.receiverOff (s : State) : State :=
  s.modRx fun r => { r with framing := .off, levels := [], displacements := [] }

/-- The receiver leaves OFF (R16). -/
def State.receiverOn (s : State) : State := s.modRx fun r => { r with framing := .awaitMark }

/-- The window sums and count set to zero (R27). -/
def Calibrator.fresh (c : Calibrator) : Calibrator := { c with sumT := 0, sumS := 0, maxM := 0, count := 0 }

/-- A calibrator in MEASURING or SETTLED. -/
def Calibrator.measures (c : Calibrator) : Bool := c.state == .measuring || c.state == .settled

/-- The identity-capture window closes (R112). -/
def State.closeWindow (s : State) : State := s.modAnswer fun a => { a with window := none, gapTimer := none }

/-- The departure from CONNECTED: calibrator, answerback run, window and connected seconds (R24, R64, R109, R112). -/
def State.leaveConnected (s : State) : State :=
  ((s.modCal fun c => if c.measures then { c.fresh with state := .idle } else c).modAnswer fun a =>
      { a with run := none, window := none, gapTimer := none }).modRecord fun r =>
    { r with connectedSeconds := secondsOf s.call.connectedTime }

/-- A call controller with no timer running and no local clear. -/
def Call.quiet (c : Call) (st : CallState) : Call :=
  { c with
    state := st, localClear := false, answerDelay := none, connect := none, proceed := none, loss := none
    identity := none, idleClear := none, guard := none }

/-- The entry to CLEARING (R42, R64, R65). -/
def State.enterClearing (s : State) : State :=
  let s := if s.call.state = .connected then s.leaveConnected else s
  s.receiverOff.discardWork.modCall fun c =>
    { c.quiet .clearing with guard := startMs (s.cfg .clearingGuard) }

/-- The keyboard and SEND queues are emptied and an ARMED SEND channel ends as CLEARED (R61, R64). -/
def State.emptyQueues (s : State) : State := (s.modKb fun k => { k with queue := [] }).endSend .cleared

/-- A local clear begins in CONNECTED; a further cause is absorbed (R61, R62). -/
def State.beginLocalClear (o : CallOutcome) (s : State) : State :=
  if s.call.state != .connected || s.call.localClear then s
  else
    let s := ((s.setOutcome o).latchIf (o == .recorderLost) Cond.recorderLost).emptyQueues
    let s := s.modCall fun c => { c with localClear := true, idleClear := none, identity := none }
    if s.inFlight then s else s.enterClearing

/-- A local clear in SELECTING: the queues and the SEND channel are not touched (R56, R61). -/
def State.beginSelectionClear (s : State) : State :=
  if s.call.localClear then s
  else
    let s := (s.setOutcome .localClear).modCall fun c => { c with localClear := true }
    let s := s.modTx fun t => { t with selection := [] }
    if s.inFlight then s else s.enterClearing

/-- The recorder condition (R92). -/
def State.recorderCondition (s : State) : Bool :=
  s.station.mode == .unattended && s.call.state == .connected
    && !s.namedSinkAttached (s.routeEntry .line .unattended)

/-- The recorder test (R92). -/
def State.recorderTest (s : State) : State :=
  if s.recorderCondition then s.beginLocalClear .recorderLost else s

/-- The effects of a detachment on the store, and the recorder test (R89). -/
def State.detach (k : Sink) (s : State) : State :=
  (s.modStore fun t =>
    { t with
      entries := t.entries.map fun e => { e with pending := e.pending.without k }
      cursors := t.cursors.set k t.entries.length }).trim.recorderTest

/-- The effect of an attachment on the store (R88). -/
def State.attach (k : Sink) (s : State) : State :=
  s.modStore fun t => { t with cursors := t.cursors.set k t.entries.length }

/-- The CAPTURE channel ends early (R201). Its CHANNEL notice is made after the recorder test of the detachment, and so replaces
the one that a local clear makes for SEND: the model's choice (log 47). -/
def State.endCapture (why : EndReason) (s : State) : State :=
  if s.link.capture.state = .disarmed then s
  else
    ((s.modCapture fun c => { c with state := .disarmed, taken := 0, closed := false, flush := none }).detach
      .capture).note (.channel true why s.link.capture.remaining)

/-- An answerback request (R106). -/
def State.answerbackRequest (s : State) : State :=
  if s.call.state != .connected then s
  else if s.answer.memory.isEmpty then s.latch Cond.answerbackEmpty
  else if s.answer.run.isSome then s
  else s.modAnswer fun a => { a with run := some 0 }

/-- The idle-clear timer is restarted while the call is CONNECTED and no local clear has begun (R59; setting 0, log 20). -/
def State.restartIdle (s : State) : State :=
  if s.call.state = .connected ∧ s.call.localClear = false then
    s.modCall fun c => { c with idleClear := startSecOrOff (s.cfg .idleClear) }
  else s

/-- The calibrator at the entry to CONNECTED (R24). -/
def State.startCalibration (s : State) : State :=
  s.modCal fun c =>
    if c.state = .holdoff ∨ s.cfg .calibrationMode = 0 then c else { c.fresh with state := .measuring }

/-- The switches at their at-connect settings (R86). -/
def State.switchesAtConnect (s : State) : State :=
  s.modRoute fun r =>
    { r with printSwitch := s.cfg .printSwitchAtConnect == 1, punchSwitch := s.cfg .punchSwitchAtConnect == 1 }

/-- Every progress count set to 0 (R101). -/
def State.clearProgress (s : State) : State :=
  s.modMatcher fun m => { m with progress := m.progress.map fun _ => 0 }

/-- The identity exchange that begins a connection (R58). -/
def State.beginIdentity (s : State) (dir : Direction) : State :=
  match dir with
  | .incoming =>
    if s.cfg .identityOnAnswer = 0 then s
    else if s.cfg .answerIdentityDelay = 0 then s.answerbackRequest
    else s.modCall fun c => { c with identity := startMs (s.cfg .answerIdentityDelay) }
  | .outgoing =>
    if s.cfg .identityRequestAfterSelection = 0 then s
    else s.modTx fun t => { t with identPending := some .afterSelection }

/-- The direction of the open record. -/
def State.direction (s : State) : Direction := (s.station.record.map (·.direction)).getD .incoming

/-- The entry to CONNECTED from ANSWERING or SELECTING (R57, R58, R92). -/
def State.enterConnected (s : State) : State :=
  let s := if s.call.state = .selecting then s else s.receiverOn
  let s := (s.modRx fun r => { r with shift := .letters }).modTx fun t => { t with shift := .letters }
  let s := s.startCalibration.switchesAtConnect.clearProgress
  let s := s.modCall fun c =>
    { c with
      state := .connected, connect := none, connectedTime := 0
      idleClear := startSecOrOff (s.cfg .idleClear) }
  ((s.note (.call true s.direction s.recordNumber)).beginIdentity s.direction).recorderTest

/-- The entry to ANSWERING (R52). -/
def State.enterAnswering (s : State) : State :=
  let s := s.startCause.modCall fun c =>
    { c with state := .answering, answerDelay := none, connect := startSec (s.cfg .connectTimeout) }
  if s.pins.loopOk then s.enterConnected else s

/-- The entry to SELECTING (R54). -/
def State.enterSelecting (s : State) : State :=
  s.receiverOn.modCall fun c => { c with state := .selecting, proceed := none }

/-- The entry to CALLING with the selection characters (R53, R54). -/
def State.enterCalling (chars : List IChar) (s : State) : State :=
  let s := (s.startCause.modTx fun t => { t with selection := chars }).modCall fun c =>
    { c with state := .calling, proceed := startSec (s.cfg .proceedTimeout) }
  if s.pins.loopOk then s.enterSelecting else s

/-- The entry to REFUSED (R46, R48, R50). -/
def State.enterRefused (s : State) : State :=
  s.modCall fun c => { c with state := .refused, answerDelay := none }

/-- The acceptance test (R48). -/
def State.acceptanceTest (s : State) : State :=
  let s := s.latchIf s.answer.memory.isEmpty Cond.answerbackEmpty
  if !s.answer.memory.isEmpty && s.namedSinkAttached (s.routeEntry .line .unattended) then s.enterAnswering
  else s.enterRefused

/-- The number after n (R181). -/
def numberAfter (n : Nat) : Nat := if n = 65535 then 1 else n + 1

/-- A record is created (R181). -/
def State.createRecord (dir : Direction) (selection : List IChar) (s : State) : State :=
  (s.modStation fun u =>
    { u with
      record := some
        { number := u.nextNumber, direction := dir, modeAtStart := u.mode, outcome := none
          selection := selection, remoteIdentity := none, connectedSeconds := 0, received := 0, sent := 0
          storedLine := 0, storedStation := 0, unroutedLine := 0, unroutedStation := 0, lost := 0
          messages := 0, linesPrinted := 0, punched := 0
          flags := { printerLost := false, punchLost := false, calError := false, breakReceived := false } }
      nextNumber := numberAfter u.nextNumber }).modCall fun c => { c with connectedTime := 0 }

/-- An offer (R45 to R48). -/
def State.offer (s : State) : State :=
  let s := s.createRecord .incoming []
  match s.station.mode with
  | .localMode => s.enterRefused
  | .attended =>
    (s.modCall fun c =>
      { c with state := .offered, answerDelay := startSecOrOff (s.cfg .attendedAnswerDelay) }).note
      (.call false .incoming s.recordNumber)
  | .unattended => s.acceptanceTest

/-- The call log with a record as the newest, the oldest removed when 16 are held (R184). -/
def logWith (log : List CallRecord) (r : CallRecord) : List CallRecord :=
  (log.drop (log.length - 15)) ++ [r]

/-- The CLOSED notice of a record (R184). -/
def closedNotice (r : CallRecord) : Option Notice := r.outcome.map (.closed r.number)

/-- A notice made pending when there is one. -/
def State.noteMaybe (n : Option Notice) (s : State) : State :=
  match n with
  | some n => s.note n
  | none => s

/-- The open record is closed into the log, with its CLOSED notice (R184). -/
def State.closeRecord (s : State) : State :=
  match s.station.record with
  | none => s
  | some r =>
    (s.modStation fun u => { u with record := none, log := logWith u.log r }).noteMaybe (closedNotice r)

/-- The return to FREE, and the offer of a CALL_IN that stands asserted (R45, R93, R101). -/
def State.returnToFree (s : State) : State :=
  let s := ((s.closeRecord.modStore fun t => { t with gap := 0 }).clearProgress).modCall fun c => c.quiet .free
  if s.pins.callIn then s.offer else s

/-- The end of a call that never reached the line: its outcome, then FREE (R49, R51). -/
def State.endUnanswered (o : CallOutcome) (s : State) : State := (s.setOutcome o).returnToFree

/-- A collision (R55). -/
def State.collide (s : State) : State :=
  ((((s.modCall fun c => { c with proceed := none }).modTx fun t => { t with selection := [] }).setOutcome
    .collided).closeRecord).offer

/-- ORDER CLEAR or the CLEAR key; none where it is refused or ignored (R63). -/
def State.clearRequest (s : State) : Option State :=
  match s.call.state with
  | .free | .refused | .clearing => none
  | .offered => some s.enterRefused
  | .answering | .calling => some (s.setOutcome .localClear).enterClearing
  | .selecting => some s.beginSelectionClear
  | .connected => some (s.beginLocalClear .localClear)

/-- ORDER ANSWER or the ANSWER key; none where it is refused or ignored (R49). -/
def State.answerRequest (s : State) : Option State :=
  if s.call.state = .offered then some s.enterAnswering else none

/-- A send-break request; none where it is refused or ignored (R40). -/
def State.breakRequest (s : State) : Option State :=
  if s.call.state = .connected then some (s.modTx fun t => { t with breakPending := true }) else none

/-! ## The station mode (section 9.1) -/

/-- The progress counts with those of entries not active in a mode set to 0 (R101). -/
def Matcher.keepActive (m : Matcher) (mode : Mode) : Matcher :=
  { m with progress := List.zipWith (fun e k => if SeqEntry.active e mode then k else 0) m.table m.progress }

/-- The operator flag after a change of mode (R128). -/
def operatorFlagAfter (flag : Bool) (old new : Mode) : Bool :=
  if new = .unattended then true else if old = .unattended then false else flag

/-- A change of the station mode and what the blocks do at it; no change when the mode already stands (R176). -/
def State.changeMode (new : Mode) (byWatchdog : Bool) (s : State) : State :=
  let old := s.station.mode
  if new = old then s
  else
    let s := (s.modStation fun u => { u with mode := new }).note (.mode new old byWatchdog)
    let s := (s.modMatcher fun m => m.keepActive new).modKb fun k =>
      { k with operatorFlag := operatorFlagAfter k.operatorFlag old new }
    if new != .unattended then s
    else
      match s.call.state with
      | .offered => s.acceptanceTest
      | .connected => s.restartIdle.recorderTest
      | _ => s

/-! ## The printer enters HALTED or OUT; the punch enters OUT (Chapters 7 and 8) -/

/-- A halt cause is live (R133). -/
def State.haltCause (s : State) : Bool := s.pins.paperOut || s.pins.headHot

/-- Stored entries are diverted when the printer is lost (R91). -/
def State.divert (s : State) : State :=
  if s.cfg .divertOnPrinterLoss = 1 ∧ s.station.mode = .unattended ∧ s.attached .punch = true then
    s.modStore fun t =>
      { t with
        entries := t.entries.take t.cursors.punch ++ (t.entries.drop t.cursors.punch).map fun e =>
          if e.pending.print then { e with pending := { e.pending with punch := true } } else e }
  else s

/-- The timer that runs on when no operation is in flight: that of the last step of an aborted slew (R148). -/
def Printer.stepTimer (p : Printer) : Timer := if p.aborted.isSome then p.timer else none

/-- The printer enters OUT from an attached state: the flag, diversion, detachment (R91, R145, R150). -/
def State.printerOut (jam : Bool) (s : State) : State :=
  let s := s.modPrinter fun p =>
    { p with
      state := .out, jamHold := jam, op := none, timer := p.stepTimer, haltGrace := none, offRequest := false }
  ((s.flagRecord fun f => { f with printerLost := true }).divert).detach .print

/-- A printer jam (R145). -/
def State.printerJam (s : State) : State := (s.latch Cond.printerJam).printerOut true

/-- The printer enters HALTED; a halt grace of 0 takes it on to OUT (R149). -/
def State.enterHalted (s : State) : State :=
  let s := s.modPrinter fun p =>
    { p with state := .halted, op := none, timer := p.stepTimer, haltGrace := startSec (s.cfg .haltGrace) }
  if s.cfg .haltGrace = 0 then s.printerOut false else s

/-- The punch enters OUT from IDLE or BUSY: the flag and the detachment (R167, R170). -/
def State.punchOut (jam : Bool) (s : State) : State :=
  let s := s.modPunch fun p =>
    { p with state := .out, jamHold := jam, op := none, timer := none, leader := 0, offRequest := false }
  (s.flagRecord fun f => { f with punchLost := true }).detach .punch

/-- The tape remaining count becomes n: TAPE_OUT is latched when it reaches 0, and an IDLE punch enters OUT (R170). -/
def State.setTape (n : Nat) (s : State) : State :=
  let out := n == 0 && s.punch.tape != 0
  let s := (s.modPunch fun p => { p with tape := n }).latchIf out Cond.tapeOut
  if n = 0 ∧ s.punch.state = .idle then s.punchOut false else s

/-- The count is cut to the tape-low reserve when it is greater (R169). -/
def State.cutTape (s : State) : State :=
  if s.cfg .tapeLowReserve < s.punch.tape then s.setTape (s.cfg .tapeLowReserve) else s

end Sys2Proof.Machine
end

