-- ==== Sys2Proof/Machine/Frames.lean ====
section
/-! DEFINITION. The host's frames: the bytes of HOST_RX, the reply queue, the busy count, the watchdog; frames that are not good
(sections 10.1, 10.2). -/

namespace Sys2Proof.Machine

/-- A reply appended to the reply queue (R191). -/
def State.pushReply (s : State) (r : Reply) : State :=
  s.modLink fun l => { l with replies := l.replies ++ [r] }

/-- The frame receiver takes no frame: ORDER RESET waits for its reset, or the busy count is full (R191, R196). -/
def State.deaf (s : State) : Bool := s.link.resetPending || s.link.busy == 65535

/-- The longest gap between two bytes of a frame: 50 ms stand, more do not (R189). -/
def gapUnits : Nat := msUnits 50 + 1

/-- A byte has ended on HOST_RX: the receiver moves on, a gap starts inside a frame, and the command of a frame that the byte
ends or drops is put to the queue; a deaf receiver stays in HUNT and discards the byte (R189 to R191, R196; log 39). -/
def State.receiveByte (byte : Option Byte) (s : State) : State :=
  let r := if s.deaf then (.hunt, none) else s.link.rx.receive byte
  (s.modLink fun l => { l with rx := r.1, gap := if r.1 = .hunt then none else some gapUnits }).modPending
    (· ++ r.2.toList)

/-- One unit of time on HOST_RX: the mark before a byte, its start bit, which ends the gap, or the bits of the byte, ten bit times
from the start bit to the end of the stop bit (R189). -/
def State.hostRxTick (s : State) : State :=
  match s.hostRx.bytes, s.hostRx.timer with
  | [], _ => s
  | b :: rest, none =>
    if b.idle = 0 then
      (s.modHostRx fun w => { w with timer := some (byteUnits s.link.rateStrap - 1) }).modLink fun l =>
        { l with gap := none }
    else s.modHostRx fun w => { w with bytes := { b with idle := b.idle - 1 } :: rest }
  | b :: rest, some n =>
    if n ≤ 1 then (s.modHostRx fun _ => { bytes := rest, timer := none }).receiveByte (linkByte b.bits)
    else s.modHostRx fun w => { w with timer := some (n - 1) }

/-- A frame's own reply has a place: fewer than 8 replies and a busy count of 0 (R191). -/
def State.replyRoom (s : State) : Bool := s.link.replies.length < 8 && s.link.busy == 0

/-- A frame answered REJECT BUSY (R191). -/
def State.rejectBusy (s : State) : State := s.modLink fun l => { l with busy := l.busy + 1 }

/-- A frame's effect and reply, or REJECT BUSY (R191). -/
def State.answerFrame (f : State → State × Reply) (s : State) : State :=
  if s.replyRoom then (f s).1.pushReply (f s).2 else s.rejectBusy

/-- The frame receiver back in HUNT, no gap running (R189). -/
def State.frameHunt (s : State) : State := s.modLink fun l => { l with rx := .hunt, gap := none }

/-- What a good frame does to the watchdog and the silence, after its reply is decided (R178, R180). -/
def State.endSilence (s : State) : State :=
  s.modStation fun u => { u with hostSilent := false, watchdog := startSecOrOff (s.cfg .hostWatchdog) }

/-- A good frame is taken (R191). -/
def State.takeFrame (f : State → State × Reply) (s : State) : State :=
  if s.deaf then s else (s.answerFrame f).endSilence.frameHunt

/-- A frame whose check is bad or whose length is wrong: its REJECT, no other effect (R189, R190). -/
def State.refuseFrame (why : RejectReason) (s : State) : State :=
  if s.deaf then s else (s.answerFrame fun s => (s, .reject why)).frameHunt

/-- A frame refused with no effect. -/
def State.reject (s : State) (why : RejectReason) : State × Reply := (s, .reject why)

/-- An order taken, or refused with STATE when there is nothing to take. -/
def State.grantOr (s : State) (t : Option State) : State × Reply :=
  match t with
  | some t => (t, .grant)
  | none => s.reject .state

/-- FRAME_BAD_CHECK (R190). -/
def execFrameBadCheck (s : State) : Host.Outcome State Fault Refusal :=
  complete (fun s => s.refuseFrame .check) s

/-- FRAME_BAD_LENGTH (R189). -/
def execFrameBadLength (s : State) : Host.Outcome State Fault Refusal :=
  complete (fun s => s.refuseFrame .length) s

/-- FRAME_GAP_TIMEOUT: more than 50 ms after a byte of a frame, the frame is dropped without reply (R189). -/
def execFrameGapTimeout (s : State) : Host.Outcome State Fault Refusal :=
  complete (fun s => s.frameHunt) s

/-- FRAME_BYTE_ERROR: the frame is dropped without reply (R189). -/
def execFrameByteError (s : State) : Host.Outcome State Fault Refusal :=
  complete (fun s => s.frameHunt) s

/-- FRAME_UNKNOWN_KIND: a good frame answered REJECT KIND (R191). -/
def execFrameUnknownKind (s : State) : Host.Outcome State Fault Refusal :=
  complete (fun s => s.takeFrame fun s => s.reject .kind) s

end Sys2Proof.Machine
end

