-- ==== Sys2Proof/Machine/Report.lean ====
section
/-! DEFINITION. READ and STATUS: the bytes of tables, log records and the REPORT (sections 10.3, 10.4, 10.9). -/

namespace Sys2Proof.Machine

/-! ## A log record (section 10.9) -/

def RecordFlags.bits (f : RecordFlags) : Nat :=
  bit f.printerLost 0 + bit f.punchLost 1 + bit f.calError 2 + bit f.breakReceived 3

/-- The low half of LOG byte 3 is the outcome; a closed record has one (R184). -/
def outcomeBits (o : Option CallOutcome) : Nat := (o.map CallOutcome.code).getD 0

/-- The bytes of a closed record. -/
def CallRecord.bytes (r : CallRecord) : List Byte :=
  let identity := r.remoteIdentity.getD []
  bytes2 r.number
    ++ [ byteOf (r.direction.code + 2 * r.modeAtStart.code + 8 * r.flags.bits + bit r.remoteIdentity.isSome 7)
       , byteOf (outcomeBits r.outcome + 16 * (r.selection.length - 1)) ]
    ++ bytes3 r.connectedSeconds
    ++ bytes2 r.received ++ bytes2 r.sent ++ bytes2 r.storedLine ++ bytes2 r.storedStation
    ++ bytes2 r.unroutedLine ++ bytes2 r.unroutedStation ++ bytes2 r.lost ++ bytes2 r.messages
    ++ bytes2 r.linesPrinted ++ bytes2 r.punched
    ++ [byteOf identity.length] ++ r.selection.map icharByte ++ identity.map icharByte

/-! ## READ (R193) -/

/-- The entries of a table from an index, as a TABLE body; none when the READ is out of range (R193). -/
def readEntries {α : Type} (bytes : α → List Byte) (first count : Nat) (table : List α) : Option (List Byte) :=
  let body := ((table.drop first).take count).flatMap bytes
  if count = 0 ∨ table.length < first + count ∨ 64 < body.length then none else some body

/-- The body of the TABLE that answers a READ of a table, none where it is out of range (R186, R193). -/
def State.tableBody (s : State) (table first count : Nat) : Option (List Byte) :=
  match table with
  | 1 => readEntries TransEntry.bytes first count s.translate
  | 2 => readEntries RouteEntry.bytes first count s.route.table
  | 3 => readEntries SeqEntry.bytes first count s.matcher.table
  | 4 => readEntries KeyEntry.bytes first count s.kb.keymap
  | 5 => if first = 0 ∧ count = 0 then some (s.answer.memory.map fun c => c.setWidth 8) else none
  | 6 => readEntries bytes2 first count s.settings
  | 7 => readEntries SignalEntry.bytes first count s.cond.signals
  | 8 => if count = 1 then readEntries CallRecord.bytes first 1 s.station.log else none
  | _ => none

/-- READ: its body is an identifier, a first index and a count (R193; other lengths, log 17). -/
def State.readTable (body : List Byte) (s : State) : State × Reply :=
  match body with
  | [t, first, count] =>
    match s.tableBody t.toNat first.toNat count.toNat with
    | some b => (s, .table b)
    | none => s.reject .range
  | _ => s.reject .range

/-! ## STATUS (R195) -/

/-- The summary of the open record, REPORT offsets 42 to 54; the outcome byte of a record with no outcome is free (log 18). -/
def State.reportRecord (s : State) : List Byte :=
  match s.station.record with
  | none => List.replicate 13 0
  | some r =>
    [ byteOf (1 + 2 * r.direction.code + bit r.outcome.isSome 2 + 8 * r.flags.bits)
    , match r.outcome with
      | some o => byteOf o.code
      | none => Config.freeByte s.freeCount ]
      ++ bytes2 r.number ++ bytes3 (s.connectedSeconds r) ++ bytes2 r.received ++ bytes2 r.sent ++ bytes2 r.lost

/-- The number of the oldest record in the log, 0 when it is empty. -/
def State.oldestNumber (s : State) : Nat := (s.station.log.head?.map (·.number)).getD 0

/-- REPORT offsets 0 to 18: modes, states, tape, store. -/
def State.reportStates (s : State) : List Byte :=
  [ byteOf (s.station.mode.code + bit s.station.restartPending 2 + 8 * s.rx.shift.code + 16 * s.tx.shift.code
      + bit s.route.printSwitch 5 + bit s.route.punchSwitch 6)
  , byteOf (s.call.state.code + 16 * s.motor.state.code)
  , byteOf (s.printer.state.code + bit s.printer.jamHold 3 + 16 * s.punch.state.code + bit s.punch.jamHold 6)
  , byteOf s.printer.column ]
    ++ bytes2 s.punch.tape ++ bytes2 s.punch.leader ++ bytes2 s.store.entries.length
    ++ [ byteOf (bit s.tx.reservation 0 + bit s.store.armed 1 + bit (s.attached .print) 2 + bit (s.attached .punch) 3
          + bit (s.attached .capture) 4) ]
    ++ bytes2 (s.lag .print) ++ bytes2 (s.lag .punch) ++ bytes2 (s.lag .capture) ++ bytes2 s.store.gap

/-- REPORT offsets 19 to 41: queues, channels, calibrator, conditions, log. -/
def State.reportUnits (s : State) : List Byte :=
  [ byteOf s.kb.queue.length, byteOf s.link.send.queue.length
  , byteOf (bit s.link.send.armed 0 + bit s.link.send.held 1 + 4 * s.link.capture.state.code) ]
    ++ bytes2 s.link.send.remaining ++ bytes2 s.link.capture.remaining
    ++ [ byteOf s.cal.p, byteOf (s.cal.state.code + 16 * (BitVec.ofInt 4 s.cal.lastBias).toNat)
       , byteOf s.stuckCount ]
    ++ bytes3 s.live.toNat ++ bytes3 s.cond.faults.toNat ++ bytes2 s.link.mask.toNat
    ++ bytes2 s.station.nextNumber ++ [byteOf s.station.log.length] ++ bytes2 s.oldestNumber

/-- The 55 bytes of a REPORT (section 10.9). -/
def State.report (s : State) : List Byte := s.reportStates ++ s.reportUnits ++ s.reportRecord

/-- STATUS; a free value used by the REPORT is counted (R195, log 18). -/
def State.statusFrame (body : List Byte) (s : State) : State × Reply :=
  if body.isEmpty then
    (if (s.station.record.map (·.outcome)) = some none then s.modFreeCount (· + 1) else s, .report s.report)
  else s.reject .range

/-- READ. -/
def execRead (body : List Byte) (s : State) : Host.Outcome State Fault Refusal :=
  complete (fun s => s.takeFrame fun s => s.readTable body) s

/-- STATUS. -/
def execStatus (body : List Byte) (s : State) : Host.Outcome State Fault Refusal :=
  complete (fun s => s.takeFrame fun s => s.statusFrame body) s

end Sys2Proof.Machine
end

