-- ==== Sys2Proof/Machine/Resets.lean ====
section
/-! DEFINITION. The cold reset and the warm reset (the reset rules of every chapter). -/

namespace Sys2Proof.Machine

/-! ## The end of a reset -/

/-- The fault store refilled from the true live faults (R208). -/
def State.refillFaults (s : State) : State :=
  s.modCond fun c => { c with faults := s.live &&& Cond.liveFaults }

/-- The FAULT notice of a refilled store that is not empty (R208). -/
def State.noteRefill (s : State) : State :=
  if s.cond.faults = 0 then s else s.note (.fault s.cond.faults)

/-- An offer of a CALL_IN that stands asserted in FREE (R45). -/
def State.offerIfCalled (s : State) : State := if s.pins.callIn then s.offer else s

/-- The end of a reset: the faults, the notices, then the offer (R177, R197, R208). -/
def State.endReset (warm : Bool) (closed : Option CallRecord) (s : State) : State :=
  let s := s.refillFaults.note (.restart warm s.station.nextNumber ((closed.map (·.number)).getD 0))
  ((s.noteMaybe (closed.bind closedNotice)).noteRefill).offerIfCalled

/-! ## Cold reset -/

/-- The printer of State.reset with the halt causes of the pins (R156). -/
def State.printerAtReset (s : State) : State := if s.haltCause then s.enterHalted else s

/-- The state of a cold reset that has not ended: every block at its cold value, the fault store and the notices empty (R68,
R197, R208). The queue, the counter of free values and what comes on HOST_RX are not the block's, and are kept (log 18, 29, 39). -/
def State.coldState (inputs : Inputs) (s : State) : State :=
  { State.reset with
    pins := inputs
    link := { State.reset.link with rateStrap := inputs.rate, notices := [] }
    cond := { State.reset.cond with faults := 0 }
    hostRx := s.hostRx
    freeCount := s.freeCount
    pending := s.pending }

/-- A cold reset with the input levels that stand (R68, R95, R113, R131, R156, R162, R174, R188, R197, R208, R210): held while
RESET is asserted (R211), ended otherwise; a command that is taken while it is held has its effect (log 29). -/
def State.coldReset (inputs : Inputs) (s : State) : State :=
  if inputs.reset then s.coldState inputs else (s.coldState inputs).printerAtReset.endReset false none

/-! ## Warm reset (R67) -/

/-- The open record as a warm reset closes it (R67). -/
def State.abandoned (s : State) : Option CallRecord :=
  s.station.record.map fun r =>
    { r with outcome := some .abandoned, connectedSeconds := s.connectedSeconds r }

/-- The line side at a warm reset: receiver, calibrator, transmitter, call (R8, R16, R23, R43, R67). -/
def State.warmLine (s : State) : State :=
  let s := (s.receiverOff.modRx fun r => { r with shift := .letters }).modCal fun c =>
    { c.fresh with state := .idle, holdoff := none }
  (s.modTx fun _ => State.reset.tx).modCall fun c => c.quiet .free

/-- The store, the switches, the matcher and the answerback unit at a warm reset (R94, R101, R113). -/
def State.warmTraffic (s : State) : State :=
  ((s.modStore fun _ => State.reset.store).switchesAtConnect.clearProgress).modAnswer fun a =>
    { a with run := none, window := none, gapTimer := none }

/-- The keyboard and the bell at a warm reset (R114, R130). -/
def State.warmKeys (s : State) : State :=
  (s.modKb fun k =>
    { k with
      positions := k.positions.map fun _ => { state := .up, count := 0, held := 0 }
      queue := [], operatorFlag := true
      interval := s.cfg .scanPeriod, scanTimer := startMs (s.cfg .scanPeriod) }).modBell fun _ => none

/-- The tape count that a warm reset keeps: cut to the reserve while TAPE_LOW is live (R174). -/
def State.warmTape (s : State) : Nat :=
  if s.pins.tapeLow then min s.punch.tape (s.cfg .tapeLowReserve) else s.punch.tape

/-- The printer, the punch and the motor at a warm reset (R155, R162, R174). -/
def State.warmMechanism (s : State) : State :=
  let tape := s.warmTape
  let s := s.modPrinter fun p => { State.reset.printer with column := p.column }
  let s := s.modPunch fun _ =>
    { state := if tape = 0 then .out else .idle, jamHold := false, tape := tape, op := none, timer := none
      leader := 0, offRequest := false }
  s.modMotor fun _ => State.reset.motor

/-- The station unit at a warm reset, the abandoned record in the log (R175, R177, R178, R188). -/
def State.warmStation (closed : Option CallRecord) (s : State) : State :=
  s.modStation fun u =>
    { u with
      mode := .unattended, restartPending := true, hostSilent := false
      watchdog := startSecOrOff (s.cfg .hostWatchdog), record := none
      log := match closed with
        | some r => logWith u.log r
        | none => u.log }

/-- The host link unit at a warm reset (R189, R191, R197). -/
def State.warmLink (s : State) : State :=
  s.modLink fun l =>
    { State.reset.link with
      rateStrap := s.pins.rate, notices := []
      capture := { State.reset.link.capture with size := l.capture.size } }

/-- A warm reset (R67): tables, settings, tape, column, p, the last bias and the log are kept. It is taken and ended in one
command: no length of it is stated (log 46). -/
def State.warmReset (s : State) : State :=
  let closed := s.abandoned
  let s := s.warmLine.warmTraffic.warmKeys.warmMechanism
  let s := (s.warmStation closed).warmLink
  (s.modCond fun c => { c with faults := 0 }).printerAtReset.endReset true closed

/-- COLD_RESET (R68). -/
def execColdReset (inputs : Inputs) (s : State) : Host.Outcome State Fault Refusal :=
  complete (fun s => s.coldReset inputs) s

end Sys2Proof.Machine
end

