-- ==== Sys2Proof/Machine/LinkTx.lean ====
section
/-! DEFINITION. The link transmitter: its arbiter, DATA frames, notices, and the bytes it sends (sections 10.2, 10.6, 10.7,
10.9). -/

namespace Sys2Proof.Machine

/-! ## Frames as bytes (section 10.9) -/

/-- A signed value in a byte. -/
def byteOfInt (n : Int) : Byte := BitVec.ofInt 8 n

/-- The function of a FUNCTION keymap entry in an OPERATOR notice, 0 when none. -/
def KeyEntry.functionCode : KeyEntry → Nat
  | .function f => f.code
  | _ => 0

/-- The body of a notice after its kind code. -/
def Notice.body : Notice → List Byte
  | .restart warm next n => [byteOf (bit warm 0)] ++ bytes2 next ++ bytes2 n
  | .mode new old dog => [byteOf new.code, byteOf old.code, byteOf (bit dog 0)]
  | .call conn dir n => [byteOf (bit conn 0), byteOf dir.code] ++ bytes2 n
  | .closed n o => bytes2 n ++ [byteOf o.code]
  | .channel capture why residual => [byteOf (bit capture 0), byteOf why.code] ++ bytes2 residual
  | .store occ gap p u c => bytes2 occ ++ bytes2 gap ++ bytes2 p ++ bytes2 u ++ bytes2 c
  | .fault f => bytes3 f.toNat
  | .sequence i a acted n => [byteOf i, byteOf a.code, byteOf (bit (!acted) 0)] ++ bytes2 n
  | .key f pos => [byteOf f, byteOf pos]
  | .operator pos e st => [byteOf pos, byteOf e.kind, byteOf e.functionCode, byteOf st.code]
  | .calibration drift p b => [byteOf (bit drift 0), byteOf p, byteOfInt b]

/-- The KIND of a frame of the part. -/
def OutFrame.kind : OutFrame → Byte
  | .reply .grant | .reply .resetGrant => 0x81
  | .reply (.reject _) => 0x82
  | .reply (.wait _) => 0x83
  | .reply (.report _) => 0x84
  | .reply (.table _) => 0x85
  | .data _ => 0x86
  | .note _ => 0x87

/-- The BODY of a frame of the part. -/
def OutFrame.body : OutFrame → List Byte
  | .reply .grant | .reply .resetGrant => []
  | .reply (.reject why) => [byteOf why.code]
  | .reply (.wait free) => [byteOf free]
  | .reply (.report b) => b
  | .reply (.table b) => b
  | .data items => items
  | .note n => byteOf n.kind :: n.body

/-- A frame whole: SYNC, KIND, LEN, BODY, CHECK (section 10.1, R190). -/
def OutFrame.bytes (f : OutFrame) : List Byte :=
  let inner := f.kind :: byteOf f.body.length :: f.body
  0xA5 :: inner ++ [frameCheck inner]

/-- The time of a frame: its body and four bytes more, ten bits each (R189, R192). -/
def OutFrame.units (f : OutFrame) (rate : BitVec 2) : Nat := (f.body.length + 4) * byteUnits rate

/-- The two bytes of a DATA item (section 10.9). -/
def Entry.item (e : Entry) : List Byte :=
  [ icharByte e.char
  , byteOf (e.source.code + 4 * e.shift.code + bit e.mutilated 3 + bit e.gapBefore 4) ]

/-! ## The arbiter (R192) -/

/-- A frame's sending begins. -/
def State.beginFrame (f : OutFrame) (s : State) : State :=
  s.modLink fun l => { l with sending := some f, timer := some (f.units l.rateStrap) }

/-- The closed DATA frame's sending begins: its items, the consumption, the count (R203). -/
def State.sendData (s : State) : State :=
  let n := s.link.capture.taken
  let items := (s.heldForCapture.take n).flatMap Entry.item
  let s := (s.beginFrame (.data items)).consume .capture n
  let left := s.link.capture.remaining - n
  let s := s.modCapture fun c => { c with remaining := left, taken := 0, closed := false, flush := none }
  if left = 0 then
    ((s.modCapture fun c => { c with state := .disarmed }).detach .capture).note (.channel true .done 0)
  else s.gather

/-- The pending notice of the lowest kind code that the mask allows (R192, R204). -/
def State.nextNotice (s : State) : Option Notice :=
  if s.station.hostSilent then none else s.link.notices.find? fun n => s.link.mask.getLsbD (n.kind - 1)

/-- The notice's sending begins: its flag is cleared (R204). -/
def State.sendNotice (n : Notice) (s : State) : State :=
  (s.modLink fun l => { l with notices := l.notices.filter fun m => m.kind != n.kind }).beginFrame (.note n)

/-- The link transmitter's take (R192); between ORDER RESET and its reset only replies (R196). -/
def State.linkTake (s : State) : Option State :=
  if s.link.sending.isSome then none
  else
    match s.link.replies with
    | r :: rest => some ((s.modLink fun l => { l with replies := rest }).beginFrame (.reply r))
    | [] =>
      if s.link.busy ≠ 0 then
        some ((s.modLink fun l => { l with busy := l.busy - 1 }).beginFrame (.reply (.reject .busy)))
      else if s.link.resetPending then none
      else if s.link.capture.state = .armed ∧ s.link.capture.closed = true then some s.sendData
      else (s.nextNotice).map fun n => s.sendNotice n

/-- The end of a frame's sending; after the GRANT of ORDER RESET the warm reset is taken, with the straps as they stand
(R189, R192, R196). -/
def State.frameSent (rate : BitVec 2) (s : State) : State :=
  match s.link.sending with
  | none => s
  | some f =>
    let s := (s.modLink fun l => { l with sending := none, timer := none }).modPins fun p => { p with rate := rate }
    if f = .reply .resetGrant then s.warmReset else s

/-- LINK_TRANSMITTER_TAKE. -/
def execLinkTransmitterTake (s : State) : Host.Outcome State Fault Refusal :=
  complete (fun s => s.linkTake.getD s) s

/-- LINK_FRAME_SENT. -/
def execLinkFrameSent (rate : BitVec 2) (s : State) : Host.Outcome State Fault Refusal :=
  complete (fun s => s.frameSent rate) s

end Sys2Proof.Machine
end

