-- ==== Sys2Proof/Machine/PagePrinter.lean ====
section
/-! DEFINITION. The page printer (Chapter 7). -/

namespace Sys2Proof.Machine

/-! ## The parts of an operation (R135, R136) -/

/-- The entry's own part (R135). -/
def State.ownPart (s : State) (e : Entry) : PrinterPart :=
  if e.mutilated then .strike (BitVec.ofNat 7 (s.cfg .substituteSymbol))
  else
    match e.cls with
    | .print => .strike e.char
    | .unassigned => .strike (BitVec.ofNat 7 (s.cfg .substituteSymbol))
    | .space => .space
    | .cr => .slew
    | .lf => .feed
    | .bell => .bell
    | .ltrs | .figs | .ident | .null => .silent

/-- The parts of the operation on an entry: the gap strike of a marked entry, then its own (R136). -/
def State.partsOf (s : State) (e : Entry) : List PrinterPart :=
  (if e.gapBefore then [.strike (BitVec.ofNat 7 (s.cfg .gapSymbol))] else []) ++ [s.ownPart e]

/-! ## The movements -/

/-- The action in flight at the printer. -/
def State.printerAction (s : State) : Option PrinterAction := s.printer.op.map (·.action)

/-- An action begins; its timer is the response limit, the step time or the cooling pause. -/
def State.beginAction (a : PrinterAction) (rest : List PrinterPart) (t : Timer) (s : State) : State :=
  s.modPrinter fun p => { p with op := some { action := a, rest := rest }, timer := t }

/-- A strike (R137). -/
def State.beginStrike (c : IChar) (rest : List PrinterPart) (s : State) : State :=
  s.beginAction (.strike c) rest (startMs (s.cfg .responseLimit))

/-- A paper feed (R142). -/
def State.beginFeed (thenStrike : Option IChar) (rest : List PrinterPart) (s : State) : State :=
  s.beginAction (.feed thenStrike) rest (startMs (s.cfg .responseLimit))

/-- A step of a slew, counted or searching (R146, R147). -/
def State.beginStep (w : Slew) (thenStrike : Option IChar) (rest : List PrinterPart) (s : State) : State :=
  s.beginAction (.slew w thenStrike) rest (some w.stepTime)

/-- The slew as it is taken: the step size and rate that stand (R146). -/
def State.newSlew (s : State) : Slew :=
  { size := s.cfg .stepSize, stepTime := s.stepUnits, len := min (s.cfg .stepSize) (s.printer.column - 1), extra := 0 }

/-- The first step toward HOME of a slew that finds the column at 1 and HOME not asserted (R147). -/
def Slew.search (w : Slew) (n : Nat) : Slew := { w with len := 1, extra := n }

/-- A strike at a column past the width is preceded by a wrap in WRAP (R139). -/
def State.wrapsAt (s : State) (column : Nat) : Bool := s.cfg .overflow == 1 && s.cfg .width < column

/-- The limit of the column: the width, in WRAP one more (R141). -/
def State.columnLimit (s : State) : Nat := s.cfg .width + (if s.cfg .overflow = 1 then 1 else 0)

/-- The completion of an operation (R144). -/
def State.operationDone (s : State) : State :=
  let s := (s.modPrinter fun p => { p with op := none, timer := none }).consume .print 1
  if s.printer.offRequest then
    (s.modPrinter fun p => { p with state := .off, offRequest := false }).detach .print
  else if s.haltCause then s.enterHalted
  else s.modPrinter fun p => { p with state := .idle }

/-- The parts that are left: those that take no time are done, the first that takes time begins (R135 to R147). The step of a
SPACE and the slew of a CR that follow a gap strike read their settings when they begin, not when the entry was taken: the
model's choice (R154; log 45). -/
def State.runParts : List PrinterPart → State → State
  | [], s => s.operationDone
  | .strike c :: rest, s =>
    if s.wrapsAt s.printer.column then s.beginStep s.newSlew (some c) rest else s.beginStrike c rest
  | .space :: rest, s =>
    if s.columnLimit ≤ s.printer.column then State.runParts rest s
    else s.beginAction .space rest (some s.stepUnits)
  | .slew :: rest, s =>
    if 1 < s.printer.column then s.beginStep s.newSlew none rest
    else if s.pins.home then State.runParts rest (s.modPrinter fun p => { p with column := 1 })
    else s.beginStep (s.newSlew.search 1) none rest
  | .feed :: rest, s => s.beginFeed none rest
  | .bell :: rest, s => State.runParts rest s.bellPulse
  | .silent :: rest, s => State.runParts rest s

/-! ## Taking an entry (R134) -/

/-- An IDLE printer may take an entry (R134; not while the last step of an aborted slew runs, log 13). -/
def State.printerMayTake (s : State) : Bool :=
  s.printer.state == .idle && s.motor.state == .running && !s.haltCause && s.printer.aborted.isNone

/-- The printer takes the oldest entry owed to it and starts its operation (R73, R134, R135). -/
def State.printerTake (home : Bool) (s : State) : Option State :=
  if s.printerMayTake then
    match s.nextFor .print with
    | none => none
    | some (i, e) =>
      let s := ((s.modPins fun p => { p with home := home }).modStore fun t =>
        { t with cursors := t.cursors.set .print i }).modPrinter fun p => { p with state := .busy }
      some (s.runParts (s.partsOf e))
  else none

/-! ## The ends of the movements -/

/-- The column after a strike at a column (R138; in WRAP past the width, log 14). -/
def State.columnAfterStrike (s : State) (c : Nat) : Nat :=
  if s.cfg .overflow = 1 then (if c ≤ s.cfg .width then c + 1 else c)
  else if c < s.cfg .width then c + 1 else c

/-- A strike has landed: the column, the margin bell (R138, R140). -/
def State.strikeLands (s : State) : State :=
  let before := s.printer.column
  let after := s.columnAfterStrike before
  let s := s.modPrinter fun p => { p with column := after, timer := none }
  if after ≠ before ∧ after = s.cfg .marginBellColumn then s.bellPulse else s

/-- STRIKE_DONE (R137). -/
def State.strikeDone (s : State) : State :=
  match s.printer.op with
  | some { action := .strike _, rest := rest } =>
    let s := s.strikeLands
    if s.pins.headWarm ∧ s.cfg .coolingPause ≠ 0 then
      s.beginAction .cooling rest (startMs (s.cfg .coolingPause))
    else s.runParts rest
  | _ => s

/-- The end of the cooling pause (R137). -/
def State.coolingEnd (s : State) : State :=
  match s.printer.op with
  | some { action := .cooling, rest := rest } => s.runParts rest
  | _ => s

/-- FEED_DONE (R142); the feed of a wrap is followed by its strike (R139). -/
def State.feedDone (s : State) : State :=
  match s.printer.op with
  | some { action := .feed thenStrike, rest := rest } =>
    let s := s.modRecord fun r => { r with linesPrinted := bump r.linesPrinted }
    match thenStrike with
    | some c => s.beginStrike c rest
    | none => s.runParts rest
  | _ => s

/-- The response limit passes: the strike or feed has jammed (R137, R142). -/
def State.printerResponseLimit (s : State) : State :=
  match s.printer.op with
  | some { action := .strike _, rest := _ } => s.printerJam
  | some { action := .feed _, rest := _ } => s.printerJam
  | _ => s

/-- A slew completes: the column is 1, and a wrap goes on with its feed (R139, R147). -/
def State.slewDone (thenStrike : Option IChar) (rest : List PrinterPart) (s : State) : State :=
  let s := s.modPrinter fun p => { p with column := 1 }
  match thenStrike with
  | some c => s.beginFeed (some c) rest
  | none => s.runParts rest

/-- The end of a step of a slew (R146, R147). -/
def State.slewStep (w : Slew) (thenStrike : Option IChar) (rest : List PrinterPart) (s : State) : State :=
  let column := if w.extra = 0 then s.printer.column - w.len else s.printer.column
  let s := s.modPrinter fun p => { p with column := column }
  if s.pins.home then s.slewDone thenStrike rest
  else if w.extra = 0 ∧ 1 < column then
    s.beginStep { w with len := min w.size (column - 1) } thenStrike rest
  else if w.extra < 4 then s.beginStep (w.search (w.extra + 1)) thenStrike rest
  else s.printerJam

/-- CARRIAGE_STEP_END: a step of a SPACE, of a slew, or the last step of an aborted slew (R141, R146 to R148). -/
def State.carriageStepEnd (home : Bool) (s : State) : State :=
  match s.printer.aborted, s.printer.op with
  | some len, _ =>
    (s.modPins fun p => { p with home := home }).modPrinter fun p =>
      { p with column := p.column - len, aborted := none, timer := none }
  | none, some { action := .space, rest := rest } =>
    ((s.modPins fun p => { p with home := home }).modPrinter fun p => { p with column := p.column + 1 }).runParts
      rest
  | none, some { action := .slew w thenStrike, rest := rest } =>
    (s.modPins fun p => { p with home := home }).slewStep w thenStrike rest
  | none, _ => s

/-! ## Halts (section 7.8) -/

/-- The printer at a change of a halt cause (R133, R149 to R151). -/
def State.haltTest (s : State) : State :=
  match s.printer.state with
  | .idle => if s.haltCause then s.enterHalted else s
  | .halted =>
    if s.haltCause then s else s.modPrinter fun p => { p with state := .idle, haltGrace := none }
  | .out =>
    if s.haltCause || s.printer.jamHold then s
    else (s.modPrinter fun p => { p with state := .idle }).attach .print
  | .busy | .off => s

/-- HALT_CAUSE_CHANGE: the conditions, then the printer (R149 to R151, R206). -/
def State.haltCauseChange (paperOut headHot : Bool) (s : State) : State :=
  let wasOut := s.pins.paperOut
  let wasHot := s.pins.headHot
  if paperOut = wasOut ∧ headHot = wasHot then s
  else
    let s := s.modPins fun p => { p with paperOut := paperOut, headHot := headHot }
    let s := (s.latchIf (paperOut && !wasOut) Cond.paperOut).latchIf (headHot && !wasHot) Cond.headHot
    s.haltTest

/-- The halt grace expires in HALTED (R150). -/
def State.haltGraceExpiry (s : State) : State :=
  if s.printer.haltGrace.isNone then s
  else
    let s := s.modPrinter fun p => { p with haltGrace := none }
    if s.printer.state = .halted then s.printerOut false else s

/-- HEAD_WARM_CHANGE (R205, R206). -/
def State.headWarmChange (warm : Bool) (s : State) : State :=
  let was := s.pins.headWarm
  (s.modPins fun p => { p with headWarm := warm }).latchIf (warm && !was) Cond.headWarm

/-! ## Switching off and on (section 7.9) -/

/-- An entry to OFF from IDLE or HALTED (R152). -/
def State.printerOffNow (s : State) : State :=
  (s.modPrinter fun p => { p with state := .off, haltGrace := none }).detach .print

/-- The printer enters OFF during a slew; the step in flight runs on (R148). A searching step has no length to subtract. -/
def State.abortSlew (w : Slew) (s : State) : State :=
  (s.modPrinter fun p =>
    { p with state := .off, op := none, aborted := some (if w.extra = 0 then w.len else 0) }).detach .print

/-- ORDER PRINTER OFF (R152); a second order while the off request is set changes nothing. -/
def State.printerOff (s : State) : State :=
  match s.printer.state with
  | .idle | .halted => s.printerOffNow
  | .busy =>
    if s.printer.offRequest then s
    else
      match s.printer.op with
      | some { action := .slew w _, rest := _ } => s.abortSlew w
      | _ => s.modPrinter fun p => { p with offRequest := true }
  | .out => s.modPrinter fun p => { p with state := .off, jamHold := false }
  | .off => s

/-- The printer comes back to IDLE or HALTED, attached (R153). -/
def State.printerBack (s : State) : State :=
  let s := (s.modPrinter fun p => { p with state := .idle, jamHold := false }).attach .print
  if s.haltCause then s.enterHalted else s

/-- ORDER PRINTER ON; none where it is refused (R153). -/
def State.printerOn (s : State) : Option State :=
  match s.printer.state with
  | .off => some s.printerBack
  | .out => if s.printer.jamHold then some s.printerBack else none
  | .idle | .busy | .halted => some s

/-! ## The commands -/

/-- PRINTER_TAKE_ENTRY (R134). -/
def execPrinterTakeEntry (home : Bool) (s : State) : Host.Outcome State Fault Refusal :=
  complete (fun s => (s.printerTake home).getD s) s

/-- STRIKE_DONE (R137). -/
def execStrikeDone (s : State) : Host.Outcome State Fault Refusal :=
  complete (fun s => s.strikeDone) s

/-- COOLING_PAUSE_END (R137). -/
def execCoolingPauseEnd (s : State) : Host.Outcome State Fault Refusal :=
  complete (fun s => s.coolingEnd) s

/-- FEED_DONE (R142). -/
def execFeedDone (s : State) : Host.Outcome State Fault Refusal :=
  complete (fun s => s.feedDone) s

/-- PRINTER_RESPONSE_LIMIT_EXPIRY (R145). -/
def execPrinterResponseLimitExpiry (s : State) : Host.Outcome State Fault Refusal :=
  complete (fun s => s.printerResponseLimit) s

/-- CARRIAGE_STEP_END (R141, R146 to R148). -/
def execCarriageStepEnd (home : Bool) (s : State) : Host.Outcome State Fault Refusal :=
  complete (fun s => s.carriageStepEnd home) s

/-- HALT_CAUSE_CHANGE (R149). -/
def execHaltCauseChange (paperOut headHot : Bool) (s : State) : Host.Outcome State Fault Refusal :=
  complete (fun s => s.haltCauseChange paperOut headHot) s

/-- PRINTER_HALT_GRACE_EXPIRY (R150). -/
def execPrinterHaltGraceExpiry (s : State) : Host.Outcome State Fault Refusal :=
  complete (fun s => s.haltGraceExpiry) s

/-- HEAD_WARM_CHANGE. -/
def execHeadWarmChange (headWarm : Bool) (s : State) : Host.Outcome State Fault Refusal :=
  complete (fun s => s.headWarmChange headWarm) s

end Sys2Proof.Machine
end

