-- ==== Sys2Proof/Machine/TapePunch.lean ====
section
/-! DEFINITION. The tape punch (Chapter 8). -/

namespace Sys2Proof.Machine

/-- A code is put to the punch: PUNCH asserted, the response limit running (R165). -/
def State.beginPunch (op : PunchOp) (s : State) : State :=
  s.modPunch fun p => { p with state := .busy, op := some op, timer := startMs (s.cfg .responseLimit) }

/-- The punch takes the leader, or the oldest entry owed to it (R164). -/
def State.punchTake (s : State) : Option State :=
  if s.punch.state != .idle || s.motor.state != .running then none
  else if s.punch.leader ≠ 0 then some (s.beginPunch .leader)
  else
    match s.nextFor .punch with
    | none => none
    | some (i, e) =>
      let markers := if e.gapBefore then s.cfg .gapMarkerCount else 0
      let s := s.modStore fun t => { t with cursors := t.cursors.set .punch i }
      some (s.beginPunch (.entry markers (BitVec.ofNat 5 (s.cfg .gapMarkerCode)) e.code))

/-- A punched code: the tape count, TAPE_OUT when it reaches 0, *punched* in the record (R165, R170). -/
def State.countPunched (s : State) : State :=
  let last := s.punch.tape == 1
  let s := s.modPunch fun p => { p with tape := p.tape - 1, timer := none }
  (s.modRecord fun r => { r with punched := bump r.punched }).latchIf last Cond.tapeOut

/-- The punch enters OFF from IDLE or BUSY (R172). -/
def State.punchOffNow (s : State) : State :=
  (s.modPunch fun p =>
    { p with state := .off, op := none, timer := none, leader := 0, offRequest := false }).detach .punch

/-- The punch enters IDLE from BUSY. -/
def State.punchIdle (s : State) : State := s.modPunch fun p => { p with state := .idle, op := none, timer := none }

/-- The end of an entry's operation or of a leader: tape-out, the off request, or IDLE (R166, R171). -/
def State.punchOperationDone (s : State) : State :=
  if s.punch.tape = 0 then s.punchOut false
  else if s.punch.offRequest then s.punchOffNow
  else s.punchIdle

/-- PUNCH_DONE (R165, R166, R170, R171). -/
def State.punchDone (s : State) : State :=
  match s.punch.op with
  | none => s
  | some (.entry 0 _ _) => (s.countPunched.consume .punch 1).punchOperationDone
  | some (.entry (n + 1) m c) =>
    let s := s.countPunched
    if s.punch.tape = 0 then s.punchOut false else s.beginPunch (.entry n m c)
  | some .leader =>
    let s := s.countPunched.modPunch fun p => { p with leader := p.leader - 1 }
    if s.punch.tape ≠ 0 ∧ s.punch.offRequest = false ∧ s.punch.leader ≠ 0 then s.beginPunch .leader
    else s.punchOperationDone

/-- The response limit passes: the punch has jammed (R167). -/
def State.punchResponseLimit (s : State) : State :=
  if s.punch.op.isSome then (s.latch Cond.punchJam).punchOut true else s

/-- TAPE_LOW_CHANGE: latched when it becomes live, and the count cut to the reserve (R169, R206). -/
def State.tapeLowChange (low : Bool) (s : State) : State :=
  if low = s.pins.tapeLow then s
  else
    let s := s.modPins fun p => { p with tapeLow := low }
    if low then (s.latch Cond.tapeLow).cutTape else s

/-! ## Orders to the punch (R168, R171 to R173) -/

/-- The count that ORDER TAPE LOADED n sets (R168). -/
def State.loadedTape (s : State) (n : Nat) : Nat := if s.pins.tapeLow then min n (s.cfg .tapeLowReserve) else n

/-- A punch in OUT by tape-out, or in OFF: ORDER TAPE LOADED brings it back (R168). -/
def State.awaitsTape (s : State) : Bool :=
  s.punch.state == .off || (s.punch.state == .out && !s.punch.jamHold)

/-- The punch enters IDLE from OUT or OFF: an attachment (R168, R173). -/
def State.punchBack (s : State) : State :=
  (s.modPunch fun p => { p with state := .idle, jamHold := false }).attach .punch

/-- ORDER TAPE LOADED (R168). -/
def State.tapeLoaded (n : Nat) (s : State) : State :=
  let back := s.awaitsTape
  let s := s.setTape (s.loadedTape n)
  if back && s.punch.tape != 0 then s.punchBack else s

/-- ORDER PUNCH LEADER with n in 1..255; none where it is refused with STATE (R171). -/
def State.punchLeader (n : Nat) (s : State) : Option State :=
  if s.punch.state = .out ∨ s.punch.state = .off ∨ s.punch.tape = 0 then none
  else some (s.modPunch fun p => { p with leader := min (p.leader + n) 65535 }).startCause

/-- ORDER PUNCH OFF (R172). -/
def State.punchOff (s : State) : State :=
  match s.punch.state with
  | .idle => s.punchOffNow
  | .busy => s.modPunch fun p => { p with offRequest := true }
  | .out => s.modPunch fun p => { p with state := .off, jamHold := false, leader := 0 }
  | .off => s

/-- ORDER PUNCH ON; none where it is refused with STATE (R173). -/
def State.punchOn (s : State) : Option State :=
  match s.punch.state with
  | .idle | .busy => some s
  | .off => if s.punch.tape = 0 then none else some s.punchBack
  | .out => if s.punch.tape = 0 ∨ s.punch.jamHold = false then none else some s.punchBack

/-! ## The commands -/

/-- PUNCH_TAKE_WORK (R164). -/
def execPunchTakeWork (s : State) : Host.Outcome State Fault Refusal :=
  complete (fun s => s.punchTake.getD s) s

/-- PUNCH_DONE (R165). -/
def execPunchDone (s : State) : Host.Outcome State Fault Refusal :=
  complete (fun s => s.punchDone) s

/-- PUNCH_RESPONSE_LIMIT_EXPIRY (R167). -/
def execPunchResponseLimitExpiry (s : State) : Host.Outcome State Fault Refusal :=
  complete (fun s => s.punchResponseLimit) s

/-- TAPE_LOW_CHANGE (R169). -/
def execTapeLowChange (tapeLow : Bool) (s : State) : Host.Outcome State Fault Refusal :=
  complete (fun s => s.tapeLowChange tapeLow) s

end Sys2Proof.Machine
end

