-- ==== Sys2Proof/Machine/Transmit.lean ====
section
/-! DEFINITION. The line transmitter and its arbiter (section 2.4), and the local path (R13, R84, R85). -/

namespace Sys2Proof.Machine

/-! ## Units and the copy reservation -/

/-- The source of a unit's copies; selection and the IDENT sending after selection are not copied (R36, R37). -/
def TxUnit.source : TxUnit → Option Source
  | .selection => none
  | .send _ => some .host
  | .keyboard => some .keyboard
  | .answerback => some .answerback
  | .identOrder => some .answerback
  | .identSelection => none

def IdentRequest.unit : IdentRequest → TxUnit
  | .afterSelection => .identSelection
  | .byOrder => .identOrder

/-- The reservation for a code of a unit: not needed, made, or none where it cannot be made (R36). -/
def State.reserve (u : TxUnit) (s : State) : Option State :=
  match u.source with
  | none => some s
  | some src =>
    if (s.sinkSet src).isEmpty then some s
    else if s.freeEntries = 0 then none
    else some (s.modTx fun t => { t with reservation := true })

/-- The sending of a code begins (R31). -/
def State.beginCode (code : Code) (u : TxUnit) (f : Follow) (s : State) : State :=
  s.modTx fun t =>
    { t with
      phase := .code code u f s.elementUnits s.stopUnits
      timer := some (6 * s.elementUnits + s.stopUnits) }

/-- What follows the first of a unit's codes. -/
def followOf : List Code → Follow
  | c :: _ => .code c
  | [] => .last

/-- The codes of a unit are taken: the reservation of the first, and its sending (R34 to R36). -/
def State.takeUnit (codes : List Code) (u : TxUnit) (s : State) : Option State :=
  match codes with
  | [] => none
  | c :: cs => (s.reserve u).map (State.beginCode c u (followOf cs))

/-! ## The arbiter (R32 to R34) -/

/-- The transmitter may take work (R32, R61). -/
def State.mayTransmit (s : State) : Bool :=
  (s.call.state == .selecting || s.call.state == .connected) && s.pins.loopOk && !s.call.localClear

/-- The next code of an ACTIVE run (R107). -/
def State.runCode (s : State) : Option Code := s.answer.run.bind fun i => s.answer.memory[i]?

/-- The break (R41). -/
def State.beginBreak (s : State) : State :=
  s.modTx fun t =>
    { t with phase := .brk, timer := startMs (s.cfg .breakSendLength), breakPending := false }

/-- The codes of an internal character as it is taken for sending (R35). -/
def State.sendCodes (s : State) (c : IChar) : List Code :=
  ((s.resolve s.tx.shift c).getD []).map (·.1)

/-- The pending IDENT sending is taken, or discarded when nothing can be sent (R39). -/
def State.takeIdent (r : IdentRequest) (s : State) : Option State :=
  let drop (s : State) : State := s.modTx fun t => { t with identPending := none }
  match s.identCodes with
  | none => some (drop s)
  | some codes => (s.takeUnit codes r.unit).map drop

/-- The arbiter takes the work of the lowest rank; none where nothing has work or the one that has is blocked (R33, R34). -/
def State.arbiter (s : State) : Option State :=
  let connected := s.call.state == .connected
  if connected && s.tx.breakPending then some s.beginBreak
  else
    match (if connected then s.runCode else none), (if connected then s.tx.identPending else none) with
    | some c, _ =>
      (s.takeUnit [c] .answerback).map fun s => s.modAnswer fun a => { a with run := a.run.map (· + 1) }
    | none, some r => s.takeIdent r
    | none, none =>
      if !connected then
        match s.tx.selection with
        | [] => none
        | c :: cs =>
          (s.takeUnit (s.sendCodes c) .selection).map fun s => s.modTx fun t => { t with selection := cs }
      else
        match s.namesLine .host && s.link.send.armed && !s.link.send.held, s.link.send.queue with
        | true, c :: cs =>
          (s.takeUnit (s.sendCodes c) (.send true)).map fun s => s.modSend fun k => { k with queue := cs }
        | _, _ =>
          match s.namesLine .keyboard && !s.link.send.armed, s.kb.queue with
          | true, c :: cs =>
            (s.takeUnit (s.sendCodes c) .keyboard).map fun s => s.modKb fun k => { k with queue := cs }
          | _, _ => none

/-- The second code of a unit, its reservation settled: it begins, or waits for LOOP_OK with what it holds (R32, R36). -/
def State.goOn (may : Bool) (code : Code) (u : TxUnit) (s : State) : State :=
  if may then s.beginCode code u .last else s.modTx fun t => { t with phase := .unitWait code u false }

/-- The transmitter's take: new work, or the second code of a unit that waits. The reservation that could not be made at the
completion of the shift code is made when an entry has become free, whether or not LOOP_OK stands (R34 to R36; log 16); where the
sink set has become empty meanwhile it is no longer needed, and the unit goes on with no entry freed: the model's choice
(log 44). -/
def State.txTake (s : State) : Option State :=
  match s.tx.phase with
  | .free => if s.mayTransmit then s.arbiter else none
  | .unitWait c u true => (s.reserve u).map (State.goOn s.mayTransmit c u)
  | .unitWait c u false => if s.mayTransmit then some (s.beginCode c u .last) else none
  | _ => none

/-! ## Completion (R37, R38) -/

/-- The copy of a completed code, read in the shift before its own effect (R37). -/
def State.makeCopy (code : Code) (sh : Shift) (u : TxUnit) (s : State) : State :=
  match u.source with
  | none => s
  | some src =>
    let set := s.sinkSet src
    let held := s.tx.reservation
    let s := s.modTx fun t => { t with reservation := false }
    if set.isEmpty then s.countUnrouted src
    else if held || s.freeEntries != 0 then s.append (newEntry code sh (s.entryAt sh code) src false set)
    else s.countUnrouted src

/-- The identity-capture window opens (R110). -/
def State.openWindow (s : State) : State :=
  (s.modRecord fun r => { r with remoteIdentity := some [] }).modAnswer fun a =>
    { a with window := some 0, gapTimer := startSec (s.cfg .identityCaptureGap) }

/-- The run ends at the completion of its last code (R109). -/
def State.endRun (s : State) : State :=
  s.modAnswer fun a =>
    { a with run := match a.run with
      | some i => if a.memory.length ≤ i then none else some i
      | none => none }

/-- The completion of the last code of a unit: SEND count, window, run, last selection character (R38 steps 4 to 6). -/
def State.unitDone (u : TxUnit) (s : State) : State :=
  match u with
  | .send true => s.countSend
  | .send false | .keyboard => s
  | .answerback => s.endRun
  | .identOrder | .identSelection => if s.call.state = .connected then s.openWindow else s
  | .selection =>
    if s.call.state = .selecting ∧ s.call.localClear = false ∧ s.tx.selection = [] then s.enterConnected else s

/-- The second code of a unit: its reservation is sought at the completion of the shift code, LOOP_OK or not, and it begins or
waits (R36, R38 step 7); it is given up outside SELECTING and CONNECTED (R42). -/
def State.beginSecond (code : Code) (u : TxUnit) (s : State) : State :=
  if s.call.state != .selecting && s.call.state != .connected then s
  else
    match s.reserve u with
    | some t => t.goOn s.pins.loopOk code u
    | none => s.modTx fun t => { t with phase := .unitWait code u true }

/-- A local clear with nothing left in flight enters CLEARING (R61). -/
def State.settleClear (s : State) : State :=
  if s.call.localClear && !s.inFlight then s.enterClearing else s

/-- The completion of a code (R38); the phase is FREE from the start, and what follows begins last. The class of the code is read
in the send shift that stands at its completion (R12), which the local path of the other queue may have moved while the code or
its pair was in flight (R13, R85); R10 takes it to be the shift of the entry: the model's choice (log 42). -/
def State.codeCompletion (s : State) : State :=
  match s.tx.phase with
  | .code code u f _ _ =>
    let sh := s.tx.shift
    let s := (s.modTx fun t => { t with phase := .free, timer := none }).moveSendShift code
    let s := if u = .selection then s else s.modRecord fun r => { r with sent := bump r.sent }
    let s := s.makeCopy code sh u
    let s := (if f = .last then s.unitDone u else s).restartIdle
    let s := match f with
      | .code c => s.beginSecond c u
      | .last | .abandoned => s
    s.settleClear
  | _ => s

/-! ## The local path (R13, R84, R85) -/

/-- One entry of a resolution is placed, or counted unrouted when it has no sink (R13); the set is read anew for each entry
and does not change between them. -/
def State.placeLocal (src : Source) (x : Code × TransEntry) (s : State) : State :=
  let set := s.sinkSet src
  let sh := s.tx.shift
  let s := if set.isEmpty then s.countUnrouted src else s.append (newEntry x.1 sh x.2 src false set)
  s.moveSendShift x.1

/-- A character with its resolution on the local path; none while the store has too little room (R13, R85). -/
def State.placeAll (src : Source) (xs : List (Code × TransEntry)) (s : State) : Option State :=
  if (s.sinkSet src).isEmpty || decide (xs.length ≤ s.freeEntries) then
    some (xs.foldl (fun s x => s.placeLocal src x) s)
  else none

/-- The head of a queue is for the local path: the call is not CONNECTED, or its route does not name LINE, and no local clear
is in progress in CONNECTED (R84, R126; log 11). -/
def State.forLocalPath (s : State) (src : Source) : Bool :=
  s.call.state != .connected || (!s.namesLine src && !s.call.localClear)

/-- The local path's take of the head of a queue (R85). -/
def State.localTake (q : TextQueue) (s : State) : Option State :=
  match q with
  | .keyboard =>
    match s.forLocalPath .keyboard, s.kb.queue with
    | true, c :: cs =>
      match s.resolve s.tx.shift c with
      | some xs => (s.placeAll .keyboard xs).map fun s => s.modKb fun k => { k with queue := cs }
      | none => none
    | _, _ => none
  | .send =>
    match s.forLocalPath .host && s.link.send.armed && !s.link.send.held, s.link.send.queue with
    | true, c :: cs =>
      match s.resolve s.tx.shift c with
      | some xs =>
        ((s.modSend fun k => { k with queue := cs }).placeAll .host xs).map State.countSend
      | none => none
    | _, _ => none

/-! ## The commands -/

/-- TRANSMITTER_TAKE (R34). -/
def execTransmitterTake (s : State) : Host.Outcome State Fault Refusal :=
  complete (fun s => s.txTake.getD s) s

/-- CODE_COMPLETION (R38). -/
def execCodeCompletion (s : State) : Host.Outcome State Fault Refusal :=
  complete (fun s => s.codeCompletion) s

/-- BREAK_SEND_END: the guard of one element and the stop length begins (R41). -/
def execBreakSendEnd (s : State) : Host.Outcome State Fault Refusal :=
  complete (fun s =>
    if s.tx.phase = .brk then
      s.modTx fun t => { t with phase := .breakGuard, timer := some (s.elementUnits + s.stopUnits) }
    else s) s

/-- BREAK_GUARD_END: the transmitter is FREE, and a local clear that waited goes on (R41, R61). -/
def execBreakGuardEnd (s : State) : Host.Outcome State Fault Refusal :=
  complete (fun s =>
    if s.tx.phase = .breakGuard then
      (s.modTx fun t => { t with phase := .free, timer := none }).settleClear
    else s) s

/-- LOCAL_PATH_TAKE (R85). -/
def execLocalPathTake (queue : TextQueue) (s : State) : Host.Outcome State Fault Refusal :=
  complete (fun s => (s.localTake queue).getD s) s

end Sys2Proof.Machine
end

