-- ==== Sys2Proof/Machine/Clock.lean ====
section
/-! DEFINITION. The block's own clock on an empty queue: the internal event that is due, or one unit of time (log 1, 2). -/

namespace Sys2Proof.Machine

/-- A timer that has reached its end. -/
def Timer.expired (t : Timer) : Bool := t == some 0

/-- The command of the printer's timer by what it times (R137, R141, R142, R148). -/
def State.printerTimerCommand (s : State) : Option Instr :=
  match s.printer.aborted, s.printerAction with
  | some _, _ => some (.carriageStepEnd s.pins.home)
  | none, some (.strike _) | none, some (.feed _) => some .printerResponseLimitExpiry
  | none, some .cooling => some .coolingPauseEnd
  | none, some .space | none, some (.slew _ _) => some (.carriageStepEnd s.pins.home)
  | none, none => none

/-- The command of the transmitter's timer by its phase (R31, R41). -/
def State.txTimerCommand (s : State) : Option Instr :=
  match s.tx.phase with
  | .code .. => some .codeCompletion
  | .brk => some .breakSendEnd
  | .breakGuard => some .breakGuardEnd
  | .free | .unitWait .. => none

/-- A command when its condition holds. -/
def dueWhen (b : Bool) (c : Instr) : Option Instr := if b then some c else none

/-- The events of time and of state that the block takes by itself, the first that is due to be taken first (log 2). -/
def State.dueEvents (s : State) : List (Option Instr) :=
  [ dueWhen ((s.rx.framing == .awaitMark || s.rx.framing == .stopSpace || s.rx.framing == .brk)
      && s.pins.lineRx == .mark) .lineReturnToMark
  , if s.tx.timer.expired then s.txTimerCommand else none
  , dueWhen (s.rx.framing == .stopSpace && s.pins.lineRx == .space && decide (s.rx.threshold ≤ s.rx.sinceEdge))
      .receivedBreak
  , dueWhen s.cal.holdoff.expired .holdoffExpiry
  , dueWhen s.answer.gapTimer.expired .identityCaptureGapExpiry
  , dueWhen s.call.answerDelay.expired .answerDelayExpiry
  , dueWhen s.call.connect.expired .connectTimerExpiry
  , dueWhen s.call.proceed.expired .proceedTimerExpiry
  , dueWhen s.call.loss.expired .lossTimerExpiry
  , dueWhen s.call.identity.expired .identityTimerExpiry
  , dueWhen s.call.idleClear.expired .idleClearExpiry
  , dueWhen s.call.guard.expired .clearingGuardExpiry
  , if s.printer.timer.expired then s.printerTimerCommand else none
  , dueWhen s.printer.haltGrace.expired .printerHaltGraceExpiry
  , dueWhen (s.punch.timer.expired && s.punch.op.isSome) .punchResponseLimitExpiry
  , dueWhen s.motor.runUp.expired .runUpExpiry
  , dueWhen s.motor.idleStop.expired .idleStopExpiry
  , dueWhen s.station.watchdog.expired .hostWatchdogExpiry
  , dueWhen s.link.capture.flush.expired .captureFlushExpiry
  , dueWhen (s.link.timer.expired && s.link.sending.isSome) (.linkFrameSent s.pins.rate)
  , dueWhen (s.link.rx != .hunt && s.link.gap.expired) .frameGapTimeout
  , dueWhen s.bell.expired .bellPulseEnd
  , dueWhen s.kb.scanTimer.expired (.keyboardScan s.pins.keys)
  , dueWhen s.txTake.isSome .transmitterTake
  , dueWhen (s.localTake .keyboard).isSome (.localPathTake .keyboard)
  , dueWhen (s.localTake .send).isSome (.localPathTake .send)
  , dueWhen (s.printerTake s.pins.home).isSome (.printerTakeEntry s.pins.home)
  , dueWhen s.punchTake.isSome .punchTakeWork
  , dueWhen s.linkTake.isSome .linkTransmitterTake ]

/-- The internal event that is due first; none while RESET is asserted (R211, log 29). -/
def State.nextDue (s : State) : Option Instr := if s.pins.reset then none else s.dueEvents.findSome? id

/-- A timer one unit of time later. -/
def Timer.tick (t : Timer) : Timer := t.map (· - 1)

/-- One unit of time at every running timer, at the receiver's time since the start edge and at the connected time (R57, R64). -/
def State.timersTick (s : State) : State :=
  let s := s.modRx fun r =>
    { r with
      sinceEdge := if r.framing = .assemble ∨ r.framing = .stopSpace then r.sinceEdge + 1 else r.sinceEdge }
  let s := (s.modCal fun c => { c with holdoff := c.holdoff.tick }).modTx fun t => { t with timer := t.timer.tick }
  let s := s.modCall fun c =>
    { c with
      answerDelay := c.answerDelay.tick, connect := c.connect.tick, proceed := c.proceed.tick
      loss := c.loss.tick, identity := c.identity.tick, idleClear := c.idleClear.tick, guard := c.guard.tick
      connectedTime := if c.state = .connected then c.connectedTime + 1 else c.connectedTime }
  let s := (s.modAnswer fun a => { a with gapTimer := a.gapTimer.tick }).modKb fun k =>
    { k with scanTimer := k.scanTimer.tick }
  let s := s.modPrinter fun p => { p with timer := p.timer.tick, haltGrace := p.haltGrace.tick }
  let s := (s.modBell Timer.tick).modPunch fun p => { p with timer := p.timer.tick }
  let s := s.modMotor fun m => { m with runUp := m.runUp.tick, idleStop := m.idleStop.tick }
  let s := s.modStation fun u => { u with watchdog := u.watchdog.tick }
  s.modLink fun l =>
    { l with
      timer := l.timer.tick, gap := l.gap.tick
      capture := { l.capture with flush := l.capture.flush.tick } }

/-- One unit of time: the timers, then HOST_RX (R189); nothing moves while RESET is asserted (R211, log 29). -/
def State.tick (s : State) : State := if s.pins.reset then s else s.timersTick.hostRxTick

end Sys2Proof.Machine
end

