-- ==== Sys2Proof/Machine/CallControl.lean ====
section
/-! DEFINITION. The line control signals and the call timers (Chapter 3). -/

namespace Sys2Proof.Machine

/-- CALL_IN becomes asserted: an offer in FREE, a collision in CALLING (R45, R55). -/
def State.callInAsserted (s : State) : State :=
  if s.pins.callIn then s
  else
    let s := s.modPins fun p => { p with callIn := true }
    match s.call.state with
    | .free => s.offer
    | .calling => s.collide
    | _ => s

/-- CALL_IN becomes deasserted: MISSED in OFFERED, REFUSED in REFUSED (R49, R51). -/
def State.callInDeasserted (s : State) : State :=
  if !s.pins.callIn then s
  else
    let s := s.modPins fun p => { p with callIn := false }
    match s.call.state with
    | .offered => s.endUnanswered .missed
    | .refused => s.endUnanswered .refused
    | _ => s

/-- LOOP_OK becomes asserted (R52, R54, R60). -/
def State.loopOkAsserted (s : State) : State :=
  if s.pins.loopOk then s
  else
    let s := (s.modPins fun p => { p with loopOk := true }).modCall fun c => { c with loss := none }
    match s.call.state with
    | .answering => s.enterConnected
    | .calling => s.enterSelecting
    | _ => s

/-- LOOP_OK becomes deasserted: the loss timer starts in SELECTING and CONNECTED (R60). -/
def State.loopOkDeasserted (s : State) : State :=
  if !s.pins.loopOk then s
  else
    let s := s.modPins fun p => { p with loopOk := false }
    if s.call.state = .selecting ∨ s.call.state = .connected then
      s.modCall fun c => { c with loss := startMs (s.cfg .lossTolerance) }
    else s

/-- The loss timer expires: NO_CONNECT in SELECTING, REMOTE_CLEAR with LINE_LOST in CONNECTED; an outcome already set stands
(R60, R62, R64). -/
def State.lossExpiry (s : State) : State :=
  if s.call.loss.isNone then s
  else
    let s := s.modCall fun c => { c with loss := none }
    match s.call.state with
    | .selecting => (s.setOutcome .noConnect).enterClearing
    | .connected => (((s.setOutcome .remoteClear).latch Cond.lineLost).emptyQueues).enterClearing
    | _ => s

/-- The answer delay expires (R49). -/
def State.answerDelayExpiry (s : State) : State :=
  if s.call.answerDelay.isNone then s
  else
    let s := s.modCall fun c => { c with answerDelay := none }
    (s.answerRequest).getD s

/-- The connect timer expires in ANSWERING (R52). -/
def State.connectExpiry (s : State) : State :=
  if s.call.connect.isNone then s
  else
    let s := s.modCall fun c => { c with connect := none }
    if s.call.state = .answering then (s.setOutcome .noConnect).enterClearing else s

/-- The proceed timer expires in CALLING (R54). -/
def State.proceedExpiry (s : State) : State :=
  if s.call.proceed.isNone then s
  else
    let s := s.modCall fun c => { c with proceed := none }
    if s.call.state = .calling then (s.setOutcome .noConnect).enterClearing else s

/-- The identity timer expires (R58). -/
def State.identityExpiry (s : State) : State :=
  if s.call.identity.isNone then s
  else (s.modCall fun c => { c with identity := none }).answerbackRequest

/-- The idle-clear timer expires: a local clear in UNATTENDED mode, no effect on the call otherwise (R59). -/
def State.idleClearExpiry (s : State) : State :=
  if s.call.idleClear.isNone then s
  else
    let s := s.modCall fun c => { c with idleClear := none }
    if s.station.mode = .unattended then s.beginLocalClear .idleClear else s

/-- The clearing guard expires: the record is closed and the call is FREE (R65). -/
def State.guardExpiry (s : State) : State :=
  if s.call.guard.isNone then s
  else
    let s := s.modCall fun c => { c with guard := none }
    if s.call.state = .clearing then s.returnToFree else s

/-- CALL_IN_ASSERTED. -/
def execCallInAsserted (s : State) : Host.Outcome State Fault Refusal :=
  complete (fun s => s.callInAsserted) s

/-- CALL_IN_DEASSERTED. -/
def execCallInDeasserted (s : State) : Host.Outcome State Fault Refusal :=
  complete (fun s => s.callInDeasserted) s

/-- ANSWER_DELAY_EXPIRY. -/
def execAnswerDelayExpiry (s : State) : Host.Outcome State Fault Refusal :=
  complete (fun s => s.answerDelayExpiry) s

/-- LOOP_OK_ASSERTED. -/
def execLoopOkAsserted (s : State) : Host.Outcome State Fault Refusal :=
  complete (fun s => s.loopOkAsserted) s

/-- LOOP_OK_DEASSERTED. -/
def execLoopOkDeasserted (s : State) : Host.Outcome State Fault Refusal :=
  complete (fun s => s.loopOkDeasserted) s

/-- LOSS_TIMER_EXPIRY. -/
def execLossTimerExpiry (s : State) : Host.Outcome State Fault Refusal :=
  complete (fun s => s.lossExpiry) s

/-- CONNECT_TIMER_EXPIRY. -/
def execConnectTimerExpiry (s : State) : Host.Outcome State Fault Refusal :=
  complete (fun s => s.connectExpiry) s

/-- PROCEED_TIMER_EXPIRY. -/
def execProceedTimerExpiry (s : State) : Host.Outcome State Fault Refusal :=
  complete (fun s => s.proceedExpiry) s

/-- IDENTITY_TIMER_EXPIRY. -/
def execIdentityTimerExpiry (s : State) : Host.Outcome State Fault Refusal :=
  complete (fun s => s.identityExpiry) s

/-- IDLE_CLEAR_EXPIRY. -/
def execIdleClearExpiry (s : State) : Host.Outcome State Fault Refusal :=
  complete (fun s => s.idleClearExpiry) s

/-- CLEARING_GUARD_EXPIRY. -/
def execClearingGuardExpiry (s : State) : Host.Outcome State Fault Refusal :=
  complete (fun s => s.guardExpiry) s

end Sys2Proof.Machine
end

