-- ==== Sys2Proof/Machine/Channels.lean ====
section
/-! DEFINITION. The SEND and CAPTURE channels: TEXT, their orders, the flush timer (sections 10.5, 10.6). -/

namespace Sys2Proof.Machine

/-- The places of the SEND queue (section 10.5). -/
def sendQueueSize : Nat := 64

/-- A SEND character of the current arming that the transmitter has taken and not completed (R199). -/
def State.sendInFlight (s : State) : Nat :=
  match s.tx.phase with
  | .code _ (.send true) _ _ _ => 1
  | .unitWait _ (.send true) _ => 1
  | _ => 0

/-- The open count (R199). -/
def State.openCount (s : State) : Nat :=
  s.link.send.remaining - s.link.send.queue.length - s.sendInFlight

/-- A byte of TEXT or ORDER CALL as an internal character that has a resolution (R9, R15). -/
def State.resolvable (s : State) (b : Byte) : Option IChar :=
  match icharOf b with
  | some c => if s.hasResolution c then some c else none
  | none => none

/-- TEXT (R199). -/
def State.textFrame (chars : List Byte) (s : State) : State × Reply :=
  if !s.link.send.armed then s.reject .state
  else if s.openCount < chars.length then s.reject .range
  else
    match allSome (chars.map s.resolvable) with
    | none => s.reject .range
    | some cs =>
      if sendQueueSize < s.link.send.queue.length + cs.length then
        (s, .wait (sendQueueSize - s.link.send.queue.length))
      else (s.modSend fun k => { k with queue := k.queue ++ cs }, .grant)

/-- ORDER ARM SEND (R198); that RANGE is tested before STATE is the model's choice (log 41). -/
def State.armSend (n : Nat) (s : State) : State × Reply :=
  if n = 0 then s.reject .range
  else if s.link.send.armed then s.reject .state
  else (s.modSend fun k => { k with armed := true, held := false, remaining := n }, .grant)

/-- ORDER DISARM for SEND (R198). -/
def State.disarmSend (s : State) : State × Reply :=
  if s.link.send.armed then (s.endSend .disarmed, .grant) else s.reject .state

/-- ORDER HOLD for SEND; an argument outside 0 and 1 is out of range, tested before the channel's state (R198, section 10.9;
log 17). -/
def State.holdSend (on : Byte) (s : State) : State × Reply :=
  if 1 < on.toNat then s.reject .range
  else if s.link.send.armed then (s.modSend fun k => { k with held := on == 1 }, .grant)
  else s.reject .state

/-- ORDER ARM CAPTURE: an attachment, with an empty frame (R201); that RANGE is tested before STATE is the model's choice (log
41). -/
def State.armCapture (n f : Nat) (s : State) : State × Reply :=
  if n = 0 ∨ f = 0 ∨ 32 < f then s.reject .range
  else if s.link.capture.state ≠ .disarmed then s.reject .state
  else
    (((s.modCapture fun _ =>
      { state := .armed, remaining := n, size := f, taken := 0, closed := false, flush := none }).attach
        .capture).gather, .grant)

/-- ORDER DISARM for CAPTURE (R201). -/
def State.disarmCapture (s : State) : State × Reply :=
  if s.link.capture.state = .disarmed then s.reject .state else (s.endCapture .disarmed, .grant)

/-- The change of an ARMED channel to HELD: gathering stops (R201). -/
def State.holdFrame (s : State) : State := s.modCapture fun c => { c with state := .held, flush := none }

/-- The change of a HELD channel to ARMED: a frame that holds items has its flush timer started again (R201). -/
def State.releaseFrame (s : State) : State :=
  (s.modCapture fun c =>
    { c with
      state := .armed
      flush := if c.closed || c.taken == 0 then none else startMs (s.cfg .captureFlushTime) }).gather

/-- ORDER HOLD for CAPTURE (R201); an argument outside 0 and 1 is out of range, tested before the channel's state (log 17). -/
def State.holdCapture (on : Byte) (s : State) : State × Reply :=
  if 1 < on.toNat then s.reject .range
  else
    match s.link.capture.state with
    | .disarmed => s.reject .state
    | .armed => (if on = 1 then s.holdFrame else s, .grant)
    | .held => (if on = 1 then s else s.releaseFrame, .grant)

/-- The flush timer expires: the frame is closed with the items it holds (R202). -/
def State.flushExpiry (s : State) : State :=
  if s.link.capture.flush.isNone then s
  else s.modCapture fun c => { c with closed := true, flush := none }

/-! ## The commands -/

/-- TEXT. -/
def execText (chars : List Byte) (s : State) : Host.Outcome State Fault Refusal :=
  complete (fun s => s.takeFrame fun s => s.textFrame chars) s

/-- ORDER_ARM_SEND. -/
def execOrderArmSend (n : BitVec 16) (s : State) : Host.Outcome State Fault Refusal :=
  complete (fun s => s.takeFrame fun s => s.armSend n.toNat) s

/-- ORDER_ARM_CAPTURE. -/
def execOrderArmCapture (n : BitVec 16) (size : Byte) (s : State) : Host.Outcome State Fault Refusal :=
  complete (fun s => s.takeFrame fun s => s.armCapture n.toNat size.toNat) s

/-- ORDER_DISARM_SEND. -/
def execOrderDisarmSend (s : State) : Host.Outcome State Fault Refusal :=
  complete (fun s => s.takeFrame State.disarmSend) s

/-- ORDER_DISARM_CAPTURE. -/
def execOrderDisarmCapture (s : State) : Host.Outcome State Fault Refusal :=
  complete (fun s => s.takeFrame State.disarmCapture) s

/-- ORDER_HOLD_SEND. -/
def execOrderHoldSend (on : Byte) (s : State) : Host.Outcome State Fault Refusal :=
  complete (fun s => s.takeFrame fun s => s.holdSend on) s

/-- ORDER_HOLD_CAPTURE. -/
def execOrderHoldCapture (on : Byte) (s : State) : Host.Outcome State Fault Refusal :=
  complete (fun s => s.takeFrame fun s => s.holdCapture on) s

/-- CAPTURE_FLUSH_EXPIRY. -/
def execCaptureFlushExpiry (s : State) : Host.Outcome State Fault Refusal :=
  complete (fun s => s.flushExpiry) s

end Sys2Proof.Machine
end

