-- ==== Sys2Proof/Machine/KeyScan.lean ====
section
/-! DEFINITION. The keyboard scanner and the bell (Chapter 6). -/

namespace Sys2Proof.Machine

/-! ## One position at one scan (R115 to R117) -/

/-- The debounce and stuck settings that a scan reads. -/
structure ScanSettings where
  press : Nat
  release : Nat
  /-- The stuck timeout in ms. -/
  stuck : Nat
  deriving DecidableEq, Repr

def State.scanSettings (s : State) : ScanSettings where
  press := s.cfg .pressDebounce
  release := s.cfg .releaseDebounce
  stuck := 1000 * s.cfg .stuckTimeout

/-- A closed reading of a position at rest or pressing (R115); the flag says that it is pressed. -/
def pressReading (g : ScanSettings) (count : Nat) : KeyPos × Bool :=
  if g.press ≤ count + 1 then ({ state := .down, count := 0, held := 0 }, true)
  else ({ state := .pressing, count := count + 1, held := 0 }, false)

/-- An open reading of a position that was held (R116, R117). -/
def releaseReading (g : ScanSettings) (state : KeyState) (count held : Nat) : KeyPos × Bool :=
  if g.release ≤ count + 1 then ({ state := .up, count := 0, held := 0 }, false)
  else ({ state := state, count := count + 1, held := held }, false)

/-- A closed reading of a position in DOWN or RELEASING: the stuck test (R117). -/
def heldReading (g : ScanSettings) (held : Nat) : KeyPos × Bool :=
  ({ state := if g.stuck < held then .stuck else .down, count := 0, held := held }, false)

/-- A position at a scan that comes an interval (in ms) after the last one. -/
def KeyPos.scan (g : ScanSettings) (interval : Nat) (closed : Bool) (k : KeyPos) : KeyPos × Bool :=
  match k.state, closed with
  | .up, true => pressReading g 0
  | .up, false => ({ state := .up, count := 0, held := 0 }, false)
  | .pressing, true => pressReading g k.count
  | .pressing, false => ({ state := .up, count := 0, held := 0 }, false)
  | .down, true => heldReading g (k.held + interval)
  | .down, false => releaseReading g .releasing 0 (k.held + interval)
  | .releasing, true => heldReading g (k.held + interval)
  | .releasing, false => releaseReading g .releasing k.count (k.held + interval)
  | .stuck, true => ({ state := .stuck, count := 0, held := k.held + interval }, false)
  | .stuck, false => releaseReading g .stuck k.count (k.held + interval)

/-! ## What a press does (sections 6.4 to 6.7) -/

/-- A CHAR press: appended to the keyboard queue, or refused with a bell pulse (R121, R122). -/
def State.charPress (c : IChar) (s : State) : State :=
  if s.call.state == .clearing || !s.hasResolution c || 32 ≤ s.kb.queue.length then s.bellPulse
  else s.modKb fun k => { k with queue := k.queue ++ [c] }

/-- A FUNCTION press (R123, R124). -/
def State.functionPress (f : KeyFunction) (pos : Nat) (s : State) : State :=
  match f with
  | .hereIs => s.answerbackRequest
  | .brk => s.breakRequest.getD s
  | .answer => s.answerRequest.getD s
  | .clear => s.clearRequest.getD s
  | .fkey1 => s.note (.key 1 pos)
  | .fkey2 => s.note (.key 2 pos)
  | .fkey3 => s.note (.key 3 pos)
  | .fkey4 => s.note (.key 4 pos)

/-- The OPERATOR notice of the first press in UNATTENDED mode (R128). -/
def State.operatorPress (pos : Nat) (e : KeyEntry) (s : State) : State :=
  if s.station.mode == .unattended && s.kb.operatorFlag then
    (s.note (.operator pos e s.call.state)).modKb fun k => { k with operatorFlag := false }
  else s

/-- A press: the start cause, the operator flag, the keymap entry (R118). -/
def State.press (s : State) (pos : Nat) : State :=
  let e := s.kb.keymap.getD pos .none
  let s := s.startCause.operatorPress pos e
  match e with
  | .none => s
  | .char c => s.charPress c
  | .function f => s.functionPress f pos

/-- The positions of a scan, each with whether it is pressed. -/
def State.scanned (s : State) (closed : BitVec 64) : List (KeyPos × Bool) :=
  List.zipWith (fun n k => KeyPos.scan s.scanSettings s.kb.interval (closed.getLsbD n) k) (List.range 64)
    s.kb.positions

/-- The positions pressed at a scan, in ascending order (R118). -/
def pressedOf (xs : List (KeyPos × Bool)) : List Nat :=
  ((List.range 64).zip xs).filterMap fun x => if x.2.2 then some x.1 else none

/-- A scan of the matrix (R114 to R118): the positions, STUCK_KEY, the presses in order. -/
def State.keyboardScan (closed : BitVec 64) (s : State) : State :=
  let xs := s.scanned closed
  let wasStuck := s.stuckCount != 0
  let s := (s.modKb fun k =>
    { k with
      positions := xs.map (·.1), interval := s.cfg .scanPeriod, scanTimer := startMs (s.cfg .scanPeriod) }).modPins
    fun p => { p with keys := closed }
  let s := s.latchIf (!wasStuck && s.stuckCount != 0) Cond.stuckKey
  (pressedOf xs).foldl State.press s

/-- KEYBOARD_SCAN. -/
def execKeyboardScan (closed : BitVec 64) (s : State) : Host.Outcome State Fault Refusal :=
  complete (fun s => s.keyboardScan closed) s

/-- BELL_PULSE_END (R122). -/
def execBellPulseEnd (s : State) : Host.Outcome State Fault Refusal :=
  complete (fun s => s.modBell fun _ => none) s

end Sys2Proof.Machine
end

