-- ==== Sys2Proof/Machine/Line.lean ====
section
/-! DEFINITION. The line receiver and the sampling calibrator (Chapter 2), and what a delivered character sets in motion:
the matcher, the window and the answerback (Chapters 4 and 5). -/

namespace Sys2Proof.Machine

/-! ## The sampling calibrator (section 2.3) -/

def sumOf (ds : List Int) : Int := ds.foldl (· + ·) 0

/-- The largest absolute displacement. -/
def largestOf (ds : List Int) : Nat := ds.foldl (fun m d => max m d.natAbs) 0

/-- A good character added to the window (R26). -/
def Calibrator.measure (c : Calibrator) (ds : List Int) : Calibrator :=
  { c with
    sumT := c.sumT + ds.length
    sumS := c.sumS + sumOf ds
    maxM := max c.maxM (largestOf ds)
    count := c.count + 1 }

/-- A window in error (R29). -/
def State.windowError (s : State) : State :=
  ((s.latch Cond.calError).flagRecord fun f => { f with calError := true }).modCal fun c =>
    { c.fresh with state := .holdoff, holdoff := startSec (s.cfg .holdoff) }

/-- A window without error, applied by mode and state; mode FULL is 2 (R27 step 4, R28). -/
def State.windowGood (candidate bias : Int) (s : State) : State :=
  let s :=
    if s.cfg .calibrationMode = 2 ∧ s.cal.state = .measuring then
      (s.modCal fun c => { c with p := candidate.toNat, state := .settled }).note
        (.calibration false candidate.toNat bias)
    else if s.cfg .calibrationMode = 2 ∧ s.cal.state = .settled
        ∧ s.cfg .band < (candidate - (s.cal.p : Int)).natAbs then
      (s.modCal fun c => { c with p := candidate.toNat }).note (.calibration true candidate.toNat bias)
    else s
  s.modCal Calibrator.fresh

/-- The end of a window (R27). -/
def State.windowEnd (s : State) : State :=
  if s.cal.sumT = 0 then s.modCal Calibrator.fresh
  else
    let bias := Int.tdiv s.cal.sumS s.cal.sumT
    let candidate := 8 + bias
    let error := candidate < 2 ∨ 14 < candidate ∨ s.cfg .distortionLimit < s.cal.maxM
    let s := s.modCal fun c => { c with lastBias := bias }
    if error then s.windowError else s.windowGood candidate bias

/-- A good character delivered in CONNECTED is measured (R26); the window is read when the character is taken (R25). -/
def State.calibrate (ds : List Int) (s : State) : State :=
  if s.cal.measures then
    let s := s.modCal fun c => c.measure ds
    if s.cfg .window ≤ s.cal.count then s.windowEnd else s
  else s

/-! ## The sequence matcher (sections 5.3, 5.4) -/

/-- The class is transparent to the matcher (R99). -/
def CharClass.transparent (k : CharClass) : Bool := k == .ltrs || k == .figs || k == .null

/-- A good character against one entry: the new progress, and whether the entry completes (R99). -/
def matchEntry (m : Mode) (ch : TransEntry) (e : SeqEntry) (k : Nat) : Nat × Bool :=
  if !e.active m || ch.cls.transparent then (k, false)
  else
    let next := if e.pattern[k]? = some ch.char then k + 1 else if e.pattern[0]? = some ch.char then 1 else 0
    if e.length ≤ next then (0, true) else (next, false)

/-- A good character against every entry. -/
def State.matchAll (s : State) (ch : TransEntry) : List (Nat × Bool) :=
  List.zipWith (matchEntry s.station.mode ch) s.matcher.table s.matcher.progress

/-- The completed entries with their indexes, in ascending order. -/
def State.completions (s : State) (ch : TransEntry) : List (Nat × SeqEntry) :=
  ((List.range 16).zip (s.matcher.table.zip (s.matchAll ch))).filterMap fun x =>
    if x.2.2.2 then some (x.1, x.2.1) else none

/-- The effect of a completed entry's action, its notice apart (R102 to R104). -/
def State.actOn (a : SeqAction) (s : State) : State :=
  match a with
  | .punchOn => s.modRoute fun r => { r with punchSwitch := true }
  | .punchOff => s.modRoute fun r => { r with punchSwitch := false }
  | .printOn => s.modRoute fun r => { r with printSwitch := true }
  | .printOff => s.modRoute fun r => { r with printSwitch := false }
  | .endOfMessage => s.modRecord fun r => { r with messages := bump r.messages }
  | .clear => if s.station.mode = .unattended then s.beginLocalClear .sequenceClear else s
  | .notice => s

/-- A completion: its action, then its SEQUENCE notice where one is made (R100, R103, R104). -/
def State.complete1 (s : State) (x : Nat × SeqEntry) : State :=
  let ignored := x.2.action == .clear && s.station.mode != .unattended
  let t := s.actOn x.2.action
  if x.2.noticeFlag || x.2.action == .notice || ignored then
    t.note (.sequence x.1 x.2.action (!ignored) s.recordNumber)
  else t

/-! ## The identity-capture window (section 5.6) -/

/-- A character appended to the remote identity; the twentieth closes the window (R111). -/
def State.appendIdentity (c : IChar) (n : Nat) (s : State) : State :=
  let s := s.modRecord fun r => { r with remoteIdentity := r.remoteIdentity.map (· ++ [c]) }
  if 20 ≤ n + 1 then s.closeWindow else s.modAnswer fun a => { a with window := some (n + 1) }

/-- A delivered character at an open window (R111). -/
def State.captureIdentity (good : Bool) (e : TransEntry) (s : State) : State :=
  match s.answer.window with
  | none => s
  | some n =>
    let s := s.modAnswer fun a => { a with gapTimer := startSec (s.cfg .identityCaptureGap) }
    if !good then s.appendIdentity (BitVec.ofNat 7 (s.cfg .substituteSymbol)) n
    else
      match e.cls with
      | .print | .space => s.appendIdentity e.char n
      | .lf => s.closeWindow
      | _ => s

/-! ## Delivery (R21) -/

/-- The receive shift after a good character (R6, R7). -/
def State.receiveShiftAfter (s : State) (e : TransEntry) : Shift :=
  match e.cls.names with
  | some sh => sh
  | none =>
    if e.cls = .space ∧ s.cfg .unshiftOnSpace = 1 then .letters else s.rx.shift

/-- The receiver in HUNT with the line at mark. -/
def State.receiverHunt (s : State) : State :=
  (s.modRx fun r => { r with framing := .hunt, levels := [], displacements := [] }).modPins fun p =>
    { p with lineRx := .mark }

/-- The progress counts after a delivered character (R98, R99). -/
def State.matchProgress (good : Bool) (e : TransEntry) (s : State) : State :=
  if good then
    let ks := (s.matchAll e).map (·.1)
    s.modMatcher fun m => { m with progress := ks }
  else s.clearProgress

/-- A delivered character is handed on: count, translation, shift, calibrator, matcher, route, idle-clear timer, window,
identity request, actions (R5 to R7, R21; order of the last four, log 10). -/
def State.deliver (code : Code) (good : Bool) (ds : List Int) (s : State) : State :=
  let connected := s.call.state == .connected
  let sh := s.rx.shift
  let e := s.entryAt sh code
  let s := s.receiverHunt.modRecord fun r => { r with received := bump r.received }
  let after := s.receiveShiftAfter e
  let s := if good then s.modRx fun r => { r with shift := after } else s
  let s := if good && connected then s.calibrate ds else s
  let done := if good && connected then s.completions e else []
  let s := if connected then s.matchProgress good e else s
  let s := (s.routeLine code sh e (!good)).restartIdle
  let s := if connected then s.captureIdentity good e else s
  let s := if good && connected && e.cls == .ident then s.answerbackRequest else s
  done.foldl State.complete1 s

/-! ## Framing (section 2.1) -/

/-- The character in assembly as the line gives it: not a false start, and the level of the stop element (R17 to R19). -/
def State.stopLevel (s : State) (line : List Level) : Level := levelAt line s.stopSample

/-- The start element still stands at sixteenth 8 (R17). -/
def startHolds (line : List Level) : Bool := levelAt line 8 == .space

/-- CHARACTER_DELIVERED: a good character at its stop sample, or a MUTILATED one as the line returns to mark (R19 to R21). -/
def State.characterDelivered (line : List Level) (s : State) : State :=
  match s.rx.framing with
  | .assemble =>
    if startHolds line && s.stopLevel line == .mark then
      let levels := sampleLevels s.rx.samplePoint line
      s.deliver (codeOf levels) true (displacementsOf line levels)
    else s
  | .stopSpace => s.deliver (codeOf s.rx.levels) false []
  | _ => s

/-- The effects of a RECEIVED BREAK event (R22); the receiver enters BREAK (R20). -/
def State.receiveBreak (s : State) : State :=
  let s := (s.modRx fun r => { r with framing := .brk, levels := [], displacements := [] }).modPins fun p =>
    { p with lineRx := .space }
  ((s.modKb fun k => { k with queue := [] }).endSend .brk).flagRecord fun f => { f with breakReceived := true }

/-- START_EDGE (R17, R20): p and the threshold of the character are those that stand at the edge. -/
def State.startEdge (s : State) : State :=
  let s := s.modPins fun p => { p with lineRx := .space }
  if s.rx.framing = .hunt then
    s.modRx fun r =>
      { r with
        framing := .assemble, samplePoint := s.cal.p, threshold := s.breakUnits, sinceEdge := 0
        levels := [], displacements := [] }
  else s

/-- STOP_SAMPLE_AT_SPACE (R20): STOP_SPACE, or a break at once when the threshold is the stop sample itself. -/
def State.stopSampleAtSpace (line : List Level) (s : State) : State :=
  if s.rx.framing = .assemble ∧ startHolds line = true ∧ s.stopLevel line = .space then
    let levels := sampleLevels s.rx.samplePoint line
    let s := (s.modRx fun r =>
      { r with
        framing := .stopSpace, levels := levels, displacements := displacementsFrom line 1 .space levels
        sinceEdge := s.stopSampleUnits }).modPins fun p => { p with lineRx := .space }
    if s.rx.threshold ≤ s.stopSampleUnits then s.receiveBreak else s
  else s

/-- CHARACTER_DELIVERED. -/
def execCharacterDelivered (line : List Level) (s : State) : Host.Outcome State Fault Refusal :=
  complete (fun s => s.characterDelivered line) s

/-- RECEIVED_BREAK: the threshold passes in STOP_SPACE with the line still at space (R20, R22). -/
def execReceivedBreak (s : State) : Host.Outcome State Fault Refusal :=
  complete (fun s => if s.rx.framing = .stopSpace ∧ s.pins.lineRx = .space then s.receiveBreak else s) s

/-- HOLDOFF_EXPIRY: MEASURING with a fresh window in a connected call unless the mode is OFF, IDLE otherwise (R29). -/
def State.holdoffExpiry (s : State) : State :=
  if s.cal.holdoff.isNone then s
  else
    let measuring := s.call.state == .connected && s.cfg .calibrationMode != 0
    s.modCal fun c =>
      { c.fresh with holdoff := none, state := if measuring then .measuring else .idle }

/-- HOLDOFF_EXPIRY. -/
def execHoldoffExpiry (s : State) : Host.Outcome State Fault Refusal :=
  complete (fun s => s.holdoffExpiry) s

/-- IDENTITY_CAPTURE_GAP_EXPIRY: the window closes (R112). -/
def execIdentityCaptureGapExpiry (s : State) : Host.Outcome State Fault Refusal :=
  complete (fun s => if s.answer.gapTimer.isSome then s.closeWindow else s) s

/-- START_EDGE. -/
def execStartEdge (s : State) : Host.Outcome State Fault Refusal :=
  complete (fun s => s.startEdge) s

/-- FALSE_START: the line is at mark at sixteenth 8, and the receiver returns to HUNT (R17). -/
def execFalseStart (s : State) : Host.Outcome State Fault Refusal :=
  complete (fun s => if s.rx.framing = .assemble then s.receiverHunt else s) s

/-- STOP_SAMPLE_AT_SPACE. -/
def execStopSampleAtSpace (line : List Level) (s : State) : Host.Outcome State Fault Refusal :=
  complete (fun s => s.stopSampleAtSpace line) s

/-- The line is found at mark: AWAIT_MARK and BREAK lead to HUNT, and the MUTILATED character of STOP_SPACE is delivered
(R16, R20). -/
def State.lineReturnToMark (s : State) : State :=
  let s := s.modPins fun p => { p with lineRx := .mark }
  match s.rx.framing with
  | .awaitMark | .brk => s.receiverHunt
  | .stopSpace => s.deliver (codeOf s.rx.levels) false []
  | .off | .hunt | .assemble => s

/-- LINE_RETURN_TO_MARK. -/
def execLineReturnToMark (s : State) : Host.Outcome State Fault Refusal :=
  complete (fun s => s.lineReturnToMark) s

end Sys2Proof.Machine
end

