-- ==== Sys2Proof/Machine/MotorStation.lean ====
section
/-! DEFINITION. The timers of the motor, and the host watchdog (sections 8.1 and 9.3). -/

namespace Sys2Proof.Machine

/-- The run-up is over: RUNNING (R159). -/
def State.runUpExpiry (s : State) : State :=
  if s.motor.runUp.isNone then s
  else s.modMotor fun m => { m with runUp := none, state := if m.state = .runup then .running else m.state }

/-- The motor has stood idle: STOPPED (R160). -/
def State.idleStopExpiry (s : State) : State :=
  if s.motor.idleStop.isNone then s
  else s.modMotor fun m => { m with idleStop := none, state := if m.state = .running then .stopped else m.state }

/-- The host has been silent: HOST_SILENT, UNATTENDED, the end of CAPTURE (R179). -/
def State.watchdogExpiry (s : State) : State :=
  if s.station.watchdog.isNone then s
  else
    let s := (s.modStation fun u => { u with watchdog := none, hostSilent := true }).latch Cond.hostSilent
    (s.changeMode .unattended true).endCapture .hostSilent

/-- ORDER MOTOR STOP; none where it is refused with STATE (R161). -/
def State.motorStop (s : State) : Option State :=
  if s.idleConditions then some (s.modMotor fun _ => { state := .stopped, runUp := none, idleStop := none }) else none

/-- RUN_UP_EXPIRY. -/
def execRunUpExpiry (s : State) : Host.Outcome State Fault Refusal :=
  complete (fun s => s.runUpExpiry) s

/-- IDLE_STOP_EXPIRY. -/
def execIdleStopExpiry (s : State) : Host.Outcome State Fault Refusal :=
  complete (fun s => s.idleStopExpiry) s

/-- HOST_WATCHDOG_EXPIRY. -/
def execHostWatchdogExpiry (s : State) : Host.Outcome State Fault Refusal :=
  complete (fun s => s.watchdogExpiry) s

end Sys2Proof.Machine
end

