-- ==== Sys2Proof/Machine/Orders.lean ====
section
/-! DEFINITION. ORDER frames, each by the rule of the block that owns it (R196), the channels' orders apart. -/

namespace Sys2Proof.Machine

/-! ## The station and the call -/

/-- ORDER MODE (R175). -/
def State.orderMode (mode : Byte) (s : State) : State × Reply :=
  match Mode.ofCode mode.toNat with
  | none => s.reject .range
  | some m =>
    if m ≠ .unattended ∧ (s.station.restartPending = true ∨ s.station.hostSilent = true) then s.reject .state
    else if m = .localMode ∧ s.call.state ≠ .free then s.reject .state
    else (s.changeMode m false, .grant)

/-- ORDER CALL (R53). -/
def State.orderCall (chars : List Byte) (s : State) : State × Reply :=
  if s.call.state ≠ .free ∨ s.pins.callIn = true ∨ s.station.mode = .localMode then s.reject .state
  else
    match allSome (chars.map s.resolvable) with
    | none => s.reject .range
    | some cs =>
      if cs.length = 0 ∨ 16 < cs.length then s.reject .range
      else ((s.createRecord .outgoing cs).enterCalling cs, .grant)

/-- ORDER ANSWERBACK (R106). -/
def State.orderAnswerback (s : State) : State × Reply :=
  (s.answerbackRequest
  , if s.call.state ≠ .connected then .reject .state
    else if s.answer.memory.isEmpty then .reject .range
    else .grant)

/-- The table has an entry of class IDENT in either half (R39). -/
def State.hasIdent (s : State) : Bool :=
  (s.findCode .letters fun e => e.cls == .ident).isSome || (s.findCode .figures fun e => e.cls == .ident).isSome

/-- ORDER IDENTIFY; a request while one is pending is absorbed (R39). -/
def State.orderIdentify (s : State) : State × Reply :=
  if s.call.state ≠ .connected then s.reject .state
  else if !s.hasIdent then s.reject .range
  else (s.modTx fun t => { t with identPending := t.identPending.orElse fun _ => some .byOrder }, .grant)

/-! ## The mechanism -/

/-- ORDER PUNCH LEADER (R171); that the range of n is tested before the state is the model's choice (log 41). -/
def State.orderPunchLeader (n : Byte) (s : State) : State × Reply :=
  if n = 0 then s.reject .range else s.grantOr (s.punchLeader n.toNat)

/-- ORDER TAPE LOADED (R168). -/
def State.orderTapeLoaded (n : BitVec 16) (s : State) : State × Reply :=
  if n = 0 then s.reject .range else (s.tapeLoaded n.toNat, .grant)

/-! ## Conditions, notices, calibrator, log -/

/-- ORDER CLEAR FAULTS (R207). -/
def State.orderClearFaults (named : CondSet) (s : State) : State × Reply :=
  if 2 ^ 18 ≤ named.toNat then s.reject .range
  else (s.modCond fun c => { c with faults := clearedFaults named s.live c.faults }, .grant)

/-- ORDER NOTICE MASK (R204). -/
def State.orderNoticeMask (mask : BitVec 16) (s : State) : State × Reply :=
  if 2 ^ 11 ≤ mask.toNat then s.reject .range
  else (s.modLink fun l => { l with mask := mask.setWidth 11 }, .grant)

/-- ORDER CALIBRATE (R30). -/
def State.orderCalibrate (s : State) : State × Reply :=
  if s.cfg .calibrationMode = 2 ∧ s.cal.measures = true then
    (s.modCal fun c => { c.fresh with state := .measuring }, .grant)
  else s.reject .state

/-- ORDER LOG DISCARD (R187). -/
def State.orderLogDiscard (n : Byte) (s : State) : State × Reply :=
  if n = 0 then s.reject .range else (s.modStation fun u => { u with log := u.log.drop n.toNat }, .grant)

/-! ## The commands -/

/-- ORDER_MODE. -/
def execOrderMode (mode : Byte) (s : State) : Host.Outcome State Fault Refusal :=
  complete (fun s => s.takeFrame fun s => s.orderMode mode) s

/-- ORDER_ACK_RESTART (R177). -/
def execOrderAckRestart (s : State) : Host.Outcome State Fault Refusal :=
  complete (fun s => s.takeFrame fun s => (s.modStation fun u => { u with restartPending := false }, .grant)) s

/-- ORDER_RESET: the reset is taken when its GRANT has been sent (R67, R196). -/
def execOrderReset (s : State) : Host.Outcome State Fault Refusal :=
  complete (fun s => s.takeFrame fun s => (s.modLink fun l => { l with resetPending := true }, .resetGrant)) s

/-- ORDER_CALL. -/
def execOrderCall (chars : List Byte) (s : State) : Host.Outcome State Fault Refusal :=
  complete (fun s => s.takeFrame fun s => s.orderCall chars) s

/-- ORDER_ANSWER (R49). -/
def execOrderAnswer (s : State) : Host.Outcome State Fault Refusal :=
  complete (fun s => s.takeFrame fun s => s.grantOr s.answerRequest) s

/-- ORDER_CLEAR (R63). -/
def execOrderClear (s : State) : Host.Outcome State Fault Refusal :=
  complete (fun s => s.takeFrame fun s => s.grantOr s.clearRequest) s

/-- ORDER_ANSWERBACK. -/
def execOrderAnswerback (s : State) : Host.Outcome State Fault Refusal :=
  complete (fun s => s.takeFrame fun s => s.orderAnswerback) s

/-- ORDER_IDENTIFY. -/
def execOrderIdentify (s : State) : Host.Outcome State Fault Refusal :=
  complete (fun s => s.takeFrame fun s => s.orderIdentify) s

/-- ORDER_BREAK (R40). -/
def execOrderBreak (s : State) : Host.Outcome State Fault Refusal :=
  complete (fun s => s.takeFrame fun s => s.grantOr s.breakRequest) s

/-- ORDER_PRINTER_OFF (R152). -/
def execOrderPrinterOff (s : State) : Host.Outcome State Fault Refusal :=
  complete (fun s => s.takeFrame fun s => (s.printerOff, .grant)) s

/-- ORDER_PRINTER_ON (R153). -/
def execOrderPrinterOn (s : State) : Host.Outcome State Fault Refusal :=
  complete (fun s => s.takeFrame fun s => s.grantOr s.printerOn) s

/-- ORDER_PUNCH_OFF (R172). -/
def execOrderPunchOff (s : State) : Host.Outcome State Fault Refusal :=
  complete (fun s => s.takeFrame fun s => (s.punchOff, .grant)) s

/-- ORDER_PUNCH_ON (R173). -/
def execOrderPunchOn (s : State) : Host.Outcome State Fault Refusal :=
  complete (fun s => s.takeFrame fun s => s.grantOr s.punchOn) s

/-- ORDER_PUNCH_LEADER. -/
def execOrderPunchLeader (n : Byte) (s : State) : Host.Outcome State Fault Refusal :=
  complete (fun s => s.takeFrame fun s => s.orderPunchLeader n) s

/-- ORDER_TAPE_LOADED. -/
def execOrderTapeLoaded (n : BitVec 16) (s : State) : Host.Outcome State Fault Refusal :=
  complete (fun s => s.takeFrame fun s => s.orderTapeLoaded n) s

/-- ORDER_MOTOR_START (R161). -/
def execOrderMotorStart (s : State) : Host.Outcome State Fault Refusal :=
  complete (fun s => s.takeFrame fun s => (s.startCause, .grant)) s

/-- ORDER_MOTOR_STOP (R161). -/
def execOrderMotorStop (s : State) : Host.Outcome State Fault Refusal :=
  complete (fun s => s.takeFrame fun s => s.grantOr s.motorStop) s

/-- ORDER_CLEAR_FAULTS. -/
def execOrderClearFaults (conditions : CondSet) (s : State) : Host.Outcome State Fault Refusal :=
  complete (fun s => s.takeFrame fun s => s.orderClearFaults conditions) s

/-- ORDER_NOTICE_MASK. -/
def execOrderNoticeMask (mask : BitVec 16) (s : State) : Host.Outcome State Fault Refusal :=
  complete (fun s => s.takeFrame fun s => s.orderNoticeMask mask) s

/-- ORDER_CALIBRATE. -/
def execOrderCalibrate (s : State) : Host.Outcome State Fault Refusal :=
  complete (fun s => s.takeFrame fun s => s.orderCalibrate) s

/-- ORDER_LOG_DISCARD. -/
def execOrderLogDiscard (n : Byte) (s : State) : Host.Outcome State Fault Refusal :=
  complete (fun s => s.takeFrame fun s => s.orderLogDiscard n) s

/-- ORDER_UNKNOWN_CODE: a code of no order, a wrong length, or an argument outside its codes (R196, section 10.9). -/
def execOrderUnknownCode (_body : List Byte) (s : State) : Host.Outcome State Fault Refusal :=
  complete (fun s => s.takeFrame fun s => s.reject .range) s

end Sys2Proof.Machine
end

