-- ==== Sys2Proof/Machine/Tables.lean ====
section
/-! DEFINITION. WRITE frames (sections 10.3 and 10.9, and each table's own rule). -/

namespace Sys2Proof.Machine

/-- The entries of a WRITE that stay inside a table of a size: at least one, whole, each with a meaning (R193). -/
def writeEntries {α : Type} (size bytes : Nat) (parse : List Byte → Option α) (first : Byte) (data : List Byte) :
    Option (List α) :=
  match parseEntries bytes parse data with
  | some es => if first.toNat + es.length ≤ size then some es else none
  | none => none

/-- An index is among those a WRITE addresses. -/
def addresses (first : Byte) (n i : Nat) : Bool := first.toNat ≤ i && i < first.toNat + n

/-- WRITE of TRANSLATE: the lock, then the range tests (R4, R14). -/
def State.writeTranslate (first : Byte) (data : List Byte) (s : State) : State × Reply :=
  if s.tableLock then s.reject .state
  else
    match writeEntries 64 2 TransEntry.ofBytes first data with
    | none => s.reject .range
    | some es => (s.modTranslate fun t => overwrite first.toNat es t, .grant)

/-- LINE stands at an index that names sinks only (R83). -/
def lineMisplaced (first : Byte) (es : List RouteEntry) : Bool :=
  ((List.range es.length).zip es).any fun x =>
    x.2.line && (first.toNat + x.1 < 3 || 9 ≤ first.toNat + x.1)

/-- WRITE of ROUTE; a write to index 2 in CONNECTED is an occasion for the recorder test, which finds the condition only
there (R83, R92). -/
def State.writeRoute (first : Byte) (data : List Byte) (s : State) : State × Reply :=
  match writeEntries 12 1 RouteEntry.ofBytes first data with
  | none => s.reject .range
  | some es =>
    if lineMisplaced first es then s.reject .range
    else
      let s := s.modRoute fun r => { r with table := overwrite first.toNat es r.table }
      (if addresses first es.length 2 then s.recorderTest else s, .grant)

/-- WRITE of SEQUENCE: the progress of each addressed entry is set to 0 (R97). -/
def State.writeSequence (first : Byte) (data : List Byte) (s : State) : State × Reply :=
  match writeEntries 16 11 SeqEntry.ofBytes first data with
  | none => s.reject .range
  | some es =>
    (s.modMatcher fun m =>
      { table := overwrite first.toNat es m.table
        progress := overwrite first.toNat (es.map fun _ => 0) m.progress }, .grant)

/-- WRITE of KEYMAP: the lock, then the range tests (R14, R120). -/
def State.writeKeymap (first : Byte) (data : List Byte) (s : State) : State × Reply :=
  if s.tableLock then s.reject .state
  else
    match writeEntries 64 2 KeyEntry.ofBytes first data with
    | none => s.reject .range
    | some es => (s.modKb fun k => { k with keymap := overwrite first.toNat es k.keymap }, .grant)

/-- WRITE of ANSWERBACK: the whole memory (R105). -/
def State.writeAnswerback (first : Byte) (data : List Byte) (s : State) : State × Reply :=
  if s.answer.run.isSome then s.reject .state
  else
    match allSome (data.map codeOfByte) with
    | none => s.reject .range
    | some codes =>
      if first.toNat ≠ 0 ∨ 20 < codes.length then s.reject .range
      else (s.modAnswer fun a => { a with memory := codes }, .grant)

/-! ## SETTINGS (R194) -/

/-- The values written are each in range, and the margin bell column within the width as the two will stand (R194). -/
def writtenOk (first : Byte) (vs new : List Nat) : Bool :=
  (((List.range vs.length).zip vs).all fun x =>
    match Setting.all[first.toNat + x.1]? with
    | some k => k.ok x.2
    | none => false)
    && new.getD Setting.marginBellColumn.index 0 ≤ new.getD Setting.width.index 0

/-- A window in progress abandoned by a change of mode, and a fresh one started; IDLE leaves only in a connected call (R23). -/
def Calibrator.restart (c : Calibrator) (connected : Bool) : Calibrator :=
  match c.state with
  | .measuring | .settled => { c.fresh with state := .measuring }
  | .holdoff => c
  | .idle => if connected then { c.fresh with state := .measuring } else c

/-- The calibrator at a write of the calibration mode, of the fixed sample point (`wrote`) or of both (R23); modes OFF 0,
FIXED 1, FULL 2. -/
def calibratorAfter (old new fixed : Nat) (wrote connected : Bool) (c : Calibrator) : Calibrator :=
  if new = old then if new = 1 ∧ wrote = true then { c with p := fixed } else c
  else
    match new with
    | 0 => { c.fresh with p := 8, state := .idle, holdoff := none }
    | 1 => { c.restart connected with p := fixed }
    | _ => c.restart connected

/-- A settings list that stands at once, with the effects that some settings have at the write (R23, R169). -/
def State.applySettings (first : Byte) (n : Nat) (new : List Nat) (s : State) : State :=
  let old := s.cfg .calibrationMode
  let connected := s.call.state == .connected
  let s := s.modSettings fun _ => new
  let s :=
    if addresses first n Setting.calibrationMode.index || addresses first n Setting.fixedSamplePoint.index then
      s.modCal (calibratorAfter old (s.cfg .calibrationMode) (s.cfg .fixedSamplePoint)
        (addresses first n Setting.fixedSamplePoint.index) connected)
    else s
  if addresses first n Setting.tapeLowReserve.index && s.pins.tapeLow then s.cutTape else s

/-- WRITE of SETTINGS: the range tests, then the state test of the line speed and stop length (R1, R194). -/
def State.writeSettings (first : Byte) (data : List Byte) (s : State) : State × Reply :=
  match writeEntries 46 2 settingOfBytes first data with
  | none => s.reject .range
  | some vs =>
    let new := overwrite first.toNat vs s.settings
    if !writtenOk first vs new then s.reject .range
    else if first.toNat < 2 ∧ s.call.state ≠ .free then s.reject .state
    else (s.applySettings first vs.length new, .grant)

/-- WRITE of SIGNALS (R210). -/
def State.writeSignals (first : Byte) (data : List Byte) (s : State) : State × Reply :=
  match writeEntries 4 4 SignalEntry.ofBytes first data with
  | none => s.reject .range
  | some es => (s.modCond fun c => { c with signals := overwrite first.toNat es c.signals }, .grant)

/-! ## The commands -/

/-- WRITE_TRANSLATE. -/
def execWriteTranslate (first : Byte) (entries : List Byte) (s : State) : Host.Outcome State Fault Refusal :=
  complete (fun s => s.takeFrame fun s => s.writeTranslate first entries) s

/-- WRITE_ROUTE. -/
def execWriteRoute (first : Byte) (entries : List Byte) (s : State) : Host.Outcome State Fault Refusal :=
  complete (fun s => s.takeFrame fun s => s.writeRoute first entries) s

/-- WRITE_SEQUENCE. -/
def execWriteSequence (first : Byte) (entries : List Byte) (s : State) : Host.Outcome State Fault Refusal :=
  complete (fun s => s.takeFrame fun s => s.writeSequence first entries) s

/-- WRITE_KEYMAP. -/
def execWriteKeymap (first : Byte) (entries : List Byte) (s : State) : Host.Outcome State Fault Refusal :=
  complete (fun s => s.takeFrame fun s => s.writeKeymap first entries) s

/-- WRITE_ANSWERBACK. -/
def execWriteAnswerback (first : Byte) (codes : List Byte) (s : State) : Host.Outcome State Fault Refusal :=
  complete (fun s => s.takeFrame fun s => s.writeAnswerback first codes) s

/-- WRITE_SETTINGS. -/
def execWriteSettings (first : Byte) (entries : List Byte) (s : State) : Host.Outcome State Fault Refusal :=
  complete (fun s => s.takeFrame fun s => s.writeSettings first entries) s

/-- WRITE_SIGNALS. -/
def execWriteSignals (first : Byte) (entries : List Byte) (s : State) : Host.Outcome State Fault Refusal :=
  complete (fun s => s.takeFrame fun s => s.writeSignals first entries) s

/-- WRITE_LOG: the LOG table is read only, whatever the frame carries (R186). -/
def execWriteLog (_first : Byte) (_entries : List Byte) (s : State) : Host.Outcome State Fault Refusal :=
  complete (fun s => s.takeFrame fun s => s.reject .range) s

/-- WRITE_UNKNOWN_TABLE: fewer than two bytes, or an identifier of no table (R193). -/
def execWriteUnknownTable (_body : List Byte) (s : State) : Host.Outcome State Fault Refusal :=
  complete (fun s => s.takeFrame fun s => s.reject .range) s

end Sys2Proof.Machine
end

