-- ==== Sys2Proof/Machine/Dispatch.lean ====
section
/-! DEFINITION. One arm for each command: the meaning it calls. -/

namespace Sys2Proof.Machine

/-- The effect of a command on everything but the queue. -/
def exec (i : Instr) (s : State) : Host.Outcome State Fault Refusal :=
  match i with
  | .coldReset inputs => Sys2Proof.Machine.execColdReset inputs s
  | .characterDelivered line => Sys2Proof.Machine.execCharacterDelivered line s
  | .receivedBreak => Sys2Proof.Machine.execReceivedBreak s
  | .holdoffExpiry => Sys2Proof.Machine.execHoldoffExpiry s
  | .identityCaptureGapExpiry => Sys2Proof.Machine.execIdentityCaptureGapExpiry s
  | .transmitterTake => Sys2Proof.Machine.execTransmitterTake s
  | .codeCompletion => Sys2Proof.Machine.execCodeCompletion s
  | .breakSendEnd => Sys2Proof.Machine.execBreakSendEnd s
  | .breakGuardEnd => Sys2Proof.Machine.execBreakGuardEnd s
  | .localPathTake queue => Sys2Proof.Machine.execLocalPathTake queue s
  | .callInAsserted => Sys2Proof.Machine.execCallInAsserted s
  | .callInDeasserted => Sys2Proof.Machine.execCallInDeasserted s
  | .answerDelayExpiry => Sys2Proof.Machine.execAnswerDelayExpiry s
  | .loopOkAsserted => Sys2Proof.Machine.execLoopOkAsserted s
  | .loopOkDeasserted => Sys2Proof.Machine.execLoopOkDeasserted s
  | .lossTimerExpiry => Sys2Proof.Machine.execLossTimerExpiry s
  | .connectTimerExpiry => Sys2Proof.Machine.execConnectTimerExpiry s
  | .proceedTimerExpiry => Sys2Proof.Machine.execProceedTimerExpiry s
  | .identityTimerExpiry => Sys2Proof.Machine.execIdentityTimerExpiry s
  | .idleClearExpiry => Sys2Proof.Machine.execIdleClearExpiry s
  | .clearingGuardExpiry => Sys2Proof.Machine.execClearingGuardExpiry s
  | .keyboardScan closed => Sys2Proof.Machine.execKeyboardScan closed s
  | .bellPulseEnd => Sys2Proof.Machine.execBellPulseEnd s
  | .printerTakeEntry home => Sys2Proof.Machine.execPrinterTakeEntry home s
  | .strikeDone => Sys2Proof.Machine.execStrikeDone s
  | .coolingPauseEnd => Sys2Proof.Machine.execCoolingPauseEnd s
  | .feedDone => Sys2Proof.Machine.execFeedDone s
  | .printerResponseLimitExpiry => Sys2Proof.Machine.execPrinterResponseLimitExpiry s
  | .carriageStepEnd home => Sys2Proof.Machine.execCarriageStepEnd home s
  | .haltCauseChange paperOut headHot => Sys2Proof.Machine.execHaltCauseChange paperOut headHot s
  | .printerHaltGraceExpiry => Sys2Proof.Machine.execPrinterHaltGraceExpiry s
  | .headWarmChange headWarm => Sys2Proof.Machine.execHeadWarmChange headWarm s
  | .punchTakeWork => Sys2Proof.Machine.execPunchTakeWork s
  | .punchDone => Sys2Proof.Machine.execPunchDone s
  | .punchResponseLimitExpiry => Sys2Proof.Machine.execPunchResponseLimitExpiry s
  | .tapeLowChange tapeLow => Sys2Proof.Machine.execTapeLowChange tapeLow s
  | .runUpExpiry => Sys2Proof.Machine.execRunUpExpiry s
  | .idleStopExpiry => Sys2Proof.Machine.execIdleStopExpiry s
  | .hostWatchdogExpiry => Sys2Proof.Machine.execHostWatchdogExpiry s
  | .frameBadCheck => Sys2Proof.Machine.execFrameBadCheck s
  | .frameBadLength => Sys2Proof.Machine.execFrameBadLength s
  | .frameGapTimeout => Sys2Proof.Machine.execFrameGapTimeout s
  | .frameByteError => Sys2Proof.Machine.execFrameByteError s
  | .frameUnknownKind => Sys2Proof.Machine.execFrameUnknownKind s
  | .writeTranslate first entries => Sys2Proof.Machine.execWriteTranslate first entries s
  | .writeRoute first entries => Sys2Proof.Machine.execWriteRoute first entries s
  | .writeSequence first entries => Sys2Proof.Machine.execWriteSequence first entries s
  | .writeKeymap first entries => Sys2Proof.Machine.execWriteKeymap first entries s
  | .writeAnswerback first codes => Sys2Proof.Machine.execWriteAnswerback first codes s
  | .writeSettings first entries => Sys2Proof.Machine.execWriteSettings first entries s
  | .writeSignals first entries => Sys2Proof.Machine.execWriteSignals first entries s
  | .writeLog first entries => Sys2Proof.Machine.execWriteLog first entries s
  | .read body => Sys2Proof.Machine.execRead body s
  | .status body => Sys2Proof.Machine.execStatus body s
  | .text chars => Sys2Proof.Machine.execText chars s
  | .orderMode mode => Sys2Proof.Machine.execOrderMode mode s
  | .orderAckRestart => Sys2Proof.Machine.execOrderAckRestart s
  | .orderReset => Sys2Proof.Machine.execOrderReset s
  | .orderCall chars => Sys2Proof.Machine.execOrderCall chars s
  | .orderAnswer => Sys2Proof.Machine.execOrderAnswer s
  | .orderClear => Sys2Proof.Machine.execOrderClear s
  | .orderAnswerback => Sys2Proof.Machine.execOrderAnswerback s
  | .orderIdentify => Sys2Proof.Machine.execOrderIdentify s
  | .orderBreak => Sys2Proof.Machine.execOrderBreak s
  | .orderArmSend n => Sys2Proof.Machine.execOrderArmSend n s
  | .orderArmCapture n size => Sys2Proof.Machine.execOrderArmCapture n size s
  | .orderDisarmSend => Sys2Proof.Machine.execOrderDisarmSend s
  | .orderDisarmCapture => Sys2Proof.Machine.execOrderDisarmCapture s
  | .orderHoldSend on => Sys2Proof.Machine.execOrderHoldSend on s
  | .orderHoldCapture on => Sys2Proof.Machine.execOrderHoldCapture on s
  | .orderPrinterOff => Sys2Proof.Machine.execOrderPrinterOff s
  | .orderPrinterOn => Sys2Proof.Machine.execOrderPrinterOn s
  | .orderPunchOff => Sys2Proof.Machine.execOrderPunchOff s
  | .orderPunchOn => Sys2Proof.Machine.execOrderPunchOn s
  | .orderPunchLeader n => Sys2Proof.Machine.execOrderPunchLeader n s
  | .orderTapeLoaded n => Sys2Proof.Machine.execOrderTapeLoaded n s
  | .orderMotorStart => Sys2Proof.Machine.execOrderMotorStart s
  | .orderMotorStop => Sys2Proof.Machine.execOrderMotorStop s
  | .orderClearFaults conditions => Sys2Proof.Machine.execOrderClearFaults conditions s
  | .orderNoticeMask mask => Sys2Proof.Machine.execOrderNoticeMask mask s
  | .orderCalibrate => Sys2Proof.Machine.execOrderCalibrate s
  | .orderLogDiscard n => Sys2Proof.Machine.execOrderLogDiscard n s
  | .captureFlushExpiry => Sys2Proof.Machine.execCaptureFlushExpiry s
  | .linkTransmitterTake => Sys2Proof.Machine.execLinkTransmitterTake s
  | .linkFrameSent rate => Sys2Proof.Machine.execLinkFrameSent rate s
  | .startEdge => Sys2Proof.Machine.execStartEdge s
  | .falseStart => Sys2Proof.Machine.execFalseStart s
  | .stopSampleAtSpace line => Sys2Proof.Machine.execStopSampleAtSpace line s
  | .lineReturnToMark => Sys2Proof.Machine.execLineReturnToMark s
  | .orderUnknownCode body => Sys2Proof.Machine.execOrderUnknownCode body s
  | .writeUnknownTable body => Sys2Proof.Machine.execWriteUnknownTable body s

end Sys2Proof.Machine
end

