-- ==== Sys2Proof/Machine/Step.lean ====
section
/-! DEFINITION. One step: the command at the front of the queue, or the block's own clock on an empty queue (log 1). -/

namespace Sys2Proof.Machine

/-- The command at the front of the queue runs on the queue's rest; with none, the internal event that is due, else one unit
of time. -/
def step (s : State) : Host.Outcome State Fault Refusal :=
  match s.pending with
  | c :: rest => exec c { s with pending := rest }
  | [] =>
    match s.nextDue with
    | some c => exec c s
    | none => .next s.tick

/-- The command that a table word spells, put at the front of the queue; the state as it is where the word spells none (log 6). -/
def State.withFetchWord (s : State) (nbits w : Nat) : State :=
  match decodeTableWord nbits w with
  | some c => { s with pending := c :: s.pending }
  | none => s

end Sys2Proof.Machine
end

