-- ==== Sys2Proof/Machine/Outputs.lean ====
section
/-! DEFINITION. The output pins as functions of the state (section 11.4, log 25). While RESET is asserted every one of them stands
at its cold-reset level, whatever the state holds (R211, log 29). -/

namespace Sys2Proof.Machine

/-- An output that is dropped while RESET is asserted (R211). -/
def State.unlessReset (s : State) (active : Bool) : Bool := !s.pins.reset && active

/-- SEIZE (R44). A warm reset drops it, and the offer at its end can assert it again, in one command: the view shows no drop, the
model's choice (R67; log 46). -/
def State.seize (s : State) : Bool :=
  s.unlessReset <|
    match s.call.state with
    | .answering | .calling | .selecting | .connected => true
    | .free | .offered | .refused | .clearing => false

/-! ## The line (section 2.4) -/

/-- The level of a code in flight when `past` of its time has gone: start element, five units, stop element (R1, R31). -/
def codeLevel (code : Code) (element past : Nat) : Level :=
  match past / element with
  | 0 => .space
  | k + 1 => if k < 5 ∧ code.getLsbD k = false then .space else .mark

/-- LINE_TX (R31, R41); at mark while RESET is asserted (R211). -/
def State.lineTx (s : State) : Level :=
  if s.pins.reset then .mark
  else
    match s.tx.phase with
    | .code c _ _ el st => codeLevel c el (6 * el + st - s.tx.timer.getD 0)
    | .brk => .space
    | .free | .unitWait .. | .breakGuard => .mark

/-! ## The keyboard matrix (section 6.1): bit d of KB_DRIVE is set while drive line d is driven -/

/-- The drive lines while a scan reads against line d: each line in turn, alone (R114). -/
def scanDrive (d : Nat) : BitVec 8 := BitVec.ofNat 8 (2 ^ d)

/-- The eight sense lines as a scan reads them against drive line d: bit s is the contact of position 8d + s (R114). -/
def scanSense (keys : BitVec 64) (d : Nat) : BitVec 8 := keys.extractLsb' (8 * d) 8

/-- KB_DRIVE before and after every step, and while RESET is asserted: no line is driven. The eight drives of a scan come and go
within its one event (R114, R211). -/
def State.kbDrive (_s : State) : BitVec 8 := 0

/-! ## The printer and the punch (Chapters 7 and 8) -/

/-- STRIKE (R137). Between a gap strike and the entry's own strike, with no cooling pause, it is dropped and asserted again at one
STRIKE_DONE (R136), for no stated time: the view shows it asserted throughout, the model's choice (log 25). -/
def State.strike (s : State) : Bool :=
  s.unlessReset <|
    match s.printerAction with
    | some (.strike _) => true
    | _ => false

/-- FEED (R142). -/
def State.feed (s : State) : Bool :=
  s.unlessReset <|
    match s.printerAction with
    | some (.feed _) => true
    | _ => false

/-- CAR_STEP: a step of a SPACE or a slew, the last step of an aborted slew included (R141, R146, R148). It stands asserted from
one step of a slew to the next, which begins at once (log 25). -/
def State.carStep (s : State) : Bool :=
  s.unlessReset <|
    (s.printer.aborted.isSome ||
      match s.printerAction with
      | some .space | some (.slew _ _) => true
      | _ => false)

/-- CAR_REV: a step toward column 1 (R146). -/
def State.carRev (s : State) : Bool :=
  s.unlessReset <|
    (s.printer.aborted.isSome ||
      match s.printerAction with
      | some (.slew _ _) => true
      | _ => false)

/-- PR_SEL while a movement that uses it is in progress: the character of a strike, the length of a step (R137, R141, R146);
none where the manual gives it no value. The model's choices (log 25): PR_SEL3 to PR_SEL6 stand at 0 during a step, for which
the manual gives PR_SEL0 to PR_SEL2 alone, and the last step of an aborted slew that searched for HOME has length 1. -/
def State.prSel (s : State) : Option (BitVec 7) :=
  if s.pins.reset then none
  else
    match s.printer.aborted, s.printerAction with
    | some len, _ => some (BitVec.ofNat 7 (max len 1))
    | none, some (.strike c) => some c
    | none, some .space => some 1
    | none, some (.slew w _) => some (BitVec.ofNat 7 w.len)
    | none, _ => none

/-- BELL (R122, R140). -/
def State.bellOn (s : State) : Bool := s.unlessReset s.bell.isSome

/-- PUNCH (R165). Between two codes of one operation it is dropped and asserted again at one PUNCH_DONE, for no stated time: the
view shows it asserted throughout, the model's choice (log 25). -/
def State.punchDrive (s : State) : Bool := s.unlessReset s.punch.op.isSome

/-- PU_CODE while a code is being punched (R165, R166, R171). -/
def State.puCode (s : State) : Option Code :=
  if s.pins.reset then none
  else
    match s.punch.op with
    | some (.entry 0 _ c) => some c
    | some (.entry _ m _) => some m
    | some .leader => some 0
    | none => none

/-- MOTOR_ON (R157). It shows no drop in a warm reset whose offer is accepted (R162; log 46). -/
def State.motorOn (s : State) : Bool := s.unlessReset (s.motor.state != .stopped)

/-! ## The signal outputs and HOST_TX -/

/-- The level of SIGn, high when set (R209); low while RESET is asserted (R210, R211). -/
def State.sigLevel (s : State) (n : Nat) : Bool :=
  s.unlessReset <|
    match s.cond.signals[n]? with
    | some e => s.signalActive e != e.activeLow
    | none => false

/-- The frame on HOST_TX, byte for byte; none while it is held at mark (R192). -/
def State.hostTx (s : State) : Option (List Byte) :=
  if s.pins.reset then none else s.link.sending.map OutFrame.bytes

/-- The level of a run of bytes sent back to back at a rate, when `past` of its time has gone: the bits of each byte, start bit
first (R189, R192). -/
def linkLevel (bytes : List Byte) (rate : BitVec 2) (past : Nat) : Level :=
  let bit := 10 * past / byteUnits rate
  match bytes[bit / 10]? with
  | some b => if (linkBits b).getLsbD (bit % 10) then .mark else .space
  | none => .mark

/-- The level of HOST_TX: at mark between frames and while RESET is asserted (R189, R192, R211). -/
def State.hostTxLevel (s : State) : Level :=
  match s.hostTx with
  | some bytes =>
    linkLevel bytes s.link.rateStrap (bytes.length * byteUnits s.link.rateStrap - s.link.timer.getD 0)
  | none => .mark

end Sys2Proof.Machine
end

