-- ==== Sys2Proof/Safety.lean ====
section
/-! DEFINITION. What the claims speak of: the laws that every command keeps, and names for the premises and the outcomes of
commands. -/

namespace Sys2Proof.Machine

/-! ## Laws that every step keeps -/

/-- LOCAL and ATTENDED stand only while restart is not pending and HOST_SILENT is not live (R175). -/
def State.modeLaw (s : State) : Prop :=
  s.station.mode = .unattended ∨ (s.station.restartPending = false ∧ s.station.hostSilent = false)

/-- The reserved places of the traffic store, 0 or 1 (R36). -/
def State.reserved (s : State) : Nat := s.tx.reservation.toNat

/-- The stored entries and the copy reservation never exceed 256 (R36). -/
def State.storeBound (s : State) : Prop := s.store.entries.length + s.reserved ≤ 256

/-- When the store is not empty its oldest entry is owed to a sink (R75). -/
def State.headOwed (s : State) : Prop := ∀ e, s.store.entries.head? = some e → e.pending.isEmpty = false

/-- Every cursor stands at a boundary of the store; every sink in a pending set is attached, its cursor at or before the entry
(R71, R72). -/
def State.sinkLaw (s : State) : Prop :=
  ∀ k : Sink, s.store.cursors.get k ≤ s.store.entries.length ∧
    ∀ (i : Nat) (e : Entry), s.store.entries[i]? = some e → e.holds k = true →
      s.attached k = true ∧ s.store.cursors.get k ≤ i

/-- In the open record *received* is what was stored, unrouted and lost of the line, until it has come to 65535 (R80, R182). -/
def State.countLaw (s : State) : Prop :=
  ∀ r, s.station.record = some r → r.received < 65535 → r.received = r.storedLine + r.unroutedLine + r.lost

/-- A record is open exactly while the call state is not FREE (R181, R184). -/
def State.recordLaw (s : State) : Prop := s.station.record.isSome = true ↔ s.call.state ≠ .free

/-- A local clear is in progress in SELECTING and CONNECTED alone (R61). -/
def State.clearLaw (s : State) : Prop :=
  s.call.localClear = true → s.call.state = .selecting ∨ s.call.state = .connected

/-- The call log holds at most 16 records (R185). -/
def State.logBound (s : State) : Prop := s.station.log.length ≤ 16

/-- A punch in OUT without the jam hold has no tape left, the jam hold stands in OUT alone, and an operation is in flight in
BUSY alone (R163). -/
def State.punchLaw (s : State) : Prop :=
  (s.punch.state = .out → s.punch.jamHold = false → s.punch.tape = 0) ∧
    (s.punch.jamHold = true → s.punch.state = .out) ∧ (s.punch.op.isSome = true → s.punch.state = .busy)

/-! ## The premises of a frame command -/

/-- A good frame is taken and gets its own reply (R191, R196). -/
def State.ready (s : State) : Prop :=
  s.link.resetPending = false ∧ s.link.busy = 0 ∧ s.link.replies.length < 8

/-- A good frame's outcome: the state its rule gives, its reply queued, the silence over, the watchdog restarted with the
setting that then stands, the frame receiver in HUNT (R178, R180, R189, R191). -/
def State.answered (t : State) (r : Reply) : State :=
  { t with
    link := { t.link with rx := .hunt, gap := none, replies := t.link.replies ++ [r] }
    station :=
      { t.station with
        hostSilent := false
        watchdog :=
          if t.cfg .hostWatchdog = 0 then none else some (288000 * t.cfg .hostWatchdog) } }

/-- A command that is a good frame of the host (R191). -/
def goodFrame : Instr → Bool
  | .frameUnknownKind | .writeTranslate .. | .writeRoute .. | .writeSequence .. | .writeKeymap ..
  | .writeAnswerback .. | .writeSettings .. | .writeSignals .. | .writeLog .. | .read _ | .status _ | .text _
  | .orderMode _ | .orderAckRestart | .orderReset | .orderCall _ | .orderAnswer | .orderClear
  | .orderAnswerback | .orderIdentify | .orderBreak | .orderArmSend _ | .orderArmCapture ..
  | .orderDisarmSend | .orderDisarmCapture | .orderHoldSend _ | .orderHoldCapture _ | .orderPrinterOff
  | .orderPrinterOn | .orderPunchOff | .orderPunchOn | .orderPunchLeader _ | .orderTapeLoaded _
  | .orderMotorStart | .orderMotorStop | .orderClearFaults _ | .orderNoticeMask _ | .orderCalibrate
  | .orderLogDiscard _ | .orderUnknownCode _ | .writeUnknownTable _ => true
  | _ => false

/-! ## The idle-stop timer -/

/-- A command's outcome: its own effect, then what R160 does to the idle-stop timer. -/
def State.idleWatched (s t : State) : State :=
  { t with
    motor :=
      { t.motor with
        idleStop :=
          if t.motor.state = .running then
            if t.idleConditions = true then
              if s.idleConditions = true ∧ s.motor.state = .running then t.motor.idleStop
              else if t.cfg .idleStop = 0 then none else some (288000 * t.cfg .idleStop)
            else none
          else t.motor.idleStop } }

/-! ## Received characters -/

/-- The code that a CHARACTER_DELIVERED gives and whether it is good: at the stop sample, or as the line returns to mark
from STOP_SPACE (R17 to R20). -/
def State.delivers (s : State) (line : List Level) : Option (Code × Bool) :=
  match s.rx.framing with
  | .assemble =>
    if levelAt line 8 = .space ∧ levelAt line s.stopSample = .mark then
      some (codeOf (sampleLevels s.rx.samplePoint line), true)
    else none
  | .stopSpace => some (codeOf s.rx.levels, false)
  | _ => none

/-- The translation of a code in the standing receive shift (R5). -/
def State.translated (s : State) (code : Code) : TransEntry := s.entryAt s.rx.shift code

/-- The GAP_BEFORE-marked entry of a LINE character that the store takes (R70, R77, R79). -/
def State.lineEntry (s : State) (code : Code) (good : Bool) : Entry :=
  { code := code, shift := s.rx.shift, char := (s.translated code).char, cls := (s.translated code).cls
    source := .line, mutilated := !good, gapBefore := s.store.gap != 0, pending := s.sinkSet .line }

/-! ## Call records -/

/-- A record as it is created (R181). -/
def State.newRecord (s : State) (dir : Direction) (selection : List IChar) : CallRecord :=
  { number := s.station.nextNumber, direction := dir, modeAtStart := s.station.mode, outcome := none
    selection := selection, remoteIdentity := none, connectedSeconds := 0, received := 0, sent := 0
    storedLine := 0, storedStation := 0, unroutedLine := 0, unroutedStation := 0, lost := 0
    messages := 0, linesPrinted := 0, punched := 0
    flags := { printerLost := false, punchLost := false, calError := false, breakReceived := false } }

/-- The next number after a creation (R181). -/
def State.followingNumber (s : State) : Nat := if s.station.nextNumber = 65535 then 1 else s.station.nextNumber + 1

/-- The call log with one more record, the oldest of sixteen removed first (R184). -/
def logAfter (log : List CallRecord) (r : CallRecord) : List CallRecord :=
  (if log.length < 16 then log else log.drop (log.length - 15)) ++ [r]

/-- A counter increased by 1 that saturates at 65535 (R182). -/
def counted (n : Nat) : Nat := if n < 65535 then n + 1 else 65535

/-- A timer of n s, not started when its setting is 0 (section 3.8). -/
def secondsOrOff (n : Nat) : Timer := if n = 0 then none else some (288000 * n)

/-! ## The transmitter -/

/-- The transmitter's take of the first code of a unit: nothing while its copy is owed to a sink and the store is full
(R34, R36); else the code in flight, with the copy's place reserved (R31, R36). `t` is the state with the unit taken from its
source; `copy` is the sink set of the copy, empty where none is made. -/
def State.codeTaken (s t : State) (copy : SinkSet) (c : Code) (u : TxUnit) (f : Follow) : State :=
  if copy.isEmpty = false ∧ s.freeEntries = 0 then s
  else
    { t with
      tx :=
        { t.tx with
          phase := .code c u f s.elementUnits s.stopUnits, timer := some (6 * s.elementUnits + s.stopUnits)
          reservation := s.tx.reservation || !copy.isEmpty } }

/-- The empty sink set: that of a code which is not copied (R36). -/
def SinkSet.nowhere : SinkSet := { print := false, punch := false, capture := false }

/-- What follows the first code of a unit whose codes after it are these (R35). -/
def followed : List Code → Follow
  | [] => .last
  | c :: _ => .code c

/-- The send shift after a code (R12). -/
def State.sendShiftAfter (s : State) (c : Code) : Shift :=
  match (s.entryAt s.tx.shift c).cls with
  | .ltrs => .letters
  | .figs => .figures
  | _ => s.tx.shift

/-- The entry of a station character with its class and internal character (R13, R37, R70, R79). -/
def State.stationEntry (s : State) (src : Source) (c : Code) (e : TransEntry) : Entry :=
  { code := c, shift := s.tx.shift, char := e.char, cls := e.cls, source := src, mutilated := false
    gapBefore := s.store.gap != 0, pending := s.sinkSet src }

/-- The copy that the completion of a code appends to the store: none without a sink or without a place (R37). -/
def State.copyOf (s : State) (c : Code) (u : TxUnit) : List Entry :=
  match u.source with
  | none => []
  | some src =>
    if (s.sinkSet src).isEmpty = false ∧ (s.tx.reservation = true ∨ s.freeEntries ≠ 0) then
      [s.stationEntry src c (s.entryAt s.tx.shift c)]
    else []

/-- *sent* and the station's stored and unrouted counts after the completion of a code (R37, R38, R80). -/
def State.sentCounts (s : State) (c : Code) (u : TxUnit) (r : CallRecord) : Nat × Nat × Nat :=
  (if u = .selection then r.sent else counted r.sent
  , if s.copyOf c u = [] then r.storedStation else counted r.storedStation
  , if u.source ≠ none ∧ s.copyOf c u = [] then counted r.unroutedStation else r.unroutedStation)

/-- The copy of a unit's code has a sink (R36). -/
def State.copied (s : State) (u : TxUnit) : Bool :=
  match u.source with
  | none => false
  | some src => !(s.sinkSet src).isEmpty

/-! ## The matcher -/

/-- The switches after the action of a completed entry (R102). -/
def Route.acted (r : Route) : SeqAction → Route
  | .printOn => { r with printSwitch := true }
  | .printOff => { r with printSwitch := false }
  | .punchOn => { r with punchSwitch := true }
  | .punchOff => { r with punchSwitch := false }
  | .endOfMessage | .clear | .notice => r

/-! ## The course of a call -/

/-- An outcome set in the open record, unless one is set (R182). -/
def State.ending (o : CallOutcome) (s : State) : State :=
  { s with
    station :=
      { s.station with
        record := s.station.record.map fun r => if r.outcome = none then { r with outcome := some o } else r } }

/-- The keyboard and SEND queues emptied, an ARMED SEND channel ended for a reason (R22, R61, R64, R200). -/
def State.queuesEmptied (why : EndReason) (s : State) : State :=
  { s with
    kb := { s.kb with queue := [] }
    tx := if s.link.send.armed then { s.tx with phase := s.tx.phase.uncounted } else s.tx
    link :=
      if s.link.send.armed then
        { s.link with
          send := { s.link.send with armed := false, held := false, queue := [] }
          notices := putNotice (.channel false why s.link.send.remaining) s.link.notices }
      else { s.link with send := { s.link.send with queue := [] } } }

/-- The entry to CLEARING: guard, receiver OFF, transmitter without work; from CONNECTED also the calibrator, the answerback
unit and the connected seconds (R16, R24, R42, R64, R65, R109, R112; the sums of the abandoned window, log 36). -/
def State.cleared (s : State) : State :=
  let connected := s.call.state = .connected
  { s with
    rx := { s.rx with framing := .off, levels := [], displacements := [] }
    tx :=
      { s.tx with
        phase := s.tx.phase.afterLine, reservation := s.tx.reservation && !s.tx.phase.waits
        breakPending := false, identPending := none, selection := [] }
    call := { s.call.quiet .clearing with guard := some (288 * s.cfg .clearingGuard) }
    cal :=
      if connected ∧ (s.cal.state = .measuring ∨ s.cal.state = .settled) then
        { s.cal with sumT := 0, sumS := 0, maxM := 0, count := 0, state := .idle }
      else s.cal
    answer := if connected then { s.answer with run := none, window := none, gapTimer := none } else s.answer
    station :=
      { s.station with
        record := s.station.record.map fun r =>
          if connected then { r with connectedSeconds := min (s.call.connectedTime / 288000) 16777215 } else r } }

/-- A local clear taken in CONNECTED: its first cause alone counts (R61, R62). -/
def State.localClearTaken (o : CallOutcome) (s : State) : State :=
  if s.call.localClear = true then s
  else
    let t := (s.ending o).queuesEmptied .cleared
    let t := { t with call := { t.call with localClear := true, idleClear := none, identity := none } }
    if s.inFlight = true then t else t.cleared

/-- The return to FREE, before the offer of a CALL_IN that stands asserted: the record closed into the log with its notice,
the gap count and the progress counts 0, no timer running (R65, R93, R101, R184). -/
def State.freed (r : CallRecord) (o : CallOutcome) (s : State) : State :=
  { s with
    station := { s.station with record := none, log := logAfter s.station.log { r with outcome := some o } }
    link := { s.link with notices := putNotice (.closed r.number o) s.link.notices }
    store := { s.store with gap := 0 }
    matcher := { s.matcher with progress := s.matcher.progress.map fun _ => 0 }
    call := s.call.quiet .free }

/-- The recorder condition: UNATTENDED, CONNECTED, and no sink that the route entry of (LINE, UNATTENDED) names is attached
(R92). -/
abbrev State.recorderGone (s : State) : Prop :=
  s.station.mode = .unattended ∧ s.call.state = .connected ∧
    s.namedSinkAttached (s.routeEntry .line .unattended) = false

/-- The recorder test: where the condition holds, RECORDER_LOST is latched and a local clear begins with that outcome, unless one
is in progress (R61, R92). -/
def State.recorderTested (s : State) : State :=
  if s.recorderGone ∧ s.call.localClear = false then
    (s.latch Cond.recorderLost).localClearTaken .recorderLost
  else s

/-- The entry to CONNECTED from ANSWERING or SELECTING, before its recorder test: receiver, shifts, calibrator, switches, matcher,
timers, CALL notice and identity exchange (R16, R24, R57, R58, R86, R101, R106). -/
def State.connectionBegun (s : State) : State :=
  let answers : Prop := s.direction = .incoming ∧ s.cfg .identityOnAnswer ≠ 0
  let atOnce : Prop := answers ∧ s.cfg .answerIdentityDelay = 0
  let t : State :=
    { s with
      rx :=
        { s.rx with
          framing := if s.call.state = .selecting then s.rx.framing else .awaitMark
          shift := .letters }
      tx :=
        { s.tx with
          shift := .letters
          identPending :=
            if s.direction = .outgoing ∧ s.cfg .identityRequestAfterSelection ≠ 0 then some .afterSelection
            else s.tx.identPending }
      cal :=
        if s.cal.state = .holdoff ∨ s.cfg .calibrationMode = 0 then s.cal
        else { s.cal with state := .measuring, sumT := 0, sumS := 0, maxM := 0, count := 0 }
      route :=
        { s.route with
          printSwitch := s.cfg .printSwitchAtConnect == 1, punchSwitch := s.cfg .punchSwitchAtConnect == 1 }
      matcher := { s.matcher with progress := s.matcher.progress.map fun _ => 0 }
      call :=
        { s.call with
          state := .connected, connect := none, connectedTime := 0, idleClear := secondsOrOff (s.cfg .idleClear)
          identity :=
            if answers ∧ s.cfg .answerIdentityDelay ≠ 0 then some (288 * s.cfg .answerIdentityDelay)
            else s.call.identity }
      answer :=
        if atOnce ∧ s.answer.memory ≠ [] ∧ s.answer.run = none then { s.answer with run := some 0 } else s.answer
      link := { s.link with notices := putNotice (.call true s.direction s.recordNumber) s.link.notices } }
  if atOnce ∧ s.answer.memory = [] then t.latch Cond.answerbackEmpty else t

/-- The entry to ANSWERING, and on to CONNECTED at once while LOOP_OK stands asserted (R52, R158). -/
def State.answerBegun (s : State) : State :=
  let t : State :=
    { s.startCause with
      call :=
        { s.call with
          state := .answering, answerDelay := none, connect := some (288000 * s.cfg .connectTimeout) } }
  if s.pins.loopOk = true then t.connectionBegun.recorderTested else t

/-- A call in REFUSED (R46, R48, R50). -/
def State.refused (s : State) : State := { s with call := { s.call with state := .refused, answerDelay := none } }

/-- The acceptance test in UNATTENDED mode (R48). -/
def State.acceptanceTested (s : State) : State :=
  if s.answer.memory = [] then (s.latch Cond.answerbackEmpty).refused
  else if s.namedSinkAttached (s.routeEntry .line .unattended) = true then s.answerBegun
  else s.refused

/-- A call leaving FREE with a new record (R181). -/
def State.recorded (dir : Direction) (selection : List IChar) (s : State) : State :=
  { s with
    station :=
      { s.station with record := some (s.newRecord dir selection), nextNumber := s.followingNumber }
    call := { s.call with connectedTime := 0 } }

/-- An offer: the record, then by the station mode (R45 to R48, R181). -/
def State.offered (s : State) : State :=
  let t := s.recorded .incoming []
  match s.station.mode with
  | .localMode => t.refused
  | .attended =>
    { t with
      call := { t.call with state := .offered, answerDelay := secondsOrOff (s.cfg .attendedAnswerDelay) }
      link := { t.link with notices := putNotice (.call false .incoming s.station.nextNumber) s.link.notices } }
  | .unattended => t.acceptanceTested

/-- A change of the station mode: the MODE notice, the progress counts of the entries not active in the new mode, the operator
flag; at a change to UNATTENDED also an offered call and a connected one (R50, R59, R92, R101, R128, R176). -/
def State.modeMoved (new : Mode) (byWatchdog : Bool) (s : State) : State :=
  let t : State :=
    { s with
      station := { s.station with mode := new }
      link := { s.link with notices := putNotice (.mode new s.station.mode byWatchdog) s.link.notices }
      matcher :=
        { s.matcher with
          progress :=
            List.zipWith (fun e k => if e.length ≠ 0 ∧ e.inMode new = true then k else 0) s.matcher.table
              s.matcher.progress }
      kb :=
        { s.kb with
          operatorFlag :=
            if new = .unattended then true
            else if s.station.mode = .unattended then false else s.kb.operatorFlag } }
  if new = s.station.mode then s
  else if new ≠ .unattended then t
  else
    match s.call.state with
    | .offered => t.acceptanceTested
    | .connected =>
      State.recorderTested
        { t with
          call :=
            { t.call with
              idleClear :=
                if s.call.localClear = true then s.call.idleClear else secondsOrOff (s.cfg .idleClear) } }
    | _ => t

/-! ## The sinks -/

/-- A store whose empty heads are removed, each cursor keeping its boundary, and the high-water flag set again when the
occupancy falls below half the setting (R71, R75, R81). -/
def Store.headsRemoved (t : Store) (highWater : Nat) : Store :=
  let left := t.entries.dropWhile fun e => e.pending.isEmpty
  let gone := t.entries.length - left.length
  { t with
    entries := left
    cursors :=
      { print := t.cursors.print - gone, punch := t.cursors.punch - gone, capture := t.cursors.capture - gone }
    armed := t.armed || (gone != 0 && decide (2 * left.length < highWater)) }

/-- The store after a sink has consumed the entry at its cursor (R74, R75). -/
def State.storeAfter (k : Sink) (s : State) : Store :=
  let i := s.store.cursors.get k
  let es := s.store.entries.modify i fun e => { e with pending := e.pending.without k }
  Store.headsRemoved
    { s.store with
      entries := es, cursors := s.store.cursors.set k (i + ((es.drop i).takeWhile fun e => !e.holds k).length) }
    (s.cfg .storeHighWater)

/-- The store after CAPTURE has consumed the first n entries after its cursor that hold it (R74, R75, R203). -/
def State.storeTaken (n : Nat) (s : State) : Store :=
  let i := s.store.cursors.capture
  let held (j : Nat) : Nat := ((s.store.entries.take j).drop i).countP fun e => e.holds .capture
  let es := s.store.entries.mapIdx fun j e =>
    if i ≤ j ∧ held j < n then { e with pending := e.pending.without .capture } else e
  Store.headsRemoved
    { s.store with
      entries := es
      cursors :=
        { s.store.cursors with capture := i + ((es.drop i).takeWhile fun e => !e.holds .capture).length } }
    (s.cfg .storeHighWater)

/-- What an ARMED CAPTURE channel whose frame is not closed gathers: the entries after its cursor that hold it, up to the frame's
limit; the first item starts the flush timer, the last closes the frame (R73, R202). -/
def State.gathered (s : State) : State :=
  let c := s.link.capture
  let limit := min c.size c.remaining
  let after := s.store.entries.drop s.store.cursors.capture
  let taken := min limit (after.countP fun e => e.holds .capture)
  if c.state = .armed ∧ c.closed = false ∧ c.taken < taken then
    { s with
      store :=
        { s.store with
          cursors :=
            { s.store.cursors with
              capture :=
                if c.taken = 0 then
                  s.store.cursors.capture + (after.takeWhile fun e => !e.holds .capture).length
                else s.store.cursors.capture } }
      link :=
        { s.link with
          capture :=
            { c with
              taken := taken, closed := decide (taken = limit)
              flush :=
                if taken = limit then none
                else if c.taken = 0 then some (288 * s.cfg .captureFlushTime) else c.flush } } }
  else s

/-- The store after a detachment of a sink (R89). -/
def State.storeWithout (k : Sink) (s : State) : Store :=
  Store.headsRemoved
    { s.store with
      entries := s.store.entries.map fun e => { e with pending := e.pending.without k }
      cursors := s.store.cursors.set k s.store.entries.length }
    (s.cfg .storeHighWater)

/-- The end of a CAPTURE arming: DISARMED, the entries released, the CHANNEL notice with the residual (R89, R92, R201, R203),
after the recorder test as R203 states it of DONE, and at an early end by log 47. The count is kept at an early end (log 19). -/
def State.captureEnded (why : EndReason) (s : State) : State :=
  let t : State :=
    State.recorderTested
      { s with
        store := s.storeWithout .capture
        link :=
          { s.link with
            capture := { s.link.capture with state := .disarmed, taken := 0, closed := false, flush := none } } }
  { t with
    link := { t.link with notices := putNotice (.channel true why s.link.capture.remaining) t.link.notices } }

/-- The entry at a sink's cursor is owed to the sink (R73). -/
def State.owes (s : State) (k : Sink) : Prop :=
  ∃ e, s.store.entries[s.store.cursors.get k]? = some e ∧ e.holds k = true

/-- The column after a strike (R138). -/
def State.columnStruck (s : State) : Nat :=
  if s.cfg .overflow = 1 then
    (if s.printer.column ≤ s.cfg .width then s.printer.column + 1 else s.printer.column)
  else if s.printer.column < s.cfg .width then s.printer.column + 1
  else s.printer.column

/-- The BELL output with a pulse of 50 ms more (R122, R140). -/
def State.bellRung (s : State) : Timer := some (max (s.bell.getD 0) (288 * 50))

/-- A strike has landed: the column, and the bell at the margin (R138, R140). -/
def State.struck (s : State) : State :=
  { s with
    printer := { s.printer with column := s.columnStruck }
    bell :=
      if s.columnStruck ≠ s.printer.column ∧ s.columnStruck = s.cfg .marginBellColumn then s.bellRung
      else s.bell }

/-- The printer enters OUT from an attached state: PRINTER_LOST, the stored entries diverted to an attached punch in UNATTENDED
mode, then released (R89, R91, R145, R150). -/
def State.printerLost (jam : Bool) (s : State) : State :=
  let diverts : Prop :=
    s.cfg .divertOnPrinterLoss = 1 ∧ s.station.mode = .unattended ∧ s.attached .punch = true
  let entries : List Entry :=
    if diverts then
      s.store.entries.mapIdx fun i e =>
        if s.store.cursors.punch ≤ i ∧ e.pending.print = true then
          { e with pending := { e.pending with punch := true } }
        else e
    else s.store.entries
  State.recorderTested
    { s with
      printer :=
        { s.printer with
          state := .out, jamHold := jam, op := none, timer := s.printer.stepTimer, haltGrace := none
          offRequest := false }
      station :=
        { s.station with
          record := s.station.record.map fun r => { r with flags := { r.flags with printerLost := true } } }
      store := State.storeWithout .print { s with store := { s.store with entries := entries } } }

/-- The printer enters HALTED with its halt grace; a halt grace of 0 expires at the entry (R149, R150). -/
def State.haltBegun (s : State) : State :=
  if s.cfg .haltGrace = 0 then s.printerLost false
  else
    { s with
      printer :=
        { s.printer with
          state := .halted, op := none, timer := s.printer.stepTimer
          haltGrace := some (288000 * s.cfg .haltGrace) } }

/-- A printer operation completed with no off request: the entry consumed, then IDLE, or HALTED while a halt cause is live
(R144, R149). -/
def State.printed (s : State) : State :=
  let t : State :=
    { s with store := s.storeAfter .print, printer := { s.printer with state := .idle, op := none, timer := none } }
  if s.pins.paperOut = true ∨ s.pins.headHot = true then t.haltBegun else t

/-- A printer operation completed with the off request set: the entry consumed, then OFF, a detachment (R89, R144). -/
def State.printedOff (s : State) : State :=
  State.recorderTested
    { s with
      store := State.storeWithout .print { s with store := s.storeAfter .print }
      printer := { s.printer with op := none, timer := none, state := .off, offRequest := false } }

/-- The completion of a printer operation (R144). -/
def State.operationEnded (s : State) : State :=
  if s.printer.offRequest = true then s.printedOff else s.printed

/-- A movement begins that is the last part of its operation. -/
def State.moving (a : PrinterAction) (time : Nat) (s : State) : State :=
  { s with printer := { s.printer with op := some { action := a, rest := [] }, timer := some time } }

/-- The first step of a slew at the column that stands, counted, or searching for HOME at column 1 (R146, R147). -/
def State.slewBegun (s : State) : Slew :=
  { size := s.cfg .stepSize, stepTime := 288000 / s.cfg .stepRate
    len := if 1 < s.printer.column then min (s.cfg .stepSize) (s.printer.column - 1) else 1
    extra := if 1 < s.printer.column then 0 else 1 }

/-- The last part of an operation at the column that stands: the movement that begins, or the completion of a part that takes no
time (R135, R137, R139, R141 to R143, R147). -/
def State.partBegun (s : State) : PrinterPart → State
  | .strike c =>
    if s.cfg .overflow = 1 ∧ s.cfg .width < s.printer.column then
      s.moving
        (.slew { s.slewBegun with len := min (s.cfg .stepSize) (s.printer.column - 1), extra := 0 } (some c))
        (288000 / s.cfg .stepRate)
    else s.moving (.strike c) (288 * s.cfg .responseLimit)
  | .space =>
    if s.printer.column < s.cfg .width + (if s.cfg .overflow = 1 then 1 else 0) then
      s.moving .space (288000 / s.cfg .stepRate)
    else s.operationEnded
  | .slew =>
    if s.printer.column ≤ 1 ∧ s.pins.home = true then
      State.operationEnded { s with printer := { s.printer with column := 1 } }
    else s.moving (.slew s.slewBegun none) (288000 / s.cfg .stepRate)
  | .feed => s.moving (.feed none) (288 * s.cfg .responseLimit)
  | .bell => State.operationEnded { s with bell := s.bellRung }
  | .silent => s.operationEnded

/-- The punch enters OUT from IDLE or BUSY: PUNCH_LOST, the entries released (R89, R167, R170). -/
def State.punchLost (jam : Bool) (s : State) : State :=
  State.recorderTested
    { s with
      punch :=
        { s.punch with
          state := .out, jamHold := jam, op := none, timer := none, leader := 0, offRequest := false }
      station :=
        { s.station with
          record := s.station.record.map fun r => { r with flags := { r.flags with punchLost := true } } }
      store := s.storeWithout .punch }

/-- The tape count comes to 0 by a cut: TAPE_OUT latched unless it was 0, an IDLE punch to OUT (R169, R170). -/
def State.tapeEmptied (s : State) : State :=
  let t : State := { s with punch := { s.punch with tape := 0 } }.latchIf (s.punch.tape != 0) Cond.tapeOut
  if s.punch.state = .idle then t.punchLost false else t

/-- The tape count cut to the tape-low reserve (R169, R170). -/
def State.tapeCut (s : State) : State :=
  if s.cfg .tapeLowReserve ≠ 0 ∨ s.punch.tape = 0 then
    { s with punch := { s.punch with tape := min s.punch.tape (s.cfg .tapeLowReserve) } }
  else s.tapeEmptied

/-! ## The warm reset -/

/-- What a warm reset leaves before the offer of a CALL_IN that stands asserted, with the straps as they stand (R8, R16, R23, R43,
R67, R94, R101, R113, R130, R155, R162, R174, R175, R177, R188, R197, R208; the fields that mean nothing, log 36). -/
def State.warmed (rate : BitVec 2) (s : State) : State :=
  let tape := if s.pins.tapeLow then min s.punch.tape (s.cfg .tapeLowReserve) else s.punch.tape
  let halted := s.pins.paperOut || s.pins.headHot
  let closed : Option CallRecord :=
    s.station.record.map fun r =>
      { r with outcome := some .abandoned, connectedSeconds := s.connectedSeconds r }
  let faults : CondSet :=
    (if s.pins.paperOut then 0x000001 else 0) ||| (if s.pins.headWarm then 0x000002 else 0)
      ||| (if s.pins.headHot then 0x000004 else 0) ||| (if s.pins.tapeLow then 0x000008 else 0)
      ||| (if tape = 0 then 0x000010 else 0)
  { s with
    pins := { s.pins with rate := rate }
    rx := { s.rx with framing := .off, shift := .letters, levels := [], displacements := [] }
    cal := { s.cal with state := .idle, holdoff := none, sumT := 0, sumS := 0, maxM := 0, count := 0 }
    tx := State.reset.tx
    call := s.call.quiet .free
    store := State.reset.store
    route :=
      { s.route with
        printSwitch := s.cfg .printSwitchAtConnect == 1, punchSwitch := s.cfg .punchSwitchAtConnect == 1 }
    matcher := { s.matcher with progress := s.matcher.progress.map fun _ => 0 }
    answer := { s.answer with run := none, window := none, gapTimer := none }
    kb :=
      { s.kb with
        positions := s.kb.positions.map fun _ => { state := .up, count := 0, held := 0 }
        queue := [], operatorFlag := true, interval := s.cfg .scanPeriod
        scanTimer := some (288 * s.cfg .scanPeriod) }
    printer :=
      { state := if !halted then .idle else if s.cfg .haltGrace = 0 then .out else .halted
        jamHold := false, column := s.printer.column, op := none, timer := none
        haltGrace := if halted ∧ s.cfg .haltGrace ≠ 0 then some (288000 * s.cfg .haltGrace) else none
        offRequest := false, aborted := none }
    bell := none
    punch :=
      { state := if tape = 0 then .out else .idle, jamHold := false, tape := tape, op := none, timer := none
        leader := 0, offRequest := false }
    motor := State.reset.motor
    station :=
      { s.station with
        mode := .unattended, restartPending := true, hostSilent := false
        watchdog := secondsOrOff (s.cfg .hostWatchdog), record := none
        log := match closed with
          | none => s.station.log
          | some r => logAfter s.station.log r }
    link :=
      { State.reset.link with
        rateStrap := rate
        capture := { State.reset.link.capture with size := s.link.capture.size }
        notices :=
          .restart true s.station.nextNumber ((closed.map (·.number)).getD 0)
            :: ((closed.map fun r => .closed r.number .abandoned).toList
              ++ (if faults = 0 then [] else [.fault faults])) }
    cond := { s.cond with faults := faults } }

/-! ## Settings -/

/-- Every setting stands in its range, and the margin bell column within the width (R194). -/
def State.settingsLaw (s : State) : Prop :=
  s.settings.length = 46 ∧ (∀ k : Setting, k.ok (s.cfg k) = true) ∧ s.cfg .marginBellColumn ≤ s.cfg .width

end Sys2Proof.Machine
end

