-- ==== Sys2Proof/Certificates/Slice0/Obligations.lean ====
section
/-! DEFINITION. The claims about the model, for the provers. A command's outcome is written as a whole state wherever its rule
gives the whole: then everything that the record update does not name is unchanged. -/

open Sys2Proof Sys2Proof.Machine

/-! ## The machine as a whole -/

/-- A step runs the command at the front of the queue on the queue's rest, whatever the command. -/
def Obligations.StepTakesTheFrontCommand : Prop :=
  ∀ (c : Instr) (rest : List Instr) (s : State), s.pending = c :: rest → step s = exec c { s with pending := rest }

/-- With no command waiting the model's own clock acts: the internal event that is due, else one unit of time (log 1, 2); while
RESET stands asserted the block stays as it is (R211, log 29). -/
def Obligations.StepOnEmptyQueueFollowsTheClock : Prop :=
  ∀ s : State, s.pending = [] →
    (∀ c, s.nextDue = some c → step s = exec c s) ∧ (s.nextDue = none → step s = .next s.tick) ∧
      (s.pins.reset = true → step s = .next s)

/-- No command stops the machine (log 26), and none touches the queue. -/
def Obligations.EveryCommandAnswersNext : Prop :=
  ∀ (c : Instr) (s : State), ∃ t, exec c s = .next t ∧ t.pending = s.pending

/-- R160: in RUNNING the idle-stop timer stands cancelled while an idle condition fails, and starts with its setting as the
last of them comes to hold or as RUNNING is entered; a setting of 0 leaves it off (log 20). That these are its only starts, so
that a write of the setting above 0 starts none, is the model's choice (log 43), and nothing is said of it here. -/
def Obligations.IdleStopTimerAfterEveryCommand : Prop :=
  ∀ (c : Instr) (s t : State), exec c s = .next t → t.motor.state = .running →
    (t.idleConditions = false → t.motor.idleStop = none) ∧
    (t.idleConditions = true → (s.idleConditions = false ∨ s.motor.state ≠ .running) →
      t.motor.idleStop = secondsOrOff (t.cfg .idleStop))

/-! ## Resets -/

/-- A cold reset from any state, with the inputs that stand: the whole state. While RESET stands asserted the block stays at its
cold values and the reset does not end (R211; that a command then has its effect, log 29). The fields of State.reset to which the
manual gives no reset value (sample point, threshold, time since the edge, connected time, frame size of CAPTURE) are log 5's;
what comes on HOST_RX (log 39), the counter of free values (log 18) and the queue (log 29) are the model's own, and are kept. -/
def Obligations.ColdResetLeaves : Prop :=
  ∀ (i : Inputs) (s : State),
    let faults : CondSet :=
      (if i.paperOut then 0x000001 else 0) ||| (if i.headWarm then 0x000002 else 0)
        ||| (if i.headHot then 0x000004 else 0) ||| (if i.tapeLow then 0x000008 else 0) ||| 0x000010
        ||| (if i.callIn then 0x010000 else 0)
    let halted := i.paperOut || i.headHot
    let cold : State :=
      { State.reset with
        pins := i
        link := { State.reset.link with rateStrap := i.rate, notices := [] }
        cond := { State.reset.cond with faults := 0 }
        hostRx := s.hostRx
        freeCount := s.freeCount
        pending := s.pending }
    (i.reset = true → exec (.coldReset i) s = .next cold) ∧
    (i.reset = false →
      exec (.coldReset i) s = .next
        { cold with
          printer :=
            { State.reset.printer with
              state := if halted then .halted else .idle
              haltGrace := if halted then some (288000 * 30) else none }
          call := { State.reset.call with state := if i.callIn then .refused else .free }
          station :=
            { State.reset.station with
              record := if i.callIn then some (State.reset.newRecord .incoming []) else none
              nextNumber := if i.callIn then 2 else 1 }
          link := { cold.link with notices := [.restart false 1 0, .fault faults] }
          cond := { cold.cond with faults := faults } })

/-- The warm reset at the end of the GRANT of ORDER RESET, whole (`State.warmed`: R8, R16, R23, R43, R67, R94, R101, R113, R114,
R130, R155, R162, R174, R175, R177, R178, R188, R189, R197, R208); a CALL_IN that stands asserted is then offered (R45). What
the manual does not say of a field that means nothing after it is log 36's choice; where the offer goes on to CONNECTED, the
identity exchange comes before the recorder test (log 22, DEDUCED). That the reset is taken and ended in one command is the
model's choice (log 46). -/
def Obligations.WarmResetKeepsAndSets : Prop :=
  ∀ (rate : BitVec 2) (s : State), s.link.sending = some (.reply .resetGrant) →
    exec (.linkFrameSent rate) s = .next (s.idleWatched
      (if s.pins.callIn = true then (s.warmed rate).offered else s.warmed rate))

/-- After a cold reset every law holds. -/
def Obligations.LawsHoldAtReset : Prop :=
  State.reset.modeLaw ∧ State.reset.storeBound ∧ State.reset.headOwed ∧ State.reset.sinkLaw ∧ State.reset.countLaw ∧
    State.reset.recordLaw ∧ State.reset.clearLaw ∧ State.reset.logBound ∧ State.reset.punchLaw ∧ State.reset.settingsLaw

/-! ## Laws that every step keeps -/

/-- R175: LOCAL and ATTENDED stand only while restart is not pending and HOST_SILENT is not live. -/
def Obligations.EveryStepKeepsTheModeLaw : Prop := ∀ s t : State, s.modeLaw → step s = .next t → t.modeLaw

/-- R36, R75: stored entries and the copy reservation never exceed 256; when the store is not empty, its oldest entry is
owed to a sink. R71, R72: every cursor stands within the store, and every sink in a pending set is attached, its cursor at or
before the entry. R80: *received* is what was stored, unrouted and lost of the line, until it has come to 65535. -/
def Obligations.EveryStepKeepsTheStoreLaws : Prop :=
  (∀ s t : State, s.storeBound → step s = .next t → t.storeBound) ∧
  (∀ s t : State, s.headOwed → step s = .next t → t.headOwed) ∧
  (∀ s t : State, s.sinkLaw → step s = .next t → t.sinkLaw) ∧
  (∀ s t : State, s.countLaw → step s = .next t → t.countLaw)

/-- R185: the call log holds at most 16 records. R163: a punch in OUT without the jam hold has no tape left, the jam hold
stands in OUT alone, and an operation is in flight in BUSY alone. R181, R184, with R61: a record is open exactly while the call
is not FREE, and a local clear is in progress in SELECTING and CONNECTED alone. -/
def Obligations.EveryStepKeepsTheLogAndPunchLaws : Prop :=
  (∀ s t : State, s.logBound → step s = .next t → t.logBound) ∧
  (∀ s t : State, s.punchLaw → step s = .next t → t.punchLaw) ∧
  (∀ s t : State, s.recordLaw → s.clearLaw → step s = .next t → t.recordLaw ∧ t.clearLaw)

/-- R194: every setting stands in the range that its chapter gives it. -/
def Obligations.EveryStepKeepsTheSettings : Prop := ∀ s t : State, s.settingsLaw → step s = .next t → t.settingsLaw

/-! ## The line receiver, the calibrator and the matcher -/

/-- R16, R17, R20: the three commands in every framing state. In HUNT the start edge fixes p and the threshold; a false start in
ASSEMBLE and a return to mark in AWAIT_MARK and BREAK lead to HUNT; a return to mark in STOP_SPACE delivers the MUTILATED
character, as its own CHARACTER_DELIVERED does. In the other states a start edge and a return to mark move the pin alone (the
model's choice, log 37), and a false start, which cannot come there, has no effect (the model's choice, log 3). -/
def Obligations.ReceiverFramingEvents : Prop :=
  ∀ s : State,
    let hunting : State :=
      { s with
        pins := { s.pins with lineRx := .mark }
        rx := { s.rx with framing := .hunt, levels := [], displacements := [] } }
    (s.rx.framing = .hunt →
      exec .startEdge s = .next (s.idleWatched
        { s with
          pins := { s.pins with lineRx := .space }
          rx :=
            { s.rx with
              framing := .assemble, samplePoint := s.cal.p
              threshold := max (288 * s.cfg .breakThreshold) (s.elementUnits / 16 * (104 + 4 * s.cfg .stopLength))
              sinceEdge := 0, levels := [], displacements := [] } })) ∧
    (s.rx.framing ≠ .hunt →
      exec .startEdge s = .next (s.idleWatched { s with pins := { s.pins with lineRx := .space } })) ∧
    (s.rx.framing = .assemble → exec .falseStart s = .next (s.idleWatched hunting)) ∧
    (s.rx.framing ≠ .assemble → exec .falseStart s = .next (s.idleWatched s)) ∧
    (s.rx.framing = .awaitMark ∨ s.rx.framing = .brk →
      exec .lineReturnToMark s = .next (s.idleWatched hunting)) ∧
    (s.rx.framing = .stopSpace → exec .lineReturnToMark s = exec (.characterDelivered []) s) ∧
    (s.rx.framing = .off ∨ s.rx.framing = .hunt ∨ s.rx.framing = .assemble →
      exec .lineReturnToMark s = .next (s.idleWatched { s with pins := { s.pins with lineRx := .mark } }))

/-- R18, R20, R22: a space at the stop sample leads to STOP_SPACE with the five unit levels kept, or to BREAK when the
threshold is the stop sample itself; in STOP_SPACE a line at mark is what comes first, by the model's fixed order of the events
that fall together (log 2, DESIGN CHOICE), and a RECEIVED BREAK event, whole, needs the line still at space. One given outside
STOP_SPACE, where it cannot come, has no effect (the model's choice, log 3). An ARMED SEND channel that it ends keeps its
remaining count (the model's choice, log 19). -/
def Obligations.SpaceAtTheStopSampleAndReceivedBreak : Prop :=
  (∀ (s : State) (line : List Level), s.rx.framing = .assemble → levelAt line 8 = .space →
    levelAt line s.stopSample = .space →
    (s.stopSampleUnits < s.rx.threshold →
      exec (.stopSampleAtSpace line) s = .next (s.idleWatched
        { s with
          pins := { s.pins with lineRx := .space }
          rx :=
            { s.rx with
              framing := .stopSpace
              levels := [1, 2, 3, 4, 5].map fun k => levelAt line (16 * k + s.rx.samplePoint)
              displacements := displacementsFrom line 1 .space (sampleLevels s.rx.samplePoint line)
              sinceEdge := s.stopSampleUnits } })) ∧
    (s.rx.threshold ≤ s.stopSampleUnits →
      ∃ t, exec (.stopSampleAtSpace line) s = .next t ∧ t.rx.framing = .brk ∧ t.kb.queue = [] ∧
        t.link.send.queue = [] ∧ t.link.send.armed = false ∧ t.store = s.store ∧ t.call.state = s.call.state)) ∧
  (∀ s : State,
    (s.pins.reset = false → s.rx.framing = .stopSpace → s.pins.lineRx = .mark →
      s.nextDue = some .lineReturnToMark) ∧
    (s.rx.framing ≠ .stopSpace ∨ s.pins.lineRx = .mark → exec .receivedBreak s = .next (s.idleWatched s)) ∧
    (s.rx.framing = .stopSpace → s.pins.lineRx = .space →
      exec .receivedBreak s = .next (s.idleWatched
        { s with
          rx := { s.rx with framing := .brk, levels := [], displacements := [] }
          kb := { s.kb with queue := [] }
          tx := if s.link.send.armed then { s.tx with phase := s.tx.phase.uncounted } else s.tx
          link :=
            if s.link.send.armed then
              { s.link with
                send := { s.link.send with armed := false, held := false, queue := [] }
                notices := putNotice (.channel false .brk s.link.send.remaining) s.link.notices }
            else { s.link with send := { s.link.send with queue := [] } }
          station :=
            { s.station with
              record := s.station.record.map fun r => { r with flags := { r.flags with breakReceived := true } } } })))

/-- R77, R79, R80: a delivered character is stored, unrouted or lost, in exactly one way, and counted so. R81, R202: the append
makes the STORE notice at the high-water mark, while it is armed, and CAPTURE gathers; the notice gives the gap count 0, which
the append has just cleared (log 40), and the CAPTURE lag before the gathering (log 23), both the model's choice. -/
def Obligations.DeliveredCharacterIsRouted : Prop :=
  ∀ (s : State) (line : List Level) (code : Code) (good : Bool), s.delivers line = some (code, good) →
    ∃ t, exec (.characterDelivered line) s = .next t ∧
      (if (s.sinkSet .line).isEmpty = true then
        t.store = s.store ∧ t.link.capture = s.link.capture ∧
          (t.station.record.map fun r => (r.received, r.storedLine, r.unroutedLine, r.lost)) =
            s.station.record.map fun r => (counted r.received, r.storedLine, counted r.unroutedLine, r.lost)
      else if s.freeEntries = 0 then
        t.store = { s.store with gap := counted s.store.gap } ∧ t.link.capture = s.link.capture ∧
          t.cond.faults.getLsbD Cond.storeOverrun = true ∧
          (t.station.record.map fun r => (r.received, r.storedLine, r.unroutedLine, r.lost)) =
            s.station.record.map fun r => (counted r.received, r.storedLine, r.unroutedLine, counted r.lost)
      else
        let entries := s.store.entries ++ [s.lineEntry code good]
        let noticed : Prop := s.store.armed = true ∧ s.cfg .storeHighWater ≤ entries.length
        let put : State :=
          { s with
            store :=
              { s.store with entries := entries, gap := 0, armed := if noticed then false else s.store.armed } }
        t.store.entries = entries ∧ t.store.gap = 0 ∧
          (noticed → .store entries.length 0 (put.lag .print) (put.lag .punch) (put.lag .capture) ∈ t.link.notices) ∧
          (s.store.cursors.capture ≤ s.store.entries.length →
            t.store = put.gathered.store ∧ t.link.capture = put.gathered.link.capture) ∧
          (t.station.record.map fun r => (r.received, r.storedLine, r.unroutedLine, r.lost)) =
            s.station.record.map fun r => (counted r.received, counted r.storedLine, r.unroutedLine, r.lost))

/-- R6 and the rule of SPACE in R7: the receive shift after a delivered character. -/
def Obligations.ReceiveShiftAfterACharacter : Prop :=
  ∀ (s : State) (line : List Level) (code : Code) (good : Bool), s.delivers line = some (code, good) →
    ∃ t, exec (.characterDelivered line) s = .next t ∧ t.rx.framing ≠ .assemble ∧
      t.rx.shift =
        (if good = false then s.rx.shift
        else match (s.translated code).cls with
          | .ltrs => .letters
          | .figs => .figures
          | .space => if s.cfg .unshiftOnSpace = 1 then .letters else s.rx.shift
          | _ => s.rx.shift)

/-- R98, R99: the progress of every entry after a character delivered in CONNECTED. R100, R102 to R104: the actions of the entries
that a good character completes, one or several, in ascending order: the switches, the messages, the SEQUENCE notice of the last
that makes one, and a CLEAR in UNATTENDED mode with its outcome, absorbed in a local clear (R61, R62). -/
def Obligations.MatcherProgressAndActions : Prop :=
  ∀ (s : State) (line : List Level) (code : Code) (good : Bool), s.delivers line = some (code, good) →
    s.call.state = .connected → s.matcher.table.length = 16 → s.matcher.progress.length = 16 →
    (∃ t, exec (.characterDelivered line) s = .next t ∧
      ∀ (n : Nat) (e : SeqEntry) (k : Nat), s.matcher.table[n]? = some e → s.matcher.progress[n]? = some k →
        t.matcher.progress[n]? = some
          (if good = false then 0
          else if e.length = 0 ∨ e.inMode s.station.mode = false then k
          else if (s.translated code).cls = .ltrs ∨ (s.translated code).cls = .figs
              ∨ (s.translated code).cls = .null then k
          else if e.pattern[k]? = some (s.translated code).char then (if e.length ≤ k + 1 then 0 else k + 1)
          else if e.pattern[0]? = some (s.translated code).char then (if e.length ≤ 1 then 0 else 1)
          else 0)) ∧
    (good = true →
      let done := s.completions (s.translated code)
      let clears : Prop := s.station.mode = .unattended ∧ ∃ x ∈ done, x.2.action = .clear
      let ignored (e : SeqEntry) : Bool := e.action == .clear && s.station.mode != .unattended
      let noticed (e : SeqEntry) : Prop := e.noticeFlag = true ∨ e.action = .notice ∨ ignored e = true
      let ch := s.translated code
      (∀ (n : Nat) (e : SeqEntry), (n, e) ∈ done ↔
        s.matcher.table[n]? = some e ∧ e.length ≠ 0 ∧ e.inMode s.station.mode = true ∧
          ch.cls ≠ .ltrs ∧ ch.cls ≠ .figs ∧ ch.cls ≠ .null ∧
          ∃ k, s.matcher.progress[n]? = some k ∧
            (if e.pattern[k]? = some ch.char then e.length ≤ k + 1
            else e.pattern[0]? = some ch.char ∧ e.length ≤ 1)) ∧
      done.Pairwise (fun x y => x.1 < y.1) ∧
      ∃ t, exec (.characterDelivered line) s = .next t ∧
        t.route = done.foldl (fun r x => r.acted x.2.action) s.route ∧
        (t.station.record.map (·.messages)) =
          (s.station.record.map fun r =>
            done.foldl (fun n x => if x.2.action = .endOfMessage then counted n else n) r.messages) ∧
        (∀ pre n e post, done = pre ++ (n, e) :: post → noticed e → (∀ x ∈ post, ¬noticed x.2) →
          .sequence n e.action (!ignored e) s.recordNumber ∈ t.link.notices) ∧
        (clears → s.call.localClear = false →
          (t.station.record.map (·.outcome)) =
              (s.station.record.map fun r => if r.outcome = none then some .sequenceClear else r.outcome) ∧
            t.call.state = (if s.inFlight = true then .connected else .clearing) ∧
            t.call.localClear = s.inFlight ∧ t.kb.queue = [] ∧ t.link.send.armed = false ∧
            t.link.send.queue = []) ∧
        (¬clears ∨ s.call.localClear = true →
          t.call.state = s.call.state ∧ t.call.localClear = s.call.localClear ∧ t.kb.queue = s.kb.queue ∧
            t.link.send = s.link.send ∧
            (t.station.record.map (·.outcome)) = s.station.record.map (·.outcome)))

/-- R26 to R29: the calibrator after a good character delivered in CONNECTED that completes no sequence entry; the CALIBRATION
notice of a window that is applied, and the CAL_ERROR of one in error. The band, the distortion limit and the mode are those that
stand at the window's end (log 21, DEDUCED). -/
def Obligations.CalibratorAfterAGoodCharacter : Prop :=
  ∀ (s : State) (line : List Level) (code : Code), s.rx.framing = .assemble →
    s.delivers line = some (code, true) → s.call.state = .connected →
    (s.cal.state = .measuring ∨ s.cal.state = .settled) → s.completions (s.translated code) = [] →
    let ds := displacementsOf line (sampleLevels s.rx.samplePoint line)
    let T := s.cal.sumT + ds.length
    let S := s.cal.sumS + sumOf ds
    let M := max s.cal.maxM (largestOf ds)
    let b := Int.tdiv S T
    let empty := { s.cal with sumT := 0, sumS := 0, maxM := 0, count := 0 }
    let ends : Prop := s.cfg .window ≤ s.cal.count + 1 ∧ T ≠ 0
    let error : Prop := 8 + b < 2 ∨ 14 < 8 + b ∨ s.cfg .distortionLimit < M
    let first : Prop := s.cfg .calibrationMode = 2 ∧ s.cal.state = .measuring
    let drift : Prop :=
      s.cfg .calibrationMode = 2 ∧ s.cal.state = .settled ∧ s.cfg .band < ((8 + b) - (s.cal.p : Int)).natAbs
    ∃ t, exec (.characterDelivered line) s = .next t ∧
      t.cal =
        (if s.cal.count + 1 < s.cfg .window then
          { s.cal with sumT := T, sumS := S, maxM := M, count := s.cal.count + 1 }
        else if T = 0 then empty
        else if error then
          { empty with lastBias := b, state := .holdoff, holdoff := some (288000 * s.cfg .holdoff) }
        else if first then { empty with lastBias := b, p := (8 + b).toNat, state := .settled }
        else if drift then { empty with lastBias := b, p := (8 + b).toNat }
        else { empty with lastBias := b }) ∧
      (ends → error →
        t.cond.faults.getLsbD Cond.calError = true ∧
          (t.station.record.map fun r => r.flags.calError) = s.station.record.map fun _ => true) ∧
      (ends → ¬error → first ∨ drift →
        .calibration (s.cal.state == .settled) (8 + b).toNat b ∈ t.link.notices)

/-- R29, R30: the end of a holdoff, and ORDER CALIBRATE. -/
def Obligations.HoldoffExpiryAndOrderCalibrate : Prop :=
  ∀ s : State,
    (s.cal.holdoff.isSome = true →
      exec .holdoffExpiry s = .next (s.idleWatched
        { s with
          cal :=
            { s.cal with
              holdoff := none, sumT := 0, sumS := 0, maxM := 0, count := 0
              state :=
                if s.call.state = .connected ∧ s.cfg .calibrationMode ≠ 0 then .measuring else .idle } })) ∧
    (s.ready →
      exec .orderCalibrate s = .next (s.idleWatched
        (if s.cfg .calibrationMode = 2 ∧ (s.cal.state = .measuring ∨ s.cal.state = .settled) then
          State.answered
            { s with cal := { s.cal with sumT := 0, sumS := 0, maxM := 0, count := 0, state := .measuring } } .grant
        else s.answered (.reject .state))))

/-- R111, R112: the identity-capture window at a delivered character, and at the expiry of its gap timer: the remote identity in
the record; and, at a character that completes no sequence entry, the window's count, its closing at the twentieth character and
at LF, and the gap timer started again. -/
def Obligations.IdentityCaptureWindow : Prop :=
  ∀ s : State,
    (s.answer.gapTimer.isSome = true →
      exec .identityCaptureGapExpiry s = .next (s.idleWatched
        { s with answer := { s.answer with window := none, gapTimer := none } })) ∧
    (∀ (line : List Level) (code : Code) (good : Bool) (n : Nat), s.delivers line = some (code, good) →
      s.call.state = .connected → s.answer.window = some n →
      let appended : Option IChar :=
        if good = false then some (BitVec.ofNat 7 (s.cfg .substituteSymbol))
        else if (s.translated code).cls = .print ∨ (s.translated code).cls = .space then
          some (s.translated code).char
        else none
      let closed : Prop :=
        (appended.isSome = true ∧ 20 ≤ n + 1) ∨ (good = true ∧ (s.translated code).cls = .lf)
      ∃ t, exec (.characterDelivered line) s = .next t ∧
        (t.station.record.map fun r => r.remoteIdentity) =
          (s.station.record.map fun r => r.remoteIdentity.map fun id => id ++ appended.toList) ∧
        (good = false ∨ s.completions (s.translated code) = [] →
          t.answer.window =
            (if closed then none else if appended.isSome = true then some (n + 1) else some n) ∧
          t.answer.gapTimer = if closed then none else some (288000 * s.cfg .identityCaptureGap)))

/-! ## The transmitter and the local path -/

/-- R32, R33, R41, R61: with LOOP_OK absent, in a local clear, or outside SELECTING and CONNECTED a FREE transmitter takes
nothing; in CONNECTED a pending break is taken before all else; the ends of the break and of its guard. -/
def Obligations.BreakFromItsTakeToItsGuardEnd : Prop :=
  (∀ s : State, s.tx.phase = .free →
    (s.pins.loopOk = false ∨ s.call.localClear = true ∨ (s.call.state ≠ .selecting ∧ s.call.state ≠ .connected) →
      exec .transmitterTake s = .next (s.idleWatched s)) ∧
    (s.pins.loopOk = true → s.call.localClear = false → s.call.state = .connected → s.tx.breakPending = true →
      exec .transmitterTake s = .next (s.idleWatched
        { s with
          tx :=
            { s.tx with
              phase := .brk, timer := some (288 * s.cfg .breakSendLength), breakPending := false } }))) ∧
  (∀ s : State,
    (s.tx.phase = .brk →
      exec .breakSendEnd s = .next (s.idleWatched
        { s with tx := { s.tx with phase := .breakGuard, timer := some (s.elementUnits + s.stopUnits) } })) ∧
    (s.tx.phase = .breakGuard → s.call.localClear = false →
      exec .breakGuardEnd s = .next (s.idleWatched
        { s with tx := { s.tx with phase := .free, timer := none } })) ∧
    (s.tx.phase = .breakGuard → s.call.localClear = true → s.call.state = .connected →
      ∃ t, exec .breakGuardEnd s = .next t ∧ t.call.state = .clearing ∧ t.tx.phase = .free ∧
        t.call.guard = some (288 * s.cfg .clearingGuard)))

/-- R31, R33 to R36, R39, R107: what a FREE transmitter takes, rank by rank, and the code that begins. -/
def Obligations.TransmitterTakesACode : Prop :=
  ∀ s : State, s.tx.phase = .free → s.pins.loopOk = true → s.call.localClear = false →
    (s.call.state = .connected → s.tx.breakPending = false →
      (∀ (i : Nat) (c : Code), s.answer.run = some i → s.answer.memory[i]? = some c →
        exec .transmitterTake s = .next (s.idleWatched
          (s.codeTaken { s with answer := { s.answer with run := some (i + 1) } } (s.sinkSet .answerback) c
            .answerback .last))) ∧
      (s.answer.run = none → ∀ (c : Code) (rest : List Code), s.identCodes = some (c :: rest) →
        (s.tx.identPending = some .byOrder →
          exec .transmitterTake s = .next (s.idleWatched
            (s.codeTaken { s with tx := { s.tx with identPending := none } } (s.sinkSet .answerback) c .identOrder
              (followed rest)))) ∧
        (s.tx.identPending = some .afterSelection →
          exec .transmitterTake s = .next (s.idleWatched
            (s.codeTaken { s with tx := { s.tx with identPending := none } } .nowhere c .identSelection
              (followed rest))))) ∧
      (s.answer.run = none → s.tx.identPending = none →
        (∀ (ch : IChar) (cs : List IChar) (c : Code) (e : TransEntry) (rest : List (Code × TransEntry)),
          s.namesLine .host = true → s.link.send.armed = true → s.link.send.held = false →
          s.link.send.queue = ch :: cs → s.resolve s.tx.shift ch = some ((c, e) :: rest) →
          exec .transmitterTake s = .next (s.idleWatched
            (s.codeTaken { s with link := { s.link with send := { s.link.send with queue := cs } } }
              (s.sinkSet .host) c (.send true) (followed (rest.map (·.1)))))) ∧
        (∀ (ch : IChar) (cs : List IChar) (c : Code) (e : TransEntry) (rest : List (Code × TransEntry)),
          s.namesLine .keyboard = true → s.link.send.armed = false → s.kb.queue = ch :: cs →
          s.resolve s.tx.shift ch = some ((c, e) :: rest) →
          exec .transmitterTake s = .next (s.idleWatched
            (s.codeTaken { s with kb := { s.kb with queue := cs } } (s.sinkSet .keyboard) c .keyboard
              (followed (rest.map (·.1)))))))) ∧
    (s.call.state = .selecting →
      ∀ (ch : IChar) (cs : List IChar) (c : Code) (e : TransEntry) (rest : List (Code × TransEntry)),
        s.tx.selection = ch :: cs → s.resolve s.tx.shift ch = some ((c, e) :: rest) →
        exec .transmitterTake s = .next (s.idleWatched
          (s.codeTaken { s with tx := { s.tx with selection := cs } } .nowhere c .selection
            (followed (rest.map (·.1))))))

/-- R9, R10, R11: the resolution of an internal character from a shift is the lowest code of that half that carries it; else
the lowest of the other half, alone when it names a shift, after the lowest shift code of this half otherwise. A character
that has a resolution (R9) is resolved from both shifts. -/
def Obligations.ResolutionTakesTheLowestCodes : Prop :=
  ∀ (s : State) (sh : Shift) (ch : IChar),
    let carries (half : Shift) (n : Nat) : Prop :=
      (s.entryAt half (BitVec.ofNat 5 n)).char = ch ∧ (s.entryAt half (BitVec.ofNat 5 n)).cls ≠ .unassigned
    let entry (half : Shift) (n : Nat) : Code × TransEntry :=
      (BitVec.ofNat 5 n, s.entryAt half (BitVec.ofNat 5 n))
    let other : Shift := if sh = .letters then .figures else .letters
    let shiftsAway (n : Nat) : Prop :=
      (s.entryAt sh (BitVec.ofNat 5 n)).cls = if sh = .letters then .figs else .ltrs
    (∀ n, n < 32 → carries sh n → (∀ m, m < n → ¬ carries sh m) → s.resolve sh ch = some [entry sh n]) ∧
    ((∀ m, m < 32 → ¬ carries sh m) →
      (∀ n, n < 32 → carries other n → (∀ m, m < n → ¬ carries other m) →
        ((s.entryAt other (BitVec.ofNat 5 n)).cls = .ltrs ∨ (s.entryAt other (BitVec.ofNat 5 n)).cls = .figs →
          s.resolve sh ch = some [entry other n]) ∧
        ((s.entryAt other (BitVec.ofNat 5 n)).cls ≠ .ltrs → (s.entryAt other (BitVec.ofNat 5 n)).cls ≠ .figs →
          (∀ j, j < 32 → shiftsAway j → (∀ m, m < j → ¬ shiftsAway m) →
            s.resolve sh ch = some [entry sh j, entry other n]) ∧
          ((∀ m, m < 32 → ¬ shiftsAway m) → s.resolve sh ch = none))) ∧
      ((∀ m, m < 32 → ¬ carries other m) → s.resolve sh ch = none)) ∧
    (s.hasResolution ch = true → (s.resolve .letters ch).isSome = true ∧ (s.resolve .figures ch).isSome = true)

/-- R12, R36 to R38, R42, R59, R61, R65, R109, R110: the completion of the last code of a unit: the send shift, *sent*, the copy,
the idle-clear timer, and the end of what the unit belongs to. In a local clear that waited for the code the call enters CLEARING
at its completion. A selection unit changes the send shift and is followed by the next, or by CLEARING in a local clear (the last
of a selection connects the call, in CodeCompletionGoesOn). That a setting of 0 stops the idle-clear timer at its restart is the
model's reading (log 20, DEDUCED), and so is the code's class read in the send shift that stands at its completion (log 42). The
sums of a window that CLEARING abandons are 0 at once (the model's choice, log 36). -/
def Obligations.CodeCompletionEndsAUnit : Prop :=
  (∀ (s : State) (c : Code) (u : TxUnit) (el st : Nat), s.tx.phase = .code c u .last el st → u ≠ .selection →
    let clearing : Prop := s.call.localClear = true
    let left : Prop := clearing ∧ s.call.state = .connected
    let shifted : Transmitter :=
      { s.tx with
        phase := .free, timer := none, shift := s.sendShiftAfter c
        reservation := if u.source = none then s.tx.reservation else false }
    ∃ t, exec .codeCompletion s = .next t ∧
      t.tx =
        (if clearing then { shifted with breakPending := false, identPending := none, selection := [] }
        else shifted) ∧
      t.call =
        (if clearing then { s.call.quiet .clearing with guard := some (288 * s.cfg .clearingGuard) }
        else
          { s.call with
            idleClear :=
              if s.call.state = .connected then secondsOrOff (s.cfg .idleClear) else s.call.idleClear }) ∧
      (t.station.record.map fun r => (r.sent, r.storedStation, r.unroutedStation)) =
        s.station.record.map (s.sentCounts c u) ∧
      (t.station.record.map (·.connectedSeconds)) =
        (s.station.record.map fun r =>
          if left then min (s.call.connectedTime / 288000) 16777215 else r.connectedSeconds) ∧
      t.store.entries = s.store.entries ++ s.copyOf c u ∧
      (t.link.send.armed, t.link.send.remaining) =
        (if u = .send true then
          if s.link.send.remaining ≤ 1 then (false, 0) else (s.link.send.armed, s.link.send.remaining - 1)
        else (s.link.send.armed, s.link.send.remaining)) ∧
      t.answer.run =
        (if left ∨ (u = .answerback ∧ ∀ i, s.answer.run = some i → s.answer.memory.length ≤ i) then none
        else s.answer.run) ∧
      t.answer.window =
        (if left then none
        else if (u = .identOrder ∨ u = .identSelection) ∧ s.call.state = .connected then some 0
        else s.answer.window) ∧
      t.rx = (if clearing then { s.rx with framing := .off, levels := [], displacements := [] } else s.rx) ∧
      t.cal =
        (if left ∧ (s.cal.state = .measuring ∨ s.cal.state = .settled) then
          { s.cal with sumT := 0, sumS := 0, maxM := 0, count := 0, state := .idle }
        else s.cal) ∧
      t.kb = s.kb ∧ t.link.send.queue = s.link.send.queue ∧ t.route = s.route ∧ t.matcher = s.matcher ∧
      t.printer = s.printer ∧ t.punch = s.punch ∧ t.cond = s.cond ∧ t.pins = s.pins ∧
      t.translate = s.translate ∧ t.settings = s.settings ∧ t.station.mode = s.station.mode ∧
      t.station.log = s.station.log) ∧
  (∀ (s : State) (c : Code) (el st : Nat), s.tx.phase = .code c .selection .last el st → s.call.state = .selecting →
    let t : State := { s with tx := { s.tx with phase := .free, timer := none, shift := s.sendShiftAfter c } }
    (s.call.localClear = false → s.tx.selection ≠ [] → exec .codeCompletion s = .next (s.idleWatched t)) ∧
    (s.call.localClear = true → exec .codeCompletion s = .next (s.idleWatched t.cleared)))

/-- R35 to R38, R42: at the completion of the shift code of a pair its copy is made, and the reservation for the second code is
sought whether or not LOOP_OK stands; then the second code begins, or the unit waits, for an entry where the reservation could
not be made and else for LOOP_OK. TRANSMITTER_TAKE brings a unit out of UNIT_WAIT: the table has no row for it (log 16,
DEDUCED). One that waits for an entry and has no sink left goes on without a reservation (the model's choice, log 44). R56, R57,
R92: the completion of the last code of the last selection character connects the call, in every station mode, with the entry's
effects and its recorder test, the identity exchange before it (log 22, DEDUCED). The class of a code is read in the send shift
that stands at its completion (log 42). A local clear that the recorder test begins keeps the remaining count of SEND (log 19)
and sets the sums of an abandoned window to 0 (log 36), the model's choices. -/
def Obligations.CodeCompletionGoesOn : Prop :=
  (∀ (s : State) (c d : Code) (u : TxUnit) (el st : Nat), s.tx.phase = .code c u (.code d) el st →
    s.call.localClear = false → (s.call.state = .selecting ∨ s.call.state = .connected) →
    let entries := s.store.entries ++ s.copyOf c u
    let full : Prop := s.copied u = true ∧ 256 ≤ entries.length
    ∃ t, exec .codeCompletion s = .next t ∧
      t.tx =
        { s.tx with
          phase :=
            if full then .unitWait d u true
            else if s.pins.loopOk = true then .code d u .last s.elementUnits s.stopUnits
            else .unitWait d u false
          timer := if ¬full ∧ s.pins.loopOk = true then some (6 * s.elementUnits + s.stopUnits) else none
          shift := s.sendShiftAfter c
          reservation := if u.source = none then s.tx.reservation else s.copied u && decide ¬full } ∧
      t.store.entries = entries ∧ (s.copyOf c u = [] → t.store = s.store) ∧
      (t.station.record.map fun r => (r.sent, r.storedStation, r.unroutedStation)) =
        s.station.record.map (s.sentCounts c u) ∧
      t.link.send = s.link.send ∧ t.answer = s.answer ∧ t.kb = s.kb ∧ t.call.state = s.call.state) ∧
  (∀ (s : State) (d : Code) (u : TxUnit),
    let goes : Prop :=
      s.pins.loopOk = true ∧ s.call.localClear = false ∧ (s.call.state = .selecting ∨ s.call.state = .connected)
    let begun (x : Transmitter) : Transmitter :=
      { x with
        phase := .code d u .last s.elementUnits s.stopUnits, timer := some (6 * s.elementUnits + s.stopUnits) }
    let reserved : Transmitter := { s.tx with reservation := s.tx.reservation || s.copied u }
    (s.tx.phase = .unitWait d u false →
      exec .transmitterTake s = .next (s.idleWatched (if goes then { s with tx := begun s.tx } else s))) ∧
    (s.tx.phase = .unitWait d u true →
      exec .transmitterTake s = .next (s.idleWatched
        (if s.copied u = true ∧ s.freeEntries = 0 then s
        else if goes then { s with tx := begun reserved }
        else { s with tx := { reserved with phase := .unitWait d u false } })))) ∧
  (∀ (s : State) (c : Code) (el st : Nat), s.tx.phase = .code c .selection .last el st → s.call.state = .selecting →
    s.call.localClear = false → s.tx.selection = [] →
    let t : State := { s with tx := { s.tx with phase := .free, timer := none, shift := s.sendShiftAfter c } }
    exec .codeCompletion s = .next (s.idleWatched t.connectionBegun.recorderTested))

/-- R13, R84, R85: the local path takes the head of a queue outside CONNECTED, and in CONNECTED where its route does not name LINE
(no local clear in progress: log 11): stored code by code, waiting for room, or counted unrouted; a SEND character counts once
against the remaining count. An entry has the shift that stands when its code is placed and the character of the table entry
that the resolution used (log 35, DEDUCED); each code moves the send shift by its class in it (log 15, DEDUCED). -/
def Obligations.LocalPathTakesAHead : Prop :=
  ∀ (s : State) (ch : IChar) (cs : List IChar) (xs : List (Code × TransEntry)),
    s.resolve s.tx.shift ch = some xs →
    let shifted (u : State) (c : Code) : State := { u with tx := { u.tx with shift := u.sendShiftAfter c } }
    let entries (src : Source) : List Entry :=
      match xs with
      | [(c, e)] => [s.stationEntry src c e]
      | [(c, e), (d, g)] =>
        [s.stationEntry src c e, { (shifted s c).stationEntry src d g with gapBefore := false }]
      | _ => []
    let shift : Shift :=
      match xs with
      | [(c, _)] => s.sendShiftAfter c
      | [(c, _), (d, _)] => (shifted s c).sendShiftAfter d
      | _ => s.tx.shift
    let counts (n : Nat) : Nat := if xs.length = 1 then counted n else counted (counted n)
    let taken (src : Source) (t : State) : Prop :=
      t.tx = { s.tx with shift := shift } ∧ t.call = s.call ∧ t.answer = s.answer ∧ t.rx = s.rx ∧
        t.store.entries =
          (if (s.sinkSet src).isEmpty = true then s.store.entries else s.store.entries ++ entries src) ∧
        (t.station.record.map fun r => (r.storedStation, r.unroutedStation)) =
          (s.station.record.map fun r =>
            if (s.sinkSet src).isEmpty = true then (r.storedStation, counts r.unroutedStation)
            else (counts r.storedStation, r.unroutedStation))
    let waits (src : Source) : Prop := (s.sinkSet src).isEmpty = false ∧ s.freeEntries < xs.length
    let isLocal (src : Source) : Prop :=
      s.call.state ≠ .connected ∨ (s.namesLine src = false ∧ s.call.localClear = false)
    (xs.length = 1 ∨ xs.length = 2) ∧
    (s.kb.queue = ch :: cs → isLocal .keyboard →
      (waits .keyboard → exec (.localPathTake .keyboard) s = .next (s.idleWatched s)) ∧
      (¬waits .keyboard →
        ∃ t, exec (.localPathTake .keyboard) s = .next t ∧ taken .keyboard t ∧
          t.kb = { s.kb with queue := cs } ∧ t.link.send = s.link.send)) ∧
    (s.link.send.queue = ch :: cs → s.link.send.armed = true → s.link.send.held = false → isLocal .host →
      (waits .host → exec (.localPathTake .send) s = .next (s.idleWatched s)) ∧
      (¬waits .host →
        ∃ t, exec (.localPathTake .send) s = .next t ∧ taken .host t ∧ t.kb = s.kb ∧
          t.link.send =
            (if s.link.send.remaining ≤ 1 then { armed := false, held := false, remaining := 0, queue := cs }
            else { s.link.send with queue := cs, remaining := s.link.send.remaining - 1 })))

/-! ## The call controller -/

/-- R45 to R49: an offer in FREE, by the station mode; an offer withdrawn before its answer is MISSED. Where the offer goes on
to CONNECTED, the identity exchange comes before the recorder test (log 22, DEDUCED). A local clear that the recorder test
begins keeps the remaining count of SEND (log 19) and sets the sums of an abandoned window to 0 (log 36), the model's choices. -/
def Obligations.OfferAndItsWithdrawal : Prop :=
  (∀ s : State, s.pins.callIn = false → s.call.state = .free →
    let t : State := { s.recorded .incoming [] with pins := { s.pins with callIn := true } }
    (s.station.mode = .localMode →
      exec .callInAsserted s = .next (s.idleWatched
        { t with call := { t.call with state := .refused, answerDelay := none } })) ∧
    (s.station.mode = .attended →
      exec .callInAsserted s = .next (s.idleWatched
        { t with
          call := { t.call with state := .offered, answerDelay := secondsOrOff (s.cfg .attendedAnswerDelay) }
          link :=
            { s.link with
              notices := putNotice (.call false .incoming s.station.nextNumber) s.link.notices } })) ∧
    (s.station.mode = .unattended →
      (s.answer.memory = [] →
        exec .callInAsserted s = .next (s.idleWatched
          { t.latch Cond.answerbackEmpty with
            call := { t.call with state := .refused, answerDelay := none } })) ∧
      (s.answer.memory ≠ [] → s.namedSinkAttached (s.routeEntry .line .unattended) = false →
        exec .callInAsserted s = .next (s.idleWatched
          { t with call := { t.call with state := .refused, answerDelay := none } })) ∧
      (s.answer.memory ≠ [] → s.namedSinkAttached (s.routeEntry .line .unattended) = true →
        let answering : State :=
          { t.startCause with
            call :=
              { t.call with
                state := .answering, answerDelay := none
                connect := some (288000 * s.cfg .connectTimeout) } }
        exec .callInAsserted s = .next (s.idleWatched
          (if s.pins.loopOk = true then answering.connectionBegun.recorderTested else answering))))) ∧
  (∀ (s : State) (r : CallRecord), s.call.state = .offered → s.station.record = some r → r.outcome = none →
    s.pins.callIn = true →
    exec .callInDeasserted s = .next (s.idleWatched
      ({ s with pins := { s.pins with callIn := false } }.freed r .missed)))

/-- R51: a REFUSED call waits for its withdrawal, and nothing else has an effect on it. -/
def Obligations.RefusedCallWaits : Prop :=
  ∀ (s : State) (r : CallRecord), s.call.state = .refused → s.station.record = some r → r.outcome = none →
    r.connectedSeconds = 0 →
    s.seize = false ∧
    (s.pins.callIn = true →
      exec .callInDeasserted s = .next (s.idleWatched
        ({ s with pins := { s.pins with callIn := false } }.freed r .refused))) ∧
    (s.pins.loopOk = false →
      exec .loopOkAsserted s = .next (s.idleWatched
        { s with pins := { s.pins with loopOk := true }, call := { s.call with loss := none } })) ∧
    (s.pins.loopOk = true →
      exec .loopOkDeasserted s = .next (s.idleWatched { s with pins := { s.pins with loopOk := false } })) ∧
    (s.ready →
      exec .orderAnswer s = .next (s.idleWatched (s.answered (.reject .state))) ∧
      exec .orderClear s = .next (s.idleWatched (s.answered (.reject .state))) ∧
      (∀ chars, exec (.orderCall chars) s = .next (s.idleWatched (s.answered (.reject .state)))) ∧
      ∀ mode, ∃ t, exec (.orderMode mode) s = .next t ∧ t.call = s.call ∧ t.station.record = s.station.record) ∧
    ∃ t, exec .hostWatchdogExpiry s = .next t ∧ t.call = s.call ∧ t.station.record = s.station.record

/-- R55: a collision: the outgoing record closed as COLLIDED, the incoming call offered by the station mode. The call does not
pass through FREE, so the gap count and the progress counts stand (the model's reading, log 27). Where the offer goes on to
CONNECTED, the identity exchange comes before the recorder test (log 22, DEDUCED). A local clear that the recorder test begins
keeps the remaining count of SEND (log 19) and sets the sums of an abandoned window to 0 (log 36), the model's choices. -/
def Obligations.CollisionClosesAndOffers : Prop :=
  ∀ (s : State) (r : CallRecord), s.call.state = .calling → s.pins.callIn = false → s.station.record = some r →
    r.outcome = none →
    exec .callInAsserted s = .next (s.idleWatched
      (State.offered
        { s with
          pins := { s.pins with callIn := true }
          tx := { s.tx with selection := [] }
          call := { s.call with proceed := none }
          station :=
            { s.station with
              record := none, log := logAfter s.station.log { r with outcome := some .collided } }
          link := { s.link with notices := putNotice (.closed r.number .collided) s.link.notices } }))

/-- R49, R52: an offered call is answered by the host or by the answer delay, and goes on to CONNECTED at once while LOOP_OK
stands asserted, the identity exchange there before the recorder test (log 22, DEDUCED); in any other state the order is
refused. A local clear that the recorder test begins keeps the remaining count of SEND (log 19) and sets the sums of an
abandoned window to 0 (log 36), the model's choices. -/
def Obligations.AnsweringAnOffer : Prop :=
  ∀ s : State,
    (s.call.state = .offered →
      let t : State :=
        { s.startCause with
          call :=
            { s.call with
              state := .answering, answerDelay := none, connect := some (288000 * s.cfg .connectTimeout) } }
      let u : State := if s.pins.loopOk = true then t.connectionBegun.recorderTested else t
      (s.ready → exec .orderAnswer s = .next (s.idleWatched (u.answered .grant))) ∧
      (s.call.answerDelay.isSome = true → exec .answerDelayExpiry s = .next (s.idleWatched u))) ∧
    (s.call.state ≠ .offered → s.ready →
      exec .orderAnswer s = .next (s.idleWatched (s.answered (.reject .state))))

/-- R52, R54, R60: LOOP_OK asserted. From ANSWERING the call is CONNECTED, in every station mode, with the entry's effects (R16,
R24, R57, R58, R86, R101) and its recorder test (R92); from CALLING it is SELECTING; else the loss timer is cancelled. That the
identity exchange comes before the recorder test, so that an empty answerback memory is latched even where the test then clears
the call, is the model's reading (log 22, DEDUCED). A local clear that the recorder test begins keeps the remaining count of
SEND (log 19) and sets the sums of an abandoned window to 0 (log 36), the model's choices. -/
def Obligations.LoopOkAsserted : Prop :=
  ∀ s : State, s.pins.loopOk = false →
    let t : State := { s with pins := { s.pins with loopOk := true }, call := { s.call with loss := none } }
    (s.call.state = .answering →
      exec .loopOkAsserted s = .next (s.idleWatched t.connectionBegun.recorderTested)) ∧
    (s.call.state = .calling →
      exec .loopOkAsserted s = .next (s.idleWatched
        { t with
          rx := { s.rx with framing := .awaitMark }
          call := { s.call with state := .selecting, proceed := none, loss := none } })) ∧
    (s.call.state ≠ .answering → s.call.state ≠ .calling →
      exec .loopOkAsserted s = .next (s.idleWatched t))

/-- R52, R54, R59 to R62, R64: LOOP_OK deasserted starts the loss timer; its expiry ends the call; the connect and proceed
timers end the attempt with NO_CONNECT; the idle-clear timer clears the call in UNATTENDED mode alone. An ARMED SEND channel that
an end of the call ends keeps its remaining count (the model's choice, log 19), and the sums of a window that CLEARING abandons
are 0 at once (log 36). -/
def Obligations.LineLossAndCallTimers : Prop :=
  (∀ s : State,
    (s.pins.loopOk = true →
      exec .loopOkDeasserted s = .next (s.idleWatched
        (if s.call.state = .selecting ∨ s.call.state = .connected then
          { s with
            pins := { s.pins with loopOk := false }
            call := { s.call with loss := some (288 * s.cfg .lossTolerance) } }
        else { s with pins := { s.pins with loopOk := false } }))) ∧
    (s.call.loss.isSome = true → s.call.state = .selecting →
      exec .lossTimerExpiry s = .next (s.idleWatched (s.ending .noConnect).cleared)) ∧
    (s.call.loss.isSome = true → s.call.state = .connected →
      exec .lossTimerExpiry s = .next (s.idleWatched
        (((s.ending .remoteClear).latch Cond.lineLost).queuesEmptied .cleared).cleared))) ∧
  (∀ s : State,
    (s.call.connect.isSome = true → s.call.state = .answering →
      exec .connectTimerExpiry s = .next (s.idleWatched (s.ending .noConnect).cleared)) ∧
    (s.call.proceed.isSome = true → s.call.state = .calling →
      exec .proceedTimerExpiry s = .next (s.idleWatched (s.ending .noConnect).cleared))) ∧
  (∀ s : State, s.call.idleClear.isSome = true →
    let t : State := { s with call := { s.call with idleClear := none } }
    (s.station.mode ≠ .unattended → exec .idleClearExpiry s = .next (s.idleWatched t)) ∧
    (s.station.mode = .unattended → s.call.state = .connected →
      exec .idleClearExpiry s = .next (s.idleWatched (t.localClearTaken .idleClear))))

/-- R39, R40, R58, R106: an answerback request by the identity timer or by the host: outside CONNECTED nothing, with an
empty memory ANSWERBACK_EMPTY, else a run from its first code unless one is ACTIVE; ORDER BREAK and ORDER IDENTIFY. -/
def Obligations.RequestsOfTheTransmitter : Prop :=
  (∀ s : State,
    let granted (t : State) : State :=
      if t.answer.run = none then { t with answer := { t.answer with run := some 0 } } else t
    (s.call.identity.isSome = true →
      let t : State := { s with call := { s.call with identity := none } }
      exec .identityTimerExpiry s = .next (s.idleWatched
        (if s.call.state ≠ .connected then t
        else if s.answer.memory = [] then t.latch Cond.answerbackEmpty
        else granted t))) ∧
    (s.ready →
      exec .orderAnswerback s = .next (s.idleWatched
        (if s.call.state ≠ .connected then s.answered (.reject .state)
        else if s.answer.memory = [] then (s.latch Cond.answerbackEmpty).answered (.reject .range)
        else (granted s).answered .grant)))) ∧
  (∀ s : State, s.ready →
    (s.call.state ≠ .connected →
      exec .orderBreak s = .next (s.idleWatched (s.answered (.reject .state))) ∧
      exec .orderIdentify s = .next (s.idleWatched (s.answered (.reject .state)))) ∧
    (s.call.state = .connected →
      exec .orderBreak s = .next (s.idleWatched
        (State.answered { s with tx := { s.tx with breakPending := true } } .grant)) ∧
      ((∀ (sh : Shift) (n : Nat), n < 32 → (s.entryAt sh (BitVec.ofNat 5 n)).cls ≠ .ident) →
        exec .orderIdentify s = .next (s.idleWatched (s.answered (.reject .range)))) ∧
      ((∃ (sh : Shift) (n : Nat), n < 32 ∧ (s.entryAt sh (BitVec.ofNat 5 n)).cls = .ident) →
        exec .orderIdentify s = .next (s.idleWatched
          (State.answered
            { s with
              tx :=
                { s.tx with
                  identPending := if s.tx.identPending = none then some .byOrder else s.tx.identPending } }
            .grant)))))

/-- R56, R61 to R63, R65, R93, R101, R184: ORDER CLEAR in every call state; the clearing guard ends: the record is closed
and the call is FREE, a CALL_IN that stands being offered at once, by the station mode. An ARMED SEND channel that the clear ends
keeps its remaining count (the model's choice, log 19), and the sums of a window that CLEARING abandons are 0 at once (log 36);
where the offer goes on to CONNECTED, the identity exchange comes before the recorder test (log 22, DEDUCED). -/
def Obligations.EndsOfACall : Prop :=
  (∀ s : State, s.ready →
    (s.call.state = .free ∨ s.call.state = .refused ∨ s.call.state = .clearing →
      exec .orderClear s = .next (s.idleWatched (s.answered (.reject .state)))) ∧
    (s.call.state = .offered →
      exec .orderClear s = .next (s.idleWatched
        (State.answered { s with call := { s.call with state := .refused, answerDelay := none } } .grant))) ∧
    (s.call.state = .answering ∨ s.call.state = .calling →
      exec .orderClear s = .next (s.idleWatched ((s.ending .localClear).cleared.answered .grant))) ∧
    (s.call.state = .selecting → s.call.localClear = true →
      exec .orderClear s = .next (s.idleWatched (s.answered .grant))) ∧
    (s.call.state = .selecting → s.call.localClear = false →
      let t := s.ending .localClear
      let t : State := { t with call := { t.call with localClear := true }, tx := { t.tx with selection := [] } }
      exec .orderClear s = .next (s.idleWatched
        ((if s.inFlight = true then t else t.cleared).answered .grant))) ∧
    (s.call.state = .connected →
      exec .orderClear s = .next (s.idleWatched ((s.localClearTaken .localClear).answered .grant)))) ∧
  (∀ (s : State) (r : CallRecord) (o : CallOutcome), s.call.guard.isSome = true → s.call.state = .clearing →
    s.station.record = some r → r.outcome = some o →
    exec .clearingGuardExpiry s = .next (s.idleWatched
      (if s.pins.callIn = true then (s.freed r o).offered else s.freed r o)))

/-- R53: ORDER CALL: its two tests in order, then the record and CALLING (with LOOP_OK asserted, at once SELECTING, R54). -/
def Obligations.OrderCall : Prop :=
  ∀ (s : State) (list : List Byte), s.ready →
    let resolved (b : Byte) : Prop := b.toNat ≤ 127 ∧ s.hasResolution (b.setWidth 7) = true
    let cs : List IChar := list.map fun b => b.setWidth 7
    (s.call.state ≠ .free ∨ s.pins.callIn = true ∨ s.station.mode = .localMode →
      exec (.orderCall list) s = .next (s.idleWatched (s.answered (.reject .state)))) ∧
    (s.call.state = .free → s.pins.callIn = false → s.station.mode ≠ .localMode →
      (list = [] ∨ 16 < list.length ∨ (∃ b ∈ list, ¬resolved b) →
        exec (.orderCall list) s = .next (s.idleWatched (s.answered (.reject .range)))) ∧
      (list ≠ [] → list.length ≤ 16 → (∀ b ∈ list, resolved b) →
        let t : State := (s.recorded .outgoing cs).startCause
        exec (.orderCall list) s = .next (s.idleWatched
          (State.answered
            { t with
              tx := { t.tx with selection := cs }
              rx := if s.pins.loopOk = true then { t.rx with framing := .awaitMark } else t.rx
              call :=
                if s.pins.loopOk = true then { t.call with state := .selecting, proceed := none }
                else { t.call with state := .calling, proceed := some (288000 * s.cfg .proceedTimeout) } }
            .grant))))

/-! ## The keyboard and the bell -/

/-- R114 to R117: every position at a scan, the interval to the next scan, and STUCK_KEY. That each scan adds to the held time the
whole interval that ends at it, also where the scan is given early, is the model's reading (log 24, DEDUCED). -/
def Obligations.ScanOfEveryPosition : Prop :=
  ∀ (s : State) (closed : BitVec 64), s.kb.positions.length = 64 →
    ∃ t, exec (.keyboardScan closed) s = .next t ∧ t.pins.keys = closed ∧ t.kb.interval = s.cfg .scanPeriod ∧
      t.kb.scanTimer = some (288 * s.cfg .scanPeriod) ∧ t.kb.keymap = s.kb.keymap ∧
      (s.stuckCount = 0 → t.stuckCount ≠ 0 → t.cond.faults.getLsbD Cond.stuckKey = true) ∧
      ∀ (n : Nat) (k : KeyPos), s.kb.positions[n]? = some k →
        let up : KeyPos := { state := .up, count := 0, held := 0 }
        let down : KeyPos := { state := .down, count := 0, held := 0 }
        let held := k.held + s.kb.interval
        t.kb.positions[n]? = some
          (match k.state, closed.getLsbD n with
            | .up, false => up
            | .up, true => if s.cfg .pressDebounce ≤ 1 then down else { state := .pressing, count := 1, held := 0 }
            | .pressing, false => up
            | .pressing, true =>
              if s.cfg .pressDebounce ≤ k.count + 1 then down
              else { state := .pressing, count := k.count + 1, held := 0 }
            | .down, true | .releasing, true =>
              { state := if 1000 * s.cfg .stuckTimeout < held then .stuck else .down, count := 0, held := held }
            | .down, false =>
              if s.cfg .releaseDebounce ≤ 1 then up else { state := .releasing, count := 1, held := held }
            | .releasing, false =>
              if s.cfg .releaseDebounce ≤ k.count + 1 then up
              else { state := .releasing, count := k.count + 1, held := held }
            | .stuck, true => { state := .stuck, count := 0, held := held }
            | .stuck, false =>
              if s.cfg .releaseDebounce ≤ k.count + 1 then up
              else { state := .stuck, count := k.count + 1, held := held })

/-- R49, R50, R56, R61, R63, R106, R115, R118, R121 to R124, R128: what the press of one position does, whole, at the scan whose
closed reading completes its press debounce: the start cause, the operator flag with its notice, and the effect of its keymap
entry in every call state; and the end of a bell pulse. Where the ANSWER key leads on to CONNECTED, the identity exchange comes
before the recorder test (log 22, DEDUCED); an ARMED SEND channel that the CLEAR key ends keeps its remaining count (log 19), and
the sums of a window that CLEARING abandons are 0 at once (log 36). -/
def Obligations.KeyPressesAndBellPulseEnd : Prop :=
  ∀ s : State,
    exec .bellPulseEnd s = .next (s.idleWatched { s with bell := none }) ∧
    ∀ (closed : BitVec 64) (n : Nat) (k : KeyPos), s.kb.positions.length = 64 → s.kb.positions[n]? = some k →
      (k.state = .up ∧ s.cfg .pressDebounce ≤ 1) ∨ (k.state = .pressing ∧ s.cfg .pressDebounce ≤ k.count + 1) →
      closed.getLsbD n = true →
      (∀ (m : Nat) (j : KeyPos), m ≠ n → s.kb.positions[m]? = some j →
        j = { state := .up, count := 0, held := 0 } ∧ closed.getLsbD m = false) →
      let entry : KeyEntry := s.kb.keymap.getD n .none
      let told : Prop := s.station.mode = .unattended ∧ s.kb.operatorFlag = true
      let pressed : State :=
        { s.startCause with
          pins := { s.pins with keys := closed }
          kb :=
            { s.kb with
              positions := s.kb.positions.set n { state := .down, count := 0, held := 0 }
              interval := s.cfg .scanPeriod, scanTimer := some (288 * s.cfg .scanPeriod)
              operatorFlag := if told then false else s.kb.operatorFlag }
          link :=
            if told then { s.link with notices := putNotice (.operator n entry s.call.state) s.link.notices }
            else s.link }
      let noted (key : Nat) : State :=
        { pressed with link := { pressed.link with notices := putNotice (.key key n) pressed.link.notices } }
      exec (.keyboardScan closed) s = .next (s.idleWatched
        (match entry with
          | .none => pressed
          | .char c =>
            if s.call.state = .clearing ∨ s.hasResolution c = false ∨ 32 ≤ s.kb.queue.length then
              { pressed with bell := s.bellRung }
            else { pressed with kb := { pressed.kb with queue := s.kb.queue ++ [c] } }
          | .function .fkey1 => noted 1
          | .function .fkey2 => noted 2
          | .function .fkey3 => noted 3
          | .function .fkey4 => noted 4
          | .function .brk =>
            if s.call.state = .connected then { pressed with tx := { s.tx with breakPending := true } } else pressed
          | .function .hereIs =>
            if s.call.state ≠ .connected then pressed
            else if s.answer.memory = [] then pressed.latch Cond.answerbackEmpty
            else if s.answer.run = none then { pressed with answer := { s.answer with run := some 0 } }
            else pressed
          | .function .answer => if s.call.state = .offered then pressed.answerBegun else pressed
          | .function .clear =>
            match s.call.state with
            | .free | .refused | .clearing => pressed
            | .offered => pressed.refused
            | .answering | .calling => (pressed.ending .localClear).cleared
            | .selecting =>
              let u := pressed.ending .localClear
              let u : State :=
                { u with call := { u.call with localClear := true }, tx := { u.tx with selection := [] } }
              if s.call.localClear = true then pressed else if s.inFlight = true then u else u.cleared
            | .connected => pressed.localClearTaken .localClear))

/-! ## The page printer -/

/-- R73, R134 to R137, R139, R141 to R144, R146, R147: the printer takes the oldest entry owed to it, a marked one with its gap
strike first; with the motor not RUNNING, a halt cause live or nothing owed it takes nothing. A local clear that the recorder
test begins keeps the remaining count of SEND (log 19) and sets the sums of an abandoned window to 0 (log 36), the model's
choices. -/
def Obligations.PrinterTakesAnEntry : Prop :=
  ∀ (s : State) (home : Bool),
    (s.printer.state ≠ .idle ∨ s.motor.state ≠ .running ∨ s.pins.paperOut = true ∨ s.pins.headHot = true ∨
        s.nextFor .print = none →
      exec (.printerTakeEntry home) s = .next (s.idleWatched s)) ∧
    ∀ (i : Nat) (e : Entry), s.printer.state = .idle → s.motor.state = .running → s.pins.paperOut = false →
      s.pins.headHot = false → s.printer.aborted = none → s.nextFor .print = some (i, e) →
      let taken : State :=
        { s with
          pins := { s.pins with home := home }
          store := { s.store with cursors := { s.store.cursors with print := i } }
          printer := { s.printer with state := .busy } }
      let busy (a : PrinterAction) (rest : List PrinterPart) (time : Nat) : State :=
        { taken with
          printer := { taken.printer with op := some { action := a, rest := rest }, timer := some time } }
      let limit := 288 * s.cfg .responseLimit
      let step := 288000 / s.cfg .stepRate
      let substitute : IChar := BitVec.ofNat 7 (s.cfg .substituteSymbol)
      let gap : IChar := BitVec.ofNat 7 (s.cfg .gapSymbol)
      let shown : IChar := if e.mutilated = true ∨ e.cls = .unassigned then substitute else e.char
      let own : PrinterPart :=
        if e.mutilated = true then .strike substitute
        else match e.cls with
          | .print => .strike e.char
          | .unassigned => .strike substitute
          | .space => .space
          | .cr => .slew
          | .lf => .feed
          | .bell => .bell
          | .ltrs | .figs | .ident | .null => .silent
      let slew : Slew :=
        { size := s.cfg .stepSize, stepTime := step, len := min (s.cfg .stepSize) (s.printer.column - 1)
          extra := 0 }
      let wraps : Prop := s.cfg .overflow = 1 ∧ s.cfg .width < s.printer.column
      let limited : Nat := s.cfg .width + (if s.cfg .overflow = 1 then 1 else 0)
      (e.gapBefore = true →
        (¬wraps → exec (.printerTakeEntry home) s = .next (s.idleWatched (busy (.strike gap) [own] limit))) ∧
        (wraps → exec (.printerTakeEntry home) s = .next (s.idleWatched (busy (.slew slew (some gap)) [own] step)))) ∧
      (e.gapBefore = false → (e.mutilated = true ∨ e.cls = .print ∨ e.cls = .unassigned) →
        (¬wraps → exec (.printerTakeEntry home) s = .next (s.idleWatched (busy (.strike shown) [] limit))) ∧
        (wraps → exec (.printerTakeEntry home) s = .next (s.idleWatched (busy (.slew slew (some shown)) [] step)))) ∧
      (e.gapBefore = false → e.mutilated = false → e.cls = .lf →
        exec (.printerTakeEntry home) s = .next (s.idleWatched (busy (.feed none) [] limit))) ∧
      (e.gapBefore = false → e.mutilated = false → e.cls = .cr →
        (1 < s.printer.column →
          exec (.printerTakeEntry home) s = .next (s.idleWatched (busy (.slew slew none) [] step))) ∧
        (s.printer.column ≤ 1 → home = false →
          exec (.printerTakeEntry home) s = .next (s.idleWatched
            (busy (.slew { slew with len := 1, extra := 1 } none) [] step))) ∧
        (s.printer.column ≤ 1 → home = true →
          exec (.printerTakeEntry home) s = .next (s.idleWatched
            (State.operationEnded { taken with printer := { taken.printer with column := 1 } })))) ∧
      (e.gapBefore = false → e.mutilated = false → e.cls = .space →
        (s.printer.column < limited →
          exec (.printerTakeEntry home) s = .next (s.idleWatched (busy .space [] step))) ∧
        (limited ≤ s.printer.column →
          exec (.printerTakeEntry home) s = .next (s.idleWatched taken.operationEnded))) ∧
      (e.gapBefore = false → e.mutilated = false →
        (e.cls = .ltrs ∨ e.cls = .figs ∨ e.cls = .ident ∨ e.cls = .null →
          exec (.printerTakeEntry home) s = .next (s.idleWatched taken.operationEnded)) ∧
        (e.cls = .bell →
          exec (.printerTakeEntry home) s = .next (s.idleWatched
            (State.operationEnded { taken with bell := s.bellRung }))))

/-- R136 to R140, R142, R144: the end of a strike: the column, the margin bell, then the cooling pause, the entry's own
operation after a gap strike, or the completion; the end of a cooling pause; the end of a paper feed, that of a wrap followed by
its strike. A completion with the off request set ends in OFF; one under a halt cause in HALTED, or at once in OUT at a halt
grace of 0 (R149, R150). That a SPACE or CR after its gap strike reads the step rate, the step size and its limit as it begins
(R154) is the model's choice (log 45). A local clear that the recorder test begins keeps the remaining count of SEND (log 19)
and sets the sums of an abandoned window to 0 (log 36), the model's choices. -/
def Obligations.StrikesAndFeeds : Prop :=
  (∀ (s : State) (c : IChar),
    let goesOn (t : State) : List PrinterPart → State
      | [p] => t.partBegun p
      | _ => t.operationEnded
    (∀ rest, s.printer.op = some { action := .strike c, rest := rest } → s.pins.headWarm = true →
      s.cfg .coolingPause ≠ 0 →
      exec .strikeDone s = .next (s.idleWatched
        { s.struck with
          printer :=
            { s.struck.printer with
              op := some { action := .cooling, rest := rest }, timer := some (288 * s.cfg .coolingPause) } })) ∧
    (s.owes .print →
      ∀ rest : List PrinterPart, rest.length ≤ 1 →
        (s.printer.op = some { action := .strike c, rest := rest } →
          (s.pins.headWarm = false ∨ s.cfg .coolingPause = 0) →
          exec .strikeDone s = .next (s.idleWatched (goesOn s.struck rest))) ∧
        (s.printer.op = some { action := .cooling, rest := rest } →
          exec .coolingPauseEnd s = .next (s.idleWatched (goesOn s rest)))) ∧
    ((∀ a rest, s.printer.op ≠ some { action := .strike a, rest := rest }) →
      exec .strikeDone s = .next (s.idleWatched s))) ∧
  (∀ s : State,
    let t : State :=
      { s with
        station :=
          { s.station with
            record := s.station.record.map fun r => { r with linesPrinted := counted r.linesPrinted } } }
    (s.owes .print → s.printer.op = some { action := .feed none, rest := [] } →
      exec .feedDone s = .next (s.idleWatched t.operationEnded)) ∧
    (∀ c rest, s.printer.op = some { action := .feed (some c), rest := rest } →
      exec .feedDone s = .next (s.idleWatched
        { t with
          printer :=
            { s.printer with
              op := some { action := .strike c, rest := rest }, timer := some (288 * s.cfg .responseLimit) } })) ∧
    ((∀ a rest, s.printer.op ≠ some { action := .feed a, rest := rest }) →
      exec .feedDone s = .next (s.idleWatched s)))

/-- R89, R91, R92, R137, R142, R145, R150: a strike or feed past the response limit latches PRINTER_JAM and takes the printer to
OUT with the jam hold; the halt grace expires in HALTED: OUT without it. Either way PRINTER_LOST, the stored entries diverted to
an attached punch in UNATTENDED mode, then released, and the recorder test (`State.printerLost`). A local clear that the
recorder test begins keeps the remaining count of SEND (log 19) and sets the sums of an abandoned window to 0 (log 36), the
model's choices. -/
def Obligations.PrinterLost : Prop :=
  (∀ (s : State) (a : PrinterAction) (rest : List PrinterPart), s.printer.op = some { action := a, rest := rest } →
    ((∃ c, a = .strike c) ∨ ∃ c, a = .feed c) →
    exec .printerResponseLimitExpiry s = .next (s.idleWatched ((s.latch Cond.printerJam).printerLost true))) ∧
  (∀ s : State, s.printer.state = .halted → s.printer.haltGrace.isSome = true →
    exec .printerHaltGraceExpiry s = .next (s.idleWatched (s.printerLost false)))

/-- R89, R92, R139, R141, R144, R146 to R148: the end of a carriage step: of a SPACE; of a slew, that of a wrap followed by its
feed, one that does not find HOME jammed; of an aborted slew. A completion with the off request set ends in OFF; one under a
halt cause in HALTED, or at once in OUT at a halt grace of 0 (R149, R150). A local clear that the recorder test begins keeps the
remaining count of SEND (log 19) and sets the sums of an abandoned window to 0 (log 36), the model's choices. -/
def Obligations.CarriageStepEnd : Prop :=
  ∀ (s : State) (home : Bool),
    let seen : State := { s with pins := { s.pins with home := home } }
    (∀ len, s.printer.aborted = some len →
      exec (.carriageStepEnd home) s = .next (s.idleWatched
        { seen with
          printer :=
            { s.printer with column := s.printer.column - len, aborted := none, timer := none } })) ∧
    (s.printer.aborted = none → s.owes .print →
      s.printer.op = some { action := .space, rest := [] } →
      exec (.carriageStepEnd home) s = .next (s.idleWatched
        (State.operationEnded { seen with printer := { s.printer with column := s.printer.column + 1 } }))) ∧
    ∀ (w : Slew) (thenStrike : Option IChar) (rest : List PrinterPart), s.printer.aborted = none →
      s.printer.op = some { action := .slew w thenStrike, rest := rest } →
      let column := if w.extra = 0 then s.printer.column - w.len else s.printer.column
      let next (w : Slew) : State :=
        { seen with
          printer :=
            { s.printer with
              column := column
              op := some { action := .slew w thenStrike, rest := rest }
              timer := some w.stepTime } }
      (home = true → ∀ c, thenStrike = some c →
        exec (.carriageStepEnd home) s = .next (s.idleWatched
          { seen with
            printer :=
              { s.printer with
                column := 1
                op := some { action := .feed (some c), rest := rest }
                timer := some (288 * s.cfg .responseLimit) } })) ∧
      (home = true → thenStrike = none → rest = [] → s.owes .print →
        exec (.carriageStepEnd home) s = .next (s.idleWatched
          (State.operationEnded { seen with printer := { s.printer with column := 1 } }))) ∧
      (home = false → w.extra = 0 → 1 < column →
        exec (.carriageStepEnd home) s = .next (s.idleWatched (next { w with len := min w.size (column - 1) }))) ∧
      (home = false → (w.extra = 0 → column ≤ 1) → w.extra < 4 →
        exec (.carriageStepEnd home) s = .next (s.idleWatched
          (next { w with len := 1, extra := w.extra + 1 }))) ∧
      (home = false → w.extra = 4 →
        exec (.carriageStepEnd home) s = .next (s.idleWatched ((seen.latch Cond.printerJam).printerLost true)))

/-- R89, R91, R133, R149 to R151, R205, R206: a change of a halt cause in IDLE, HALTED and OUT, and of HEAD_WARM; in BUSY, OFF
and jam-OUT the printer does not act on it. With the halt grace at 0 the entry to HALTED goes on to OUT at once
(`State.haltBegun`). A HEAD_WARM that names the standing level changes nothing (log 28, DEDUCED). A local clear that the
recorder test begins keeps the remaining count of SEND (log 19) and sets the sums of an abandoned window to 0 (log 36), the
model's choices. -/
def Obligations.HaltCausesAndHeadWarm : Prop :=
  ∀ (s : State) (paperOut headHot headWarm : Bool),
    let t : State :=
      ({ s with pins := { s.pins with paperOut := paperOut, headHot := headHot } }.latchIf
          (paperOut && !s.pins.paperOut) Cond.paperOut).latchIf (headHot && !s.pins.headHot) Cond.headHot
    (¬(paperOut = s.pins.paperOut ∧ headHot = s.pins.headHot) →
      exec (.haltCauseChange paperOut headHot) s = .next (s.idleWatched
        (match s.printer.state with
          | .idle =>
            if paperOut = true ∨ headHot = true then t.haltBegun else t
          | .halted =>
            if paperOut = true ∨ headHot = true then t
            else { t with printer := { s.printer with state := .idle, haltGrace := none } }
          | .out =>
            if paperOut = true ∨ headHot = true ∨ s.printer.jamHold = true then t
            else
              { t with
                printer := { s.printer with state := .idle }
                store :=
                  { s.store with cursors := { s.store.cursors with print := s.store.entries.length } } }
          | .busy | .off => t))) ∧
    exec (.headWarmChange headWarm) s = .next (s.idleWatched
      ({ s with pins := { s.pins with headWarm := headWarm } }.latchIf (headWarm && !s.pins.headWarm)
        Cond.headWarm))

/-- R89, R92, R148 to R150, R152, R153: ORDER PRINTER OFF and ORDER PRINTER ON by the printer's state, ON under a halt cause
going on to OUT at once at a halt grace of 0 (`State.haltBegun`); an OFF that releases the entries is an occasion of the
recorder test. A local clear that the recorder test begins keeps the remaining count of SEND (log 19) and sets the sums of an
abandoned window to 0 (log 36), the model's choices. -/
def Obligations.OrdersToThePrinter : Prop :=
  (∀ s : State, s.ready →
    (s.printer.state = .idle ∨ s.printer.state = .halted →
      exec .orderPrinterOff s = .next (s.idleWatched
        (State.answered
          (State.recorderTested
            { s with
              printer := { s.printer with state := .off, haltGrace := none }, store := s.storeWithout .print })
          .grant))) ∧
    (s.printer.state = .busy → s.printer.offRequest = true →
      exec .orderPrinterOff s = .next (s.idleWatched (s.answered .grant))) ∧
    (s.printer.state = .busy → s.printer.offRequest = false →
      (∀ w strike rest, s.printer.op = some { action := .slew w strike, rest := rest } →
        exec .orderPrinterOff s = .next (s.idleWatched
          (State.answered
            (State.recorderTested
              { s with
                printer :=
                  { s.printer with
                    state := .off, op := none, aborted := some (if w.extra = 0 then w.len else 0) }
                store := s.storeWithout .print })
            .grant))) ∧
      ((∀ w strike rest, s.printer.op ≠ some { action := .slew w strike, rest := rest }) →
        exec .orderPrinterOff s = .next (s.idleWatched
          (State.answered { s with printer := { s.printer with offRequest := true } } .grant)))) ∧
    (s.printer.state = .out →
      exec .orderPrinterOff s = .next (s.idleWatched
        (State.answered { s with printer := { s.printer with state := .off, jamHold := false } } .grant))) ∧
    (s.printer.state = .off → exec .orderPrinterOff s = .next (s.idleWatched (s.answered .grant)))) ∧
  (∀ s : State, s.ready →
    (s.printer.state = .off ∨ (s.printer.state = .out ∧ s.printer.jamHold = true) →
      let back : State :=
        { s with
          printer := { s.printer with state := .idle, jamHold := false }
          store := { s.store with cursors := { s.store.cursors with print := s.store.entries.length } } }
      exec .orderPrinterOn s = .next (s.idleWatched
        (State.answered
          (if s.pins.paperOut = true ∨ s.pins.headHot = true then back.haltBegun else back) .grant))) ∧
    (s.printer.state = .out → s.printer.jamHold = false →
      exec .orderPrinterOn s = .next (s.idleWatched (s.answered (.reject .state)))) ∧
    (s.printer.state = .idle ∨ s.printer.state = .busy ∨ s.printer.state = .halted →
      exec .orderPrinterOn s = .next (s.idleWatched (s.answered .grant))))

/-! ## The punch and the motor -/

/-- R73, R89, R92, R164 to R166, R171, R172: the punch takes the leader first, else the oldest entry owed to it; PUNCH_DONE with
tape left after it: the count, *punched*, and what follows, OFF where the off request is set; ignored with nothing in flight. A
local clear that the recorder test begins keeps the remaining count of SEND (log 19) and sets the sums of an abandoned window to
0 (log 36), the model's choices. -/
def Obligations.PunchWorks : Prop :=
  (∀ s : State,
    let started (t : State) (op : PunchOp) : State :=
      { t with
        punch :=
          { t.punch with state := .busy, op := some op, timer := some (288 * s.cfg .responseLimit) } }
    (s.punch.state ≠ .idle ∨ s.motor.state ≠ .running ∨ (s.punch.leader = 0 ∧ s.nextFor .punch = none) →
      exec .punchTakeWork s = .next (s.idleWatched s)) ∧
    (s.punch.state = .idle → s.motor.state = .running →
      (s.punch.leader ≠ 0 → exec .punchTakeWork s = .next (s.idleWatched (started s .leader))) ∧
      (∀ (i : Nat) (e : Entry), s.punch.leader = 0 → s.nextFor .punch = some (i, e) →
        exec .punchTakeWork s = .next (s.idleWatched
          (started { s with store := { s.store with cursors := { s.store.cursors with punch := i } } }
            (.entry (if e.gapBefore = true then s.cfg .gapMarkerCount else 0)
              (BitVec.ofNat 5 (s.cfg .gapMarkerCode)) e.code)))))) ∧
  (∀ s : State,
    let t : State :=
      { s with
        punch := { s.punch with tape := s.punch.tape - 1, timer := none }
        station :=
          { s.station with record := s.station.record.map fun r => { r with punched := counted r.punched } } }
    let limit : Timer := some (288 * s.cfg .responseLimit)
    let off (u : State) : State :=
      State.recorderTested
        { u with
          punch := { u.punch with state := .off, op := none, timer := none, leader := 0, offRequest := false }
          store := u.storeWithout .punch }
    (s.punch.op = none → exec .punchDone s = .next (s.idleWatched s)) ∧
    (2 ≤ s.punch.tape →
      (∀ m c, s.punch.op = some (.entry 0 m c) → s.owes .punch →
        let u : State := { t with store := s.storeAfter .punch }
        exec .punchDone s = .next (s.idleWatched
          (if s.punch.offRequest = true then off u
          else { u with punch := { t.punch with state := .idle, op := none } }))) ∧
      (∀ n m c, s.punch.op = some (.entry (n + 1) m c) →
        exec .punchDone s = .next (s.idleWatched
          { t with punch := { t.punch with state := .busy, op := some (.entry n m c), timer := limit } })) ∧
      (s.punch.op = some .leader →
        exec .punchDone s = .next (s.idleWatched
          (if s.punch.offRequest = true then off t
          else if 2 ≤ s.punch.leader then
            { t with
              punch :=
                { t.punch with
                  state := .busy, op := some .leader, leader := s.punch.leader - 1, timer := limit } }
          else { t with punch := { t.punch with state := .idle, op := none, leader := 0 } })))))

/-- R89, R92, R166 to R171: a jam, and the last code of the tape, or a code punched after the count has come to 0 (a gap marker,
the entry's own code, which is consumed first, or a leader code): OUT, the entries released, PUNCH_LOST, and the recorder test.
A code punched at a count of 0 counts in *punched* and latches TAPE_OUT no second time (log 31, DEDUCED). The tape count at
ORDER TAPE LOADED and at a change of TAPE_LOW, which naming the standing level changes nothing (log 28, DEDUCED). A local clear
that the recorder test begins keeps the remaining count of SEND (log 19) and sets the sums of an abandoned window to 0 (log 36),
the model's choices. -/
def Obligations.PunchLostAndTapeCount : Prop :=
  (∀ s : State,
    (s.punch.op.isSome = true →
      exec .punchResponseLimitExpiry s = .next (s.idleWatched ((s.latch Cond.punchJam).punchLost true))) ∧
    (s.punch.tape ≤ 1 →
      let t : State :=
        State.latchIf (s.punch.tape == 1) Cond.tapeOut
          { s with
            punch := { s.punch with tape := 0 }
            station :=
              { s.station with record := s.station.record.map fun r => { r with punched := counted r.punched } } }
      ((∃ n m c, s.punch.op = some (.entry (n + 1) m c)) ∨ s.punch.op = some .leader →
        exec .punchDone s = .next (s.idleWatched (t.punchLost false))) ∧
      (∀ m c, s.punch.op = some (.entry 0 m c) → s.owes .punch →
        exec .punchDone s = .next (s.idleWatched
          (State.punchLost false { t with store := s.storeAfter .punch }))))) ∧
  (∀ (s : State) (n : BitVec 16) (low : Bool),
    let count := if s.pins.tapeLow = true then min n.toNat (s.cfg .tapeLowReserve) else n.toNat
    (s.ready →
      (n = 0 → exec (.orderTapeLoaded n) s = .next (s.idleWatched (s.answered (.reject .range)))) ∧
      (n ≠ 0 → count = 0 → exec (.orderTapeLoaded n) s = .next (s.idleWatched (s.tapeEmptied.answered .grant))) ∧
      (count ≠ 0 →
        exec (.orderTapeLoaded n) s = .next (s.idleWatched
          (State.answered
            (if s.punch.state = .off ∨ (s.punch.state = .out ∧ s.punch.jamHold = false) then
              { s with
                punch := { s.punch with tape := count, state := .idle, jamHold := false }
                store := { s.store with cursors := { s.store.cursors with punch := s.store.entries.length } } }
            else { s with punch := { s.punch with tape := count } })
            .grant)))) ∧
    (low = s.pins.tapeLow → exec (.tapeLowChange low) s = .next (s.idleWatched s)) ∧
    (low = false → s.pins.tapeLow = true →
      exec (.tapeLowChange low) s = .next (s.idleWatched { s with pins := { s.pins with tapeLow := false } })) ∧
    (low = true → s.pins.tapeLow = false →
      let u : State := State.latch Cond.tapeLow { s with pins := { s.pins with tapeLow := true } }
      exec (.tapeLowChange low) s = .next (s.idleWatched
        u.tapeCut)))

/-- R89, R92, R171 to R173: ORDER PUNCH LEADER, OFF and ON by the punch's state; an OFF that releases the entries is an occasion
of the recorder test. That a leader of 0 codes is answered RANGE also where the punch's state refuses it is the model's choice
(log 41). A local clear that the recorder test begins keeps the remaining count of SEND (log 19) and sets the sums of an
abandoned window to 0 (log 36), the model's choices. -/
def Obligations.OrdersToThePunch : Prop :=
  ∀ (s : State) (n : Byte), s.ready →
    (n = 0 → exec (.orderPunchLeader n) s = .next (s.idleWatched (s.answered (.reject .range)))) ∧
    (n ≠ 0 → (s.punch.state = .out ∨ s.punch.state = .off ∨ s.punch.tape = 0) →
      exec (.orderPunchLeader n) s = .next (s.idleWatched (s.answered (.reject .state)))) ∧
    (n ≠ 0 → (s.punch.state = .idle ∨ s.punch.state = .busy) → s.punch.tape ≠ 0 →
      exec (.orderPunchLeader n) s = .next (s.idleWatched
        (State.answered
          { s.startCause with punch := { s.punch with leader := min (s.punch.leader + n.toNat) 65535 } } .grant))) ∧
    exec .orderPunchOff s = .next (s.idleWatched
      (State.answered
        (match s.punch.state with
          | .idle =>
            State.recorderTested
              { s with
                punch :=
                  { s.punch with state := .off, op := none, timer := none, leader := 0, offRequest := false }
                store := s.storeWithout .punch }
          | .busy => { s with punch := { s.punch with offRequest := true } }
          | .out => { s with punch := { s.punch with state := .off, jamHold := false, leader := 0 } }
          | .off => s)
        .grant)) ∧
    exec .orderPunchOn s = .next (s.idleWatched
      (if s.punch.state = .idle ∨ s.punch.state = .busy then s.answered .grant
      else if s.punch.tape = 0 ∨ (s.punch.state = .out ∧ s.punch.jamHold = false) then
        s.answered (.reject .state)
      else
        State.answered
          { s with
            punch := { s.punch with state := .idle, jamHold := false }
            store := { s.store with cursors := { s.store.cursors with punch := s.store.entries.length } } }
          .grant))

/-- R158 to R161: the motor's start causes (here ORDER MOTOR START), its two timers and ORDER MOTOR STOP. A start cause at an
idle stop setting of 0 stops the running timer (log 20, DEDUCED); the last step of an aborted slew is an operation in flight
(log 13). -/
def Obligations.Motor : Prop :=
  ∀ s : State,
    (s.ready →
      exec .orderMotorStart s = .next (s.idleWatched
        (State.answered
          (match s.motor.state with
            | .stopped =>
              { s with motor := { s.motor with state := .runup, runUp := some (288 * s.cfg .runUp) } }
            | .runup => s
            | .running =>
              { s with
                motor :=
                  { s.motor with
                    idleStop := if s.motor.idleStop = none then none else secondsOrOff (s.cfg .idleStop) } })
          .grant)) ∧
      exec .orderMotorStop s = .next (s.idleWatched
        (if s.call.state = .free ∧ (∀ e ∈ s.store.entries, e.pending.print = false ∧ e.pending.punch = false) ∧
            s.printer.op = none ∧ s.printer.aborted = none ∧ s.punch.op = none ∧ s.punch.leader = 0 then
          State.answered { s with motor := { state := .stopped, runUp := none, idleStop := none } } .grant
        else s.answered (.reject .state)))) ∧
    (s.motor.state = .runup → s.motor.runUp.isSome = true →
      exec .runUpExpiry s = .next (s.idleWatched
        { s with motor := { s.motor with state := .running, runUp := none } })) ∧
    (s.motor.state = .running → s.motor.idleStop.isSome = true →
      exec .idleStopExpiry s = .next (s.idleWatched
        { s with motor := { s.motor with state := .stopped, idleStop := none } }))

/-! ## The host link -/

/-- R190: the check register, the frame that its CHECK byte makes good or bad, REJECT CHECK with no other effect, and the
check of a frame that the part sends. -/
def Obligations.FrameCheck : Prop :=
  let shifted (r : BitVec 8) : BitVec 8 := if r.msb then (r <<< 1) ^^^ 0x4D else r <<< 1
  frameCheck [] = 0xFF ∧
  (∀ (bs : List Byte) (b : Byte), frameCheck (bs ++ [b]) =
    shifted (shifted (shifted (shifted (shifted (shifted (shifted (shifted (frameCheck bs ^^^ b)))))))) ) ∧
  (∀ (kind check : Byte) (body : List Byte), body.length ≤ 64 →
    let inner : List Byte := kind :: BitVec.ofNat 8 body.length :: body
    (check = frameCheck inner →
      frameCommands (0xA5 :: inner ++ [check]) = [frameCommand kind body]) ∧
    (check ≠ frameCheck inner → frameCommands (0xA5 :: inner ++ [check]) = [.frameBadCheck])) ∧
  (∀ s : State, s.ready →
    exec .frameBadCheck s = .next (s.idleWatched
      { s with link := { s.link with rx := .hunt, gap := none, replies := s.link.replies ++ [.reject .check] } })) ∧
  ∀ f : OutFrame, f.bytes.getLast? = some (frameCheck ((f.bytes.drop 1).dropLast))

/-- R189, R191, R193, R196: frames that are refused whole, and frames dropped without reply; the frame receiver byte by byte: the
bits of a byte and the byte error, the start bit that ends a gap, what the end of a byte leads to, and the gap of more than
50 ms. The bytes stand in the model's own queue of HOST_RX, and the command of a frame waits in the queue (log 39). -/
def Obligations.RefusedAndDroppedFrames : Prop :=
  (∀ (s : State) (first : Byte) (bytes : List Byte),
    let hunting : Link := { s.link with rx := .hunt, gap := none }
    (s.ready →
      exec .frameBadLength s = .next (s.idleWatched
        { s with link := { hunting with replies := s.link.replies ++ [.reject .length] } }) ∧
      exec .frameUnknownKind s = .next (s.idleWatched (s.answered (.reject .kind))) ∧
      exec (.orderUnknownCode bytes) s = .next (s.idleWatched (s.answered (.reject .range))) ∧
      exec (.writeUnknownTable bytes) s = .next (s.idleWatched (s.answered (.reject .range))) ∧
      exec (.writeLog first bytes) s = .next (s.idleWatched (s.answered (.reject .range)))) ∧
    exec .frameGapTimeout s = .next (s.idleWatched { s with link := hunting }) ∧
    exec .frameByteError s = .next (s.idleWatched { s with link := hunting })) ∧
  (∀ b : Byte, (linkBits b).getLsbD 0 = false ∧ (linkBits b).getLsbD 9 = true ∧
    (∀ k, k < 8 → (linkBits b).getLsbD (k + 1) = b.getLsbD k)) ∧
  (∀ bits : BitVec 9, linkByte bits = if bits.getLsbD 8 = true then some (bits.setWidth 8) else none) ∧
  byteUnits 0 * 9600 = 10 * 288000 ∧ byteUnits 1 * 19200 = 10 * 288000 ∧ byteUnits 2 * 38400 = 10 * 288000 ∧
  byteUnits 3 * 115200 = 10 * 288000 ∧
  (∀ (s : State) (w : LinkByte) (rest : List LinkByte), s.pins.reset = false → s.hostRx.bytes = w :: rest →
    (s.hostRx.timer = none → w.idle ≠ 0 →
      s.tick.hostRx = { bytes := { w with idle := w.idle - 1 } :: rest, timer := none } ∧
        s.tick.link.gap = s.link.gap.map (· - 1) ∧ s.tick.link.rx = s.link.rx ∧ s.tick.pending = s.pending) ∧
    (s.hostRx.timer = none → w.idle = 0 →
      s.tick.hostRx = { bytes := w :: rest, timer := some (byteUnits s.link.rateStrap - 1) } ∧
        s.tick.link.gap = none ∧ s.tick.link.rx = s.link.rx ∧ s.tick.pending = s.pending) ∧
    (∀ n, s.hostRx.timer = some (n + 2) →
      s.tick.hostRx = { bytes := w :: rest, timer := some (n + 1) } ∧ s.tick.link.rx = s.link.rx ∧
        s.tick.pending = s.pending) ∧
    (s.hostRx.timer = some 1 →
      let ended : FrameRx × List Instr :=
        if s.link.resetPending = true ∨ s.link.busy = 65535 then (.hunt, [])
        else match s.link.rx, linkByte w.bits with
          | .hunt, some b => (if b = 0xA5 then .kind else .hunt, [])
          | .hunt, none => (.hunt, [])
          | .kind, some kind => (.len kind, [])
          | .len kind, some n =>
            if 64 < n.toNat then (.hunt, [.frameBadLength])
            else if n = 0 then (.check kind [], [])
            else (.body kind n.toNat [], [])
          | .body kind n stored, some b =>
            if n ≤ stored.length + 1 then (.check kind (stored ++ [b]), []) else (.body kind n (stored ++ [b]), [])
          | .check kind body, some b =>
            if b = frameCheck (kind :: BitVec.ofNat 8 body.length :: body) then (.hunt, [frameCommand kind body])
            else (.hunt, [.frameBadCheck])
          | _, none => (.hunt, [.frameByteError])
      s.tick.hostRx = { bytes := rest, timer := none } ∧ s.tick.link.rx = ended.1 ∧
        s.tick.link.gap = (if ended.1 = .hunt then none else some (288 * 50 + 1)) ∧
        s.tick.pending = s.pending ++ ended.2)) ∧
  (∀ s : State, s.link.rx ≠ .hunt → s.link.gap = some 0 → some .frameGapTimeout ∈ s.dueEvents)

/-- R178, R180, R191, R196: a good frame that finds no place for its reply is answered REJECT BUSY and does nothing but end the
silence; between ORDER RESET and its reset none is taken. -/
def Obligations.BusyAndDeafReceiver : Prop :=
  ∀ (c : Instr) (s : State), goodFrame c = true →
    (s.link.resetPending = true → exec c s = .next (s.idleWatched s)) ∧
    (s.link.resetPending = false → s.link.busy < 65535 → (s.link.busy ≠ 0 ∨ 8 ≤ s.link.replies.length) →
      exec c s = .next (s.idleWatched
        { s with
          link := { s.link with rx := .hunt, gap := none, busy := s.link.busy + 1 }
          station :=
            { s.station with
              hostSilent := false, watchdog := secondsOrOff (s.cfg .hostWatchdog) } }))

/-- R4, R14, R83, R92, R97, R193: whole entries inside the TRANSLATE, ROUTE or SEQUENCE table replace those they address;
TRANSLATE is locked (R14); a frame past the table's end, one that is empty or no whole number of entries, and one with a field
outside its values are out of range; a write of ROUTE index 2 is an occasion of the recorder test. A local clear that the
recorder test begins keeps the remaining count of SEND (log 19) and sets the sums of an abandoned window to 0 (log 36), the
model's choices. -/
def Obligations.WriteTranslateRouteSequence : Prop :=
  ∀ (s : State) (first : Byte), s.ready →
    let put {α : Type} (es t : List α) : List α := t.take first.toNat ++ es ++ t.drop (first.toNat + es.length)
    let locked : Prop := s.call.state ≠ .free ∨ s.kb.queue ≠ [] ∨ s.link.send.queue ≠ []
    (∀ es : List TransEntry, es ≠ [] →
      let data := es.flatMap TransEntry.bytes
      (locked → exec (.writeTranslate first data) s = .next (s.idleWatched (s.answered (.reject .state)))) ∧
      (¬locked → 64 < first.toNat + es.length →
        exec (.writeTranslate first data) s = .next (s.idleWatched (s.answered (.reject .range)))) ∧
      (¬locked → first.toNat + es.length ≤ 64 →
        exec (.writeTranslate first data) s = .next (s.idleWatched
          (State.answered { s with translate := put es s.translate } .grant)))) ∧
    (∀ data : List Byte,
      (locked → exec (.writeTranslate first data) s = .next (s.idleWatched (s.answered (.reject .state)))) ∧
      (¬locked →
        data = [] ∨ data.length % 2 ≠ 0 ∨
          (∃ i b, data[i]? = some b ∧ (if i % 2 = 0 then 127 else 9) < b.toNat) →
        exec (.writeTranslate first data) s = .next (s.idleWatched (s.answered (.reject .range)))) ∧
      (data = [] ∨ (∃ b ∈ data, 15 < b.toNat) →
        exec (.writeRoute first data) s = .next (s.idleWatched (s.answered (.reject .range)))) ∧
      (data = [] ∨ data.length % 11 ≠ 0 ∨
          (∃ i b, data[i]? = some b ∧
            (if i % 11 = 0 then 8 < b.toNat
            else if i % 11 ≤ 8 then 127 < b.toNat
            else if i % 11 = 9 then 6 < b.toNat
            else b &&& 0x78 ≠ 0)) →
        exec (.writeSequence first data) s = .next (s.idleWatched (s.answered (.reject .range))))) ∧
    (∀ es : List RouteEntry, es ≠ [] →
      let data := es.flatMap RouteEntry.bytes
      (12 < first.toNat + es.length →
        exec (.writeRoute first data) s = .next (s.idleWatched (s.answered (.reject .range)))) ∧
      ((∃ (n : Nat) (e : RouteEntry), es[n]? = some e ∧ e.line = true ∧
          (first.toNat + n < 3 ∨ 9 ≤ first.toNat + n)) →
        exec (.writeRoute first data) s = .next (s.idleWatched (s.answered (.reject .range)))) ∧
      (first.toNat + es.length ≤ 12 →
        (∀ (n : Nat) (e : RouteEntry), es[n]? = some e → e.line = true →
          3 ≤ first.toNat + n ∧ first.toNat + n < 9) →
        let t : State := { s with route := { s.route with table := put es s.route.table } }
        exec (.writeRoute first data) s = .next (s.idleWatched
          (State.answered
            (if first.toNat ≤ 2 ∧ 2 < first.toNat + es.length then t.recorderTested else t) .grant)))) ∧
    (∀ es : List SeqEntry, es ≠ [] → (∀ e ∈ es, e.length ≤ 8 ∧ e.pattern.length = 8) →
      let data := es.flatMap SeqEntry.bytes
      (16 < first.toNat + es.length →
        exec (.writeSequence first data) s = .next (s.idleWatched (s.answered (.reject .range)))) ∧
      (first.toNat + es.length ≤ 16 →
        exec (.writeSequence first data) s = .next (s.idleWatched
          (State.answered
            { s with
              matcher :=
                { s.matcher with
                  table := put es s.matcher.table
                  progress := put (es.map fun _ => 0) s.matcher.progress } }
            .grant))))

/-- R14, R105, R120, R193, R210: the KEYMAP (locked as TRANSLATE is), ANSWERBACK (whole; not during a run) and SIGNALS tables; a
frame past the table's end, one that is no whole number of entries, an empty one but for ANSWERBACK, and one with a field outside
its values are out of range. -/
def Obligations.WriteKeymapAnswerbackSignals : Prop :=
  ∀ (s : State) (first : Byte), s.ready →
    let put {α : Type} (es t : List α) : List α := t.take first.toNat ++ es ++ t.drop (first.toNat + es.length)
    let locked : Prop := s.call.state ≠ .free ∨ s.kb.queue ≠ [] ∨ s.link.send.queue ≠ []
    (∀ es : List KeyEntry, es ≠ [] →
      let data := es.flatMap KeyEntry.bytes
      (locked → exec (.writeKeymap first data) s = .next (s.idleWatched (s.answered (.reject .state)))) ∧
      (¬locked → 64 < first.toNat + es.length →
        exec (.writeKeymap first data) s = .next (s.idleWatched (s.answered (.reject .range)))) ∧
      (¬locked → first.toNat + es.length ≤ 64 →
        exec (.writeKeymap first data) s = .next (s.idleWatched
          (State.answered { s with kb := { s.kb with keymap := put es s.kb.keymap } } .grant)))) ∧
    (∀ codes : List Code,
      let data : List Byte := codes.map fun c => c.setWidth 8
      (s.answer.run.isSome = true →
        exec (.writeAnswerback first data) s = .next (s.idleWatched (s.answered (.reject .state)))) ∧
      (s.answer.run = none → (first ≠ 0 ∨ 20 < codes.length) →
        exec (.writeAnswerback first data) s = .next (s.idleWatched (s.answered (.reject .range)))) ∧
      (s.answer.run = none → first = 0 → codes.length ≤ 20 →
        exec (.writeAnswerback first data) s = .next (s.idleWatched
          (State.answered { s with answer := { s.answer with memory := codes } } .grant)))) ∧
    (∀ data : List Byte,
      (locked → exec (.writeKeymap first data) s = .next (s.idleWatched (s.answered (.reject .state)))) ∧
      (¬locked →
        data = [] ∨ data.length % 2 ≠ 0 ∨
          (∃ (i : Nat) (k v : Byte), data[2 * i]? = some k ∧ data[2 * i + 1]? = some v ∧
            (2 < k.toNat ∨ (k = 0 ∧ v ≠ 0) ∨ (k = 1 ∧ 127 < v.toNat) ∨ (k = 2 ∧ 7 < v.toNat))) →
        exec (.writeKeymap first data) s = .next (s.idleWatched (s.answered (.reject .range)))) ∧
      (s.answer.run.isSome = true →
        exec (.writeAnswerback first data) s = .next (s.idleWatched (s.answered (.reject .state)))) ∧
      (s.answer.run = none → (∃ b ∈ data, 31 < b.toNat) →
        exec (.writeAnswerback first data) s = .next (s.idleWatched (s.answered (.reject .range)))) ∧
      (data = [] ∨ data.length % 4 ≠ 0 ∨
          (∃ i b, data[i]? = some b ∧
            ((i % 4 = 0 ∧ (31 < b.toNat ∨ b.toNat % 4 = 3)) ∨ (i % 4 = 1 ∧ 3 < b.toNat))) →
        exec (.writeSignals first data) s = .next (s.idleWatched (s.answered (.reject .range))))) ∧
    (∀ es : List SignalEntry, es ≠ [] → (∀ e ∈ es, e.mask.toNat < 2 ^ 18) →
      let data := es.flatMap SignalEntry.bytes
      (4 < first.toNat + es.length →
        exec (.writeSignals first data) s = .next (s.idleWatched (s.answered (.reject .range)))) ∧
      (first.toNat + es.length ≤ 4 →
        exec (.writeSignals first data) s = .next (s.idleWatched
          (State.answered { s with cond := { s.cond with signals := put es s.cond.signals } } .grant))))

/-- R1, R23, R169, R170, R193, R194: a WRITE of SETTINGS, of one or of several together: out of range, refused during a call, or
all standing at once; a write of the calibration mode or of the fixed sample point also acts on the calibrator, and one of the
tape-low reserve, while TAPE_LOW is live, on the tape count, a reserve of 0 emptying it. That a write of the idle stop starts no
timer is the model's choice (log 43). A local clear that the recorder test begins keeps the remaining count of SEND (log 19) and
sets the sums of an abandoned window to 0 (log 36), the model's choices. -/
def Obligations.WriteOneSetting : Prop :=
  ∀ (s : State) (first : Byte), s.ready → s.settings.length = 46 →
    (∀ data : List Byte, data = [] ∨ data.length % 2 ≠ 0 →
      exec (.writeSettings first data) s = .next (s.idleWatched (s.answered (.reject .range)))) ∧
    ∀ vs : List (BitVec 16), vs ≠ [] →
      let write : Instr :=
        .writeSettings first (vs.flatMap fun v => [BitVec.ofNat 8 (v.toNat / 256), BitVec.ofNat 8 v.toNat])
      let t : State :=
        { s with
          settings :=
            s.settings.take first.toNat ++ vs.map (·.toNat) ++ s.settings.drop (first.toNat + vs.length) }
      let written (k : Setting) : Prop := first.toNat ≤ k.index ∧ k.index < first.toNat + vs.length
      let good : Prop :=
        first.toNat + vs.length ≤ 46 ∧ (∀ k : Setting, written k → k.ok (t.cfg k) = true) ∧
          t.cfg .marginBellColumn ≤ t.cfg .width
      let barred : Prop := (written .lineSpeed ∨ written .stopLength) ∧ s.call.state ≠ .free
      let window : Calibrator := { s.cal with sumT := 0, sumS := 0, maxM := 0, count := 0 }
      let restarted : Calibrator :=
        if s.cal.state = .measuring ∨ s.cal.state = .settled ∨ (s.cal.state = .idle ∧ s.call.state = .connected) then
          { window with state := .measuring }
        else s.cal
      let cal : Calibrator :=
        if t.cfg .calibrationMode = s.cfg .calibrationMode then
          if t.cfg .calibrationMode = 1 ∧ written .fixedSamplePoint then
            { s.cal with p := t.cfg .fixedSamplePoint }
          else s.cal
        else if t.cfg .calibrationMode = 0 then { window with p := 8, state := .idle, holdoff := none }
        else if t.cfg .calibrationMode = 1 then { restarted with p := t.cfg .fixedSamplePoint }
        else restarted
      let u : State := { t with cal := cal }
      (¬good → exec write s = .next (s.idleWatched (s.answered (.reject .range)))) ∧
      (good → barred → exec write s = .next (s.idleWatched (s.answered (.reject .state)))) ∧
      (good → ¬barred →
        exec write s = .next (s.idleWatched
          (State.answered (if written .tapeLowReserve ∧ s.pins.tapeLow = true then u.tapeCut else u) .grant)))

/-- R186, R193, R195: READ of every table, of an identifier that names none and of a body that is no three bytes (that one of two
bytes or of more than three is out of range is the model's choice, log 17), and STATUS with the REPORT byte by byte (section
10.9); neither changes anything but the model's count of free values, where the REPORT shows the outcome byte of a record without
one (log 18). The REPORT shows the connected seconds so far of an open record in whole seconds while CONNECTED (log 34,
DEDUCED). -/
def Obligations.ReadAndStatus : Prop :=
  ∀ s : State, s.ready →
    let reads (id : Byte) {α : Type} (bytes : α → List Byte) (size : Nat) (table : List α) : Prop :=
      ∀ first count : Byte,
        ((count = 0 ∨ table.length < first.toNat + count.toNat ∨ 64 < size * count.toNat) →
          exec (.read [id, first, count]) s = .next (s.idleWatched (s.answered (.reject .range)))) ∧
        (count ≠ 0 → first.toNat + count.toNat ≤ table.length → size * count.toNat ≤ 64 →
          exec (.read [id, first, count]) s = .next (s.idleWatched
            (s.answered (.table (((table.drop first.toNat).take count.toNat).flatMap bytes)))))
    let two (n : Nat) : List Byte := [BitVec.ofNat 8 (n / 256), BitVec.ofNat 8 n]
    let three (n : Nat) : List Byte := [BitVec.ofNat 8 (n / 65536), BitVec.ofNat 8 (n / 256), BitVec.ofNat 8 n]
    let one (n : Nat) : List Byte := [BitVec.ofNat 8 n]
    reads 1 TransEntry.bytes 2 s.translate ∧ reads 2 RouteEntry.bytes 1 s.route.table ∧
    ((∀ e ∈ s.matcher.table, e.pattern.length = 8) → reads 3 SeqEntry.bytes 11 s.matcher.table) ∧
    reads 4 KeyEntry.bytes 2 s.kb.keymap ∧ reads 6 two 2 s.settings ∧ reads 7 SignalEntry.bytes 4 s.cond.signals ∧
    (∀ first count : Byte,
      exec (.read [5, first, count]) s = .next (s.idleWatched
        (s.answered (if first = 0 ∧ count = 0 then .table (s.answer.memory.map fun c => c.setWidth 8)
          else .reject .range)))) ∧
    (∀ (first count : Byte) (r : CallRecord), s.station.log[first.toNat]? = some r → r.bytes.length ≤ 64 →
      (count = 1 →
        exec (.read [8, first, count]) s = .next (s.idleWatched (s.answered (.table r.bytes)))) ∧
      (count ≠ 1 → exec (.read [8, first, count]) s = .next (s.idleWatched (s.answered (.reject .range))))) ∧
    (∀ first count : Byte, s.station.log.length ≤ first.toNat →
      exec (.read [8, first, count]) s = .next (s.idleWatched (s.answered (.reject .range)))) ∧
    (∀ id first count : Byte, id = 0 ∨ 8 < id.toNat →
      exec (.read [id, first, count]) s = .next (s.idleWatched (s.answered (.reject .range)))) ∧
    (∀ body : List Byte, body.length ≠ 3 →
      exec (.read body) s = .next (s.idleWatched (s.answered (.reject .range)))) ∧
    (∀ body : List Byte, body ≠ [] →
      exec (.status body) s = .next (s.idleWatched (s.answered (.reject .range)))) ∧
    s.report.length = 55 ∧
    s.report =
      one (s.station.mode.code + 4 * s.station.restartPending.toNat + 8 * s.rx.shift.code + 16 * s.tx.shift.code
          + 32 * s.route.printSwitch.toNat + 64 * s.route.punchSwitch.toNat)
        ++ one (s.call.state.code + 16 * s.motor.state.code)
        ++ one (s.printer.state.code + 8 * s.printer.jamHold.toNat + 16 * s.punch.state.code
          + 64 * s.punch.jamHold.toNat)
        ++ one s.printer.column ++ two s.punch.tape ++ two s.punch.leader ++ two s.store.entries.length
        ++ one (s.tx.reservation.toNat + 2 * s.store.armed.toNat + 4 * (s.attached .print).toNat
          + 8 * (s.attached .punch).toNat + 16 * (s.attached .capture).toNat)
        ++ two (s.store.entries.length - s.store.cursors.print) ++ two (s.store.entries.length - s.store.cursors.punch)
        ++ two (s.store.entries.length - s.store.cursors.capture) ++ two s.store.gap
        ++ one s.kb.queue.length ++ one s.link.send.queue.length
        ++ one (s.link.send.armed.toNat + 2 * s.link.send.held.toNat + 4 * s.link.capture.state.code)
        ++ two s.link.send.remaining ++ two s.link.capture.remaining
        ++ one s.cal.p ++ one (s.cal.state.code + 16 * (BitVec.ofInt 4 s.cal.lastBias).toNat) ++ one s.stuckCount
        ++ three s.live.toNat ++ three s.cond.faults.toNat ++ two s.link.mask.toNat
        ++ two s.station.nextNumber ++ one s.station.log.length
        ++ two (match s.station.log with
          | [] => 0
          | r :: _ => r.number)
        ++ (match s.station.record with
          | none => List.replicate 13 0
          | some r =>
            one (1 + 2 * r.direction.code + 4 * r.outcome.isSome.toNat + 8 * r.flags.printerLost.toNat
                + 16 * r.flags.punchLost.toNat + 32 * r.flags.calError.toNat + 64 * r.flags.breakReceived.toNat)
              ++ (match r.outcome with
                | some o => one o.code
                | none => [Config.freeByte s.freeCount])
              ++ two r.number ++ three (s.connectedSeconds r) ++ two r.received ++ two r.sent ++ two r.lost) ∧
    ((∀ r, s.station.record = some r → r.outcome.isSome = true) →
      exec (.status []) s = .next (s.idleWatched (s.answered (.report s.report)))) ∧
    (∀ r, s.station.record = some r → r.outcome = none →
      exec (.status []) s = .next (s.idleWatched
        (State.answered { s with freeCount := s.freeCount + 1 } (.report s.report))))

/-- R9, R15, R198 to R200: the SEND channel: ARM, HOLD, DISARM and TEXT, a byte above 127 among its characters included. That
RANGE is tested before STATE in HOLD (log 17) and in ARM SEND (log 41), and that DISARM keeps the remaining count (log 19), are
the model's choices. -/
def Obligations.SendChannel : Prop :=
  ∀ s : State, s.ready →
    (∀ n : BitVec 16,
      exec (.orderArmSend n) s = .next (s.idleWatched
        (if n = 0 then s.answered (.reject .range)
        else if s.link.send.armed = true then s.answered (.reject .state)
        else
          State.answered
            { s with
              link :=
                { s.link with
                  send := { s.link.send with armed := true, held := false, remaining := n.toNat } } }
            .grant))) ∧
    (∀ on : Byte,
      exec (.orderHoldSend on) s = .next (s.idleWatched
        (if on ≠ 0 ∧ on ≠ 1 then s.answered (.reject .range)
        else if s.link.send.armed = false then s.answered (.reject .state)
        else
          State.answered
            { s with link := { s.link with send := { s.link.send with held := on == 1 } } } .grant))) ∧
    (s.link.send.armed = false →
      exec .orderDisarmSend s = .next (s.idleWatched (s.answered (.reject .state)))) ∧
    (s.link.send.armed = true →
      exec .orderDisarmSend s = .next (s.idleWatched
        (State.answered
          { s with
            tx := { s.tx with phase := s.tx.phase.uncounted }
            link :=
              { s.link with
                send := { s.link.send with armed := false, held := false, queue := [] }
                notices := putNotice (.channel false .disarmed s.link.send.remaining) s.link.notices } }
          .grant))) ∧
    (∀ chars : List Byte,
      let cs : List IChar := chars.map fun b => b.setWidth 7
      let resolved (b : Byte) : Prop := b.toNat ≤ 127 ∧ s.hasResolution (b.setWidth 7) = true
      (s.link.send.armed = false →
        exec (.text chars) s = .next (s.idleWatched (s.answered (.reject .state)))) ∧
      (s.link.send.armed = true →
        (s.openCount < chars.length ∨ (∃ b ∈ chars, ¬resolved b) →
          exec (.text chars) s = .next (s.idleWatched (s.answered (.reject .range)))) ∧
        (chars.length ≤ s.openCount → (∀ b ∈ chars, resolved b) →
          (64 < s.link.send.queue.length + chars.length →
            exec (.text chars) s = .next (s.idleWatched
              (s.answered (.wait (64 - s.link.send.queue.length))))) ∧
          (s.link.send.queue.length + chars.length ≤ 64 →
            exec (.text chars) s = .next (s.idleWatched
              (State.answered
                { s with
                  link := { s.link with send := { s.link.send with queue := s.link.send.queue ++ cs } } }
                .grant))))))

/-- R88, R89, R92, R201, R202: the CAPTURE channel: ARM, HOLD, DISARM and the flush timer. That RANGE is tested before STATE in
HOLD (log 17) and in ARM CAPTURE (log 41), and that DISARM keeps the remaining count (log 19), are the model's choices. So are
the order of the CHANNEL notice after the recorder test (log 47) and what a local clear of that test leaves: the remaining count
of SEND (log 19), the sums of an abandoned window at 0 (log 36). -/
def Obligations.CaptureChannel : Prop :=
  ∀ s : State,
    (s.link.capture.flush.isSome = true →
      exec .captureFlushExpiry s = .next (s.idleWatched
        { s with link := { s.link with capture := { s.link.capture with closed := true, flush := none } } })) ∧
    (s.ready →
      (∀ (n : BitVec 16) (size : Byte),
        exec (.orderArmCapture n size) s = .next (s.idleWatched
          (if n = 0 ∨ size = 0 ∨ 32 < size.toNat then s.answered (.reject .range)
          else if s.link.capture.state ≠ .disarmed then s.answered (.reject .state)
          else
            State.answered
              { s with
                link :=
                  { s.link with
                    capture :=
                      { state := .armed, remaining := n.toNat, size := size.toNat, taken := 0, closed := false
                        flush := none } }
                store :=
                  { s.store with cursors := { s.store.cursors with capture := s.store.entries.length } } }
              .grant))) ∧
      (∀ on : Byte,
        (on ≠ 0 → on ≠ 1 →
          exec (.orderHoldCapture on) s = .next (s.idleWatched (s.answered (.reject .range)))) ∧
        ((on = 0 ∨ on = 1) → s.link.capture.state = .disarmed →
          exec (.orderHoldCapture on) s = .next (s.idleWatched (s.answered (.reject .state)))) ∧
        (on = 1 → s.link.capture.state = .armed →
          exec (.orderHoldCapture on) s = .next (s.idleWatched
            (State.answered
              { s with
                link := { s.link with capture := { s.link.capture with state := .held, flush := none } } }
              .grant))) ∧
        ((on = 0 ∧ s.link.capture.state = .armed) ∨ (on = 1 ∧ s.link.capture.state = .held) →
          exec (.orderHoldCapture on) s = .next (s.idleWatched (s.answered .grant))) ∧
        (on = 0 → s.link.capture.state = .held →
          ∃ t, exec (.orderHoldCapture on) s = .next t ∧ t.link.capture.state = .armed ∧
            t.link.capture.remaining = s.link.capture.remaining ∧ t.store.entries = s.store.entries) ∧
        (on = 0 → s.link.capture.state = .held → s.store.cursors.capture ≤ s.store.entries.length →
          let flush : Timer :=
            if s.link.capture.closed = true ∨ s.link.capture.taken = 0 then none
            else some (288 * s.cfg .captureFlushTime)
          exec (.orderHoldCapture on) s = .next (s.idleWatched
            (State.answered
              (State.gathered
                { s with
                  link := { s.link with capture := { s.link.capture with state := .armed, flush := flush } } })
              .grant))) ∧
        (on = 0 → s.link.capture.state = .held → s.link.capture.closed = true →
          exec (.orderHoldCapture on) s = .next (s.idleWatched
            (State.answered
              { s with
                link := { s.link with capture := { s.link.capture with state := .armed, flush := none } } }
              .grant)))) ∧
      (s.link.capture.state = .disarmed →
        exec .orderDisarmCapture s = .next (s.idleWatched (s.answered (.reject .state)))) ∧
      (s.link.capture.state ≠ .disarmed →
        exec .orderDisarmCapture s = .next (s.idleWatched ((s.captureEnded .disarmed).answered .grant))))

/-- R192, R203, R204: what the link transmitter takes, in order of preference, and the end of a frame; the times are those of
the frame's bytes, ten bits each (R189). A DATA frame's entries leave CAPTURE as its sending begins; the arming ends as DONE
with the remaining count, or the next frame gathers at once (R202). Between ORDER RESET and its reset no notice and no DATA
frame is sent (R196); the queued replies and the REJECT BUSYs go out, and then nothing (log 33, DEDUCED). A local clear that the
recorder test begins keeps the remaining count of SEND (log 19) and sets the sums of an abandoned window to 0 (log 36), the
model's choices. -/
def Obligations.LinkTransmitter : Prop :=
  ∀ s : State,
    let sent (l : Link) (f : OutFrame) : State :=
      { s with
        link :=
          { l with
            sending := some f, timer := some ((f.body.length + 4) * byteUnits s.link.rateStrap) } }
    (s.link.sending.isSome = true → exec .linkTransmitterTake s = .next (s.idleWatched s)) ∧
    (∀ (f : OutFrame) (rate : BitVec 2), s.link.sending = some f → f ≠ .reply .resetGrant →
      exec (.linkFrameSent rate) s = .next (s.idleWatched
        { s with
          pins := { s.pins with rate := rate }
          link := { s.link with sending := none, timer := none } })) ∧
    (s.link.sending = none →
      (∀ r rest, s.link.replies = r :: rest →
        exec .linkTransmitterTake s = .next (s.idleWatched
          (sent { s.link with replies := rest } (.reply r)))) ∧
      (s.link.replies = [] → s.link.busy ≠ 0 →
        exec .linkTransmitterTake s = .next (s.idleWatched
          (sent { s.link with busy := s.link.busy - 1 } (.reply (.reject .busy))))) ∧
      (s.link.replies = [] → s.link.busy = 0 →
        (s.link.resetPending = true → exec .linkTransmitterTake s = .next (s.idleWatched s)) ∧
        (s.link.resetPending = false →
          (s.link.capture.state = .armed → s.link.capture.closed = true →
            s.store.cursors.capture ≤ s.store.entries.length →
            let n := s.link.capture.taken
            let held := (s.store.entries.drop s.store.cursors.capture).filter fun e => e.pending.capture
            let t := sent s.link (.data ((held.take n).flatMap Entry.item))
            let u : State :=
              { t with
                store := s.storeTaken n
                link :=
                  { t.link with
                    capture :=
                      { s.link.capture with
                        remaining := s.link.capture.remaining - n, taken := 0, closed := false, flush := none } } }
            exec .linkTransmitterTake s = .next (s.idleWatched
              (if s.link.capture.remaining ≤ n then u.captureEnded .done else u.gathered))) ∧
          ((s.link.capture.state ≠ .armed ∨ s.link.capture.closed = false) →
            (s.station.hostSilent = true → exec .linkTransmitterTake s = .next (s.idleWatched s)) ∧
            (s.station.hostSilent = false →
              ((∀ n ∈ s.link.notices, s.link.mask.getLsbD (n.kind - 1) = false) →
                exec .linkTransmitterTake s = .next (s.idleWatched s)) ∧
              (∀ pre n post, s.link.notices = pre ++ n :: post → s.link.mask.getLsbD (n.kind - 1) = true →
                (∀ m ∈ pre, s.link.mask.getLsbD (m.kind - 1) = false ∧ m.kind < n.kind) →
                (∀ m ∈ post, n.kind < m.kind) →
                exec .linkTransmitterTake s = .next (s.idleWatched
                  (sent { s.link with notices := pre ++ post } (.note n)))))))))

/-! ## The station unit, the log, the conditions -/

/-- R175, R176, R179: ORDER MODE with its tests in order, and the expiry of the host watchdog: HOST_SILENT latched, the mode
UNATTENDED, then an armed or held CAPTURE ended. A change of mode, whole (`State.modeMoved`), sets the progress counts of the
entries not active in the new mode to 0 (R101) and acts on an offered call (R50) and on a connected one (R59, R92). At a change
to UNATTENDED an idle-clear setting of 0 stops the running timer (log 20, DEDUCED); where an offered call goes on to CONNECTED,
the identity exchange comes before the recorder test (log 22, DEDUCED). An ended CAPTURE arming keeps its remaining count, as
does the SEND arming that a local clear of the recorder test ends (log 19); CAPTURE's CHANNEL notice comes after that test (log
47), and the sums of a window that CLEARING abandons are 0 at once (log 36): the model's choices. -/
def Obligations.ModeByOrderAndByWatchdog : Prop :=
  ∀ s : State,
    (s.ready →
      (∀ b : Byte, 2 < b.toNat →
        exec (.orderMode b) s = .next (s.idleWatched (s.answered (.reject .range)))) ∧
      (∀ m : Mode,
        let order : Instr := .orderMode (BitVec.ofNat 8 m.code)
        let barred : Prop := m ≠ .unattended ∧ (s.station.restartPending = true ∨ s.station.hostSilent = true)
        let busy : Prop := m = .localMode ∧ s.call.state ≠ .free
        (barred ∨ busy → exec order s = .next (s.idleWatched (s.answered (.reject .state)))) ∧
        (¬barred → ¬busy →
          exec order s = .next (s.idleWatched ((s.modeMoved m false).answered .grant)) ∧
          (s.station.mode = m → exec order s = .next (s.idleWatched (s.answered .grant)))))) ∧
    (s.station.watchdog.isSome = true →
      let silent : State :=
        State.latch Cond.hostSilent { s with station := { s.station with hostSilent := true, watchdog := none } }
      let moved : State := silent.modeMoved .unattended true
      exec .hostWatchdogExpiry s = .next (s.idleWatched
        (if s.link.capture.state = .disarmed then moved else moved.captureEnded .hostSilent)))

/-- R177, R196, R204, R207: ORDER ACK RESTART, ORDER RESET, ORDER NOTICE MASK and ORDER CLEAR FAULTS. -/
def Obligations.OrdersToTheStationAndTheConditions : Prop :=
  ∀ s : State, s.ready →
    exec .orderAckRestart s = .next (s.idleWatched
      (State.answered { s with station := { s.station with restartPending := false } } .grant)) ∧
    exec .orderReset s = .next (s.idleWatched
      (State.answered { s with link := { s.link with resetPending := true } } .resetGrant)) ∧
    (∀ mask : BitVec 16,
      exec (.orderNoticeMask mask) s = .next (s.idleWatched
        (if 2 ^ 11 ≤ mask.toNat then s.answered (.reject .range)
        else State.answered { s with link := { s.link with mask := mask.setWidth 11 } } .grant))) ∧
    ∀ named : CondSet,
      exec (.orderClearFaults named) s = .next (s.idleWatched
        (if 2 ^ 18 ≤ named.toNat then s.answered (.reject .range)
        else
          State.answered
            { s with
              cond := { s.cond with faults := s.cond.faults &&& ~~~ (named &&& ~~~ (s.live &&& 0x00007F)) } }
            .grant))

/-- R187: ORDER LOG DISCARD removes the n oldest records, or all; the next number stands. A closing before or after it is
another command, and meets the log as this one leaves it. -/
def Obligations.OrderLogDiscard : Prop :=
  ∀ (s : State) (n : Byte), s.ready →
    (n = 0 → exec (.orderLogDiscard n) s = .next (s.idleWatched (s.answered (.reject .range)))) ∧
    (n ≠ 0 →
      exec (.orderLogDiscard n) s = .next (s.idleWatched
        (State.answered { s with station := { s.station with log := s.station.log.drop n.toNat } } .grant)) ∧
      (s.station.log.length ≤ n.toNat →
        exec (.orderLogDiscard n) s = .next (s.idleWatched
          (State.answered { s with station := { s.station with log := [] } } .grant))))

/-- Sections 2 to 11: every output pin as a function of the state (R31, R41, R44, R114, R122, R137, R140 to R142, R146, R148,
R157, R165, R166, R171, R189, R192, R209, R210). While RESET stands asserted each is at its cold-reset level (R211). No line of
KB_DRIVE is driven between two steps, and a scan drives one at a time; PR_SEL and PU_CODE are given where the manual gives them
a value (log 25). That STRIKE, PUNCH and CAR_STEP stand asserted from one strike, code or step of an operation to the next is
the model's choice (log 25). SEIZE and MOTOR_ON show no drop in a warm reset whose offer is accepted, since it is taken and
ended in one command (the model's choice, log 46). -/
def Obligations.OutputsFollowTheState : Prop :=
  (∀ s : State, s.kbDrive = 0) ∧
  (∀ d j : Nat, d < 8 → j < 8 → ((scanDrive d).getLsbD j = true ↔ j = d)) ∧
  (∀ (keys : BitVec 64) (d j : Nat), d < 8 → j < 8 → (scanSense keys d).getLsbD j = keys.getLsbD (8 * d + j)) ∧
  (∀ s : State, s.pins.reset = true →
    s.seize = false ∧ s.lineTx = .mark ∧ s.strike = false ∧ s.feed = false ∧ s.carStep = false ∧ s.carRev = false ∧
    s.prSel = none ∧ s.bellOn = false ∧ s.punchDrive = false ∧ s.puCode = none ∧ s.motorOn = false ∧
    (∀ n, s.sigLevel n = false) ∧ s.hostTx = none ∧ s.hostTxLevel = .mark) ∧
  (∀ s : State, s.pins.reset = false →
    let printing (a : PrinterAction) : Prop := ∃ rest, s.printer.op = some { action := a, rest := rest }
    (s.seize = true ↔ s.call.state = .answering ∨ s.call.state = .calling ∨ s.call.state = .selecting ∨
      s.call.state = .connected) ∧
    (s.motorOn = true ↔ s.motor.state = .runup ∨ s.motor.state = .running) ∧
    (s.bellOn = true ↔ s.bell ≠ none) ∧
    (s.strike = true ↔ ∃ c, printing (.strike c)) ∧
    (s.feed = true ↔ ∃ c, printing (.feed c)) ∧
    (s.carStep = true ↔ s.printer.aborted ≠ none ∨ printing .space ∨ ∃ w c, printing (.slew w c)) ∧
    (s.carRev = true ↔ s.printer.aborted ≠ none ∨ ∃ w c, printing (.slew w c)) ∧
    (s.printer.aborted = none →
      (∀ c, printing (.strike c) → s.prSel = some c) ∧ (printing .space → s.prSel = some 1) ∧
      (∀ w c, printing (.slew w c) → s.prSel = some (BitVec.ofNat 7 w.len))) ∧
    (∀ len, s.printer.aborted = some len → s.prSel = some (BitVec.ofNat 7 (if len = 0 then 1 else len))) ∧
    (s.punchDrive = true ↔ s.punch.op ≠ none) ∧
    (∀ m c, s.punch.op = some (.entry 0 m c) → s.puCode = some c) ∧
    (∀ n m c, s.punch.op = some (.entry (n + 1) m c) → s.puCode = some m) ∧
    (s.punch.op = some .leader → s.puCode = some 0) ∧
    (s.tx.phase = .free ∨ s.tx.phase = .breakGuard ∨ (∃ c u owed, s.tx.phase = .unitWait c u owed) → s.lineTx = .mark) ∧
    (s.tx.phase = .brk → s.lineTx = .space) ∧
    (∀ c u f el st, s.tx.phase = .code c u f el st → el ≠ 0 →
      let past := 6 * el + st - s.tx.timer.getD 0
      (past < el → s.lineTx = .space) ∧
      (∀ k, k < 5 → (k + 1) * el ≤ past → past < (k + 2) * el →
        s.lineTx = if c.getLsbD k = true then .mark else .space) ∧
      (6 * el ≤ past → s.lineTx = .mark)) ∧
    s.hostTx = s.link.sending.map OutFrame.bytes ∧
    (s.link.sending = none → s.hostTxLevel = .mark) ∧
    (∀ f, s.link.sending = some f →
      let unit := byteUnits s.link.rateStrap
      let past := f.bytes.length * unit - s.link.timer.getD 0
      ∀ (k j : Nat) (b : Byte), f.bytes[k]? = some b → j < 10 → (10 * k + j) * unit ≤ 10 * past →
        10 * past < (10 * k + j + 1) * unit →
        s.hostTxLevel = if (linkBits b).getLsbD j = true then .mark else .space) ∧
    ∀ (n : Nat) (e : SignalEntry), s.cond.signals[n]? = some e →
      let tested (b : Nat) : Bool :=
        if b ≤ 6 then (if e.latched then s.cond.faults.getLsbD b else s.live.getLsbD b)
        else if b ≤ 10 then s.live.getLsbD b
        else b ≤ 17 && s.cond.faults.getLsbD b
      let active : Prop :=
        (e.mode = .direct ∧ e.directLevel = true) ∨
          (e.mode = .linked ∧ ∃ b, b < 24 ∧ e.mask.getLsbD b = true ∧ tested b = true)
      (s.sigLevel n = true ↔ (active ↔ e.activeLow = false)))
end

