-- ==== Sys2Proof/Laws/State.lean ====
section
/-! SUPPORT. What each update of Machine/Update.lean leaves and sets: one lemma per field per update. -/

namespace Sys2Proof.Machine

section
variable (s : State)

@[simp] theorem State.modPins_pins (f : Inputs → Inputs) : (s.modPins f).pins = f s.pins := rfl
@[simp] theorem State.modPins_translate (f : Inputs → Inputs) : (s.modPins f).translate = s.translate := rfl
@[simp] theorem State.modPins_settings (f : Inputs → Inputs) : (s.modPins f).settings = s.settings := rfl
@[simp] theorem State.modPins_rx (f : Inputs → Inputs) : (s.modPins f).rx = s.rx := rfl
@[simp] theorem State.modPins_cal (f : Inputs → Inputs) : (s.modPins f).cal = s.cal := rfl
@[simp] theorem State.modPins_tx (f : Inputs → Inputs) : (s.modPins f).tx = s.tx := rfl
@[simp] theorem State.modPins_call (f : Inputs → Inputs) : (s.modPins f).call = s.call := rfl
@[simp] theorem State.modPins_store (f : Inputs → Inputs) : (s.modPins f).store = s.store := rfl
@[simp] theorem State.modPins_route (f : Inputs → Inputs) : (s.modPins f).route = s.route := rfl
@[simp] theorem State.modPins_matcher (f : Inputs → Inputs) : (s.modPins f).matcher = s.matcher := rfl
@[simp] theorem State.modPins_answer (f : Inputs → Inputs) : (s.modPins f).answer = s.answer := rfl
@[simp] theorem State.modPins_kb (f : Inputs → Inputs) : (s.modPins f).kb = s.kb := rfl
@[simp] theorem State.modPins_printer (f : Inputs → Inputs) : (s.modPins f).printer = s.printer := rfl
@[simp] theorem State.modPins_bell (f : Inputs → Inputs) : (s.modPins f).bell = s.bell := rfl
@[simp] theorem State.modPins_punch (f : Inputs → Inputs) : (s.modPins f).punch = s.punch := rfl
@[simp] theorem State.modPins_motor (f : Inputs → Inputs) : (s.modPins f).motor = s.motor := rfl
@[simp] theorem State.modPins_station (f : Inputs → Inputs) : (s.modPins f).station = s.station := rfl
@[simp] theorem State.modPins_link (f : Inputs → Inputs) : (s.modPins f).link = s.link := rfl
@[simp] theorem State.modPins_cond (f : Inputs → Inputs) : (s.modPins f).cond = s.cond := rfl
@[simp] theorem State.modPins_hostRx (f : Inputs → Inputs) : (s.modPins f).hostRx = s.hostRx := rfl
@[simp] theorem State.modPins_freeCount (f : Inputs → Inputs) : (s.modPins f).freeCount = s.freeCount := rfl
@[simp] theorem State.modPins_pending (f : Inputs → Inputs) : (s.modPins f).pending = s.pending := rfl

@[simp] theorem State.modTranslate_pins (f : List TransEntry → List TransEntry) : (s.modTranslate f).pins = s.pins := rfl
@[simp] theorem State.modTranslate_translate (f : List TransEntry → List TransEntry) : (s.modTranslate f).translate = f s.translate := rfl
@[simp] theorem State.modTranslate_settings (f : List TransEntry → List TransEntry) : (s.modTranslate f).settings = s.settings := rfl
@[simp] theorem State.modTranslate_rx (f : List TransEntry → List TransEntry) : (s.modTranslate f).rx = s.rx := rfl
@[simp] theorem State.modTranslate_cal (f : List TransEntry → List TransEntry) : (s.modTranslate f).cal = s.cal := rfl
@[simp] theorem State.modTranslate_tx (f : List TransEntry → List TransEntry) : (s.modTranslate f).tx = s.tx := rfl
@[simp] theorem State.modTranslate_call (f : List TransEntry → List TransEntry) : (s.modTranslate f).call = s.call := rfl
@[simp] theorem State.modTranslate_store (f : List TransEntry → List TransEntry) : (s.modTranslate f).store = s.store := rfl
@[simp] theorem State.modTranslate_route (f : List TransEntry → List TransEntry) : (s.modTranslate f).route = s.route := rfl
@[simp] theorem State.modTranslate_matcher (f : List TransEntry → List TransEntry) : (s.modTranslate f).matcher = s.matcher := rfl
@[simp] theorem State.modTranslate_answer (f : List TransEntry → List TransEntry) : (s.modTranslate f).answer = s.answer := rfl
@[simp] theorem State.modTranslate_kb (f : List TransEntry → List TransEntry) : (s.modTranslate f).kb = s.kb := rfl
@[simp] theorem State.modTranslate_printer (f : List TransEntry → List TransEntry) : (s.modTranslate f).printer = s.printer := rfl
@[simp] theorem State.modTranslate_bell (f : List TransEntry → List TransEntry) : (s.modTranslate f).bell = s.bell := rfl
@[simp] theorem State.modTranslate_punch (f : List TransEntry → List TransEntry) : (s.modTranslate f).punch = s.punch := rfl
@[simp] theorem State.modTranslate_motor (f : List TransEntry → List TransEntry) : (s.modTranslate f).motor = s.motor := rfl
@[simp] theorem State.modTranslate_station (f : List TransEntry → List TransEntry) : (s.modTranslate f).station = s.station := rfl
@[simp] theorem State.modTranslate_link (f : List TransEntry → List TransEntry) : (s.modTranslate f).link = s.link := rfl
@[simp] theorem State.modTranslate_cond (f : List TransEntry → List TransEntry) : (s.modTranslate f).cond = s.cond := rfl
@[simp] theorem State.modTranslate_hostRx (f : List TransEntry → List TransEntry) : (s.modTranslate f).hostRx = s.hostRx := rfl
@[simp] theorem State.modTranslate_freeCount (f : List TransEntry → List TransEntry) : (s.modTranslate f).freeCount = s.freeCount := rfl
@[simp] theorem State.modTranslate_pending (f : List TransEntry → List TransEntry) : (s.modTranslate f).pending = s.pending := rfl

@[simp] theorem State.modSettings_pins (f : List Nat → List Nat) : (s.modSettings f).pins = s.pins := rfl
@[simp] theorem State.modSettings_translate (f : List Nat → List Nat) : (s.modSettings f).translate = s.translate := rfl
@[simp] theorem State.modSettings_settings (f : List Nat → List Nat) : (s.modSettings f).settings = f s.settings := rfl
@[simp] theorem State.modSettings_rx (f : List Nat → List Nat) : (s.modSettings f).rx = s.rx := rfl
@[simp] theorem State.modSettings_cal (f : List Nat → List Nat) : (s.modSettings f).cal = s.cal := rfl
@[simp] theorem State.modSettings_tx (f : List Nat → List Nat) : (s.modSettings f).tx = s.tx := rfl
@[simp] theorem State.modSettings_call (f : List Nat → List Nat) : (s.modSettings f).call = s.call := rfl
@[simp] theorem State.modSettings_store (f : List Nat → List Nat) : (s.modSettings f).store = s.store := rfl
@[simp] theorem State.modSettings_route (f : List Nat → List Nat) : (s.modSettings f).route = s.route := rfl
@[simp] theorem State.modSettings_matcher (f : List Nat → List Nat) : (s.modSettings f).matcher = s.matcher := rfl
@[simp] theorem State.modSettings_answer (f : List Nat → List Nat) : (s.modSettings f).answer = s.answer := rfl
@[simp] theorem State.modSettings_kb (f : List Nat → List Nat) : (s.modSettings f).kb = s.kb := rfl
@[simp] theorem State.modSettings_printer (f : List Nat → List Nat) : (s.modSettings f).printer = s.printer := rfl
@[simp] theorem State.modSettings_bell (f : List Nat → List Nat) : (s.modSettings f).bell = s.bell := rfl
@[simp] theorem State.modSettings_punch (f : List Nat → List Nat) : (s.modSettings f).punch = s.punch := rfl
@[simp] theorem State.modSettings_motor (f : List Nat → List Nat) : (s.modSettings f).motor = s.motor := rfl
@[simp] theorem State.modSettings_station (f : List Nat → List Nat) : (s.modSettings f).station = s.station := rfl
@[simp] theorem State.modSettings_link (f : List Nat → List Nat) : (s.modSettings f).link = s.link := rfl
@[simp] theorem State.modSettings_cond (f : List Nat → List Nat) : (s.modSettings f).cond = s.cond := rfl
@[simp] theorem State.modSettings_hostRx (f : List Nat → List Nat) : (s.modSettings f).hostRx = s.hostRx := rfl
@[simp] theorem State.modSettings_freeCount (f : List Nat → List Nat) : (s.modSettings f).freeCount = s.freeCount := rfl
@[simp] theorem State.modSettings_pending (f : List Nat → List Nat) : (s.modSettings f).pending = s.pending := rfl

@[simp] theorem State.modRx_pins (f : Receiver → Receiver) : (s.modRx f).pins = s.pins := rfl
@[simp] theorem State.modRx_translate (f : Receiver → Receiver) : (s.modRx f).translate = s.translate := rfl
@[simp] theorem State.modRx_settings (f : Receiver → Receiver) : (s.modRx f).settings = s.settings := rfl
@[simp] theorem State.modRx_rx (f : Receiver → Receiver) : (s.modRx f).rx = f s.rx := rfl
@[simp] theorem State.modRx_cal (f : Receiver → Receiver) : (s.modRx f).cal = s.cal := rfl
@[simp] theorem State.modRx_tx (f : Receiver → Receiver) : (s.modRx f).tx = s.tx := rfl
@[simp] theorem State.modRx_call (f : Receiver → Receiver) : (s.modRx f).call = s.call := rfl
@[simp] theorem State.modRx_store (f : Receiver → Receiver) : (s.modRx f).store = s.store := rfl
@[simp] theorem State.modRx_route (f : Receiver → Receiver) : (s.modRx f).route = s.route := rfl
@[simp] theorem State.modRx_matcher (f : Receiver → Receiver) : (s.modRx f).matcher = s.matcher := rfl
@[simp] theorem State.modRx_answer (f : Receiver → Receiver) : (s.modRx f).answer = s.answer := rfl
@[simp] theorem State.modRx_kb (f : Receiver → Receiver) : (s.modRx f).kb = s.kb := rfl
@[simp] theorem State.modRx_printer (f : Receiver → Receiver) : (s.modRx f).printer = s.printer := rfl
@[simp] theorem State.modRx_bell (f : Receiver → Receiver) : (s.modRx f).bell = s.bell := rfl
@[simp] theorem State.modRx_punch (f : Receiver → Receiver) : (s.modRx f).punch = s.punch := rfl
@[simp] theorem State.modRx_motor (f : Receiver → Receiver) : (s.modRx f).motor = s.motor := rfl
@[simp] theorem State.modRx_station (f : Receiver → Receiver) : (s.modRx f).station = s.station := rfl
@[simp] theorem State.modRx_link (f : Receiver → Receiver) : (s.modRx f).link = s.link := rfl
@[simp] theorem State.modRx_cond (f : Receiver → Receiver) : (s.modRx f).cond = s.cond := rfl
@[simp] theorem State.modRx_hostRx (f : Receiver → Receiver) : (s.modRx f).hostRx = s.hostRx := rfl
@[simp] theorem State.modRx_freeCount (f : Receiver → Receiver) : (s.modRx f).freeCount = s.freeCount := rfl
@[simp] theorem State.modRx_pending (f : Receiver → Receiver) : (s.modRx f).pending = s.pending := rfl

@[simp] theorem State.modCal_pins (f : Calibrator → Calibrator) : (s.modCal f).pins = s.pins := rfl
@[simp] theorem State.modCal_translate (f : Calibrator → Calibrator) : (s.modCal f).translate = s.translate := rfl
@[simp] theorem State.modCal_settings (f : Calibrator → Calibrator) : (s.modCal f).settings = s.settings := rfl
@[simp] theorem State.modCal_rx (f : Calibrator → Calibrator) : (s.modCal f).rx = s.rx := rfl
@[simp] theorem State.modCal_cal (f : Calibrator → Calibrator) : (s.modCal f).cal = f s.cal := rfl
@[simp] theorem State.modCal_tx (f : Calibrator → Calibrator) : (s.modCal f).tx = s.tx := rfl
@[simp] theorem State.modCal_call (f : Calibrator → Calibrator) : (s.modCal f).call = s.call := rfl
@[simp] theorem State.modCal_store (f : Calibrator → Calibrator) : (s.modCal f).store = s.store := rfl
@[simp] theorem State.modCal_route (f : Calibrator → Calibrator) : (s.modCal f).route = s.route := rfl
@[simp] theorem State.modCal_matcher (f : Calibrator → Calibrator) : (s.modCal f).matcher = s.matcher := rfl
@[simp] theorem State.modCal_answer (f : Calibrator → Calibrator) : (s.modCal f).answer = s.answer := rfl
@[simp] theorem State.modCal_kb (f : Calibrator → Calibrator) : (s.modCal f).kb = s.kb := rfl
@[simp] theorem State.modCal_printer (f : Calibrator → Calibrator) : (s.modCal f).printer = s.printer := rfl
@[simp] theorem State.modCal_bell (f : Calibrator → Calibrator) : (s.modCal f).bell = s.bell := rfl
@[simp] theorem State.modCal_punch (f : Calibrator → Calibrator) : (s.modCal f).punch = s.punch := rfl
@[simp] theorem State.modCal_motor (f : Calibrator → Calibrator) : (s.modCal f).motor = s.motor := rfl
@[simp] theorem State.modCal_station (f : Calibrator → Calibrator) : (s.modCal f).station = s.station := rfl
@[simp] theorem State.modCal_link (f : Calibrator → Calibrator) : (s.modCal f).link = s.link := rfl
@[simp] theorem State.modCal_cond (f : Calibrator → Calibrator) : (s.modCal f).cond = s.cond := rfl
@[simp] theorem State.modCal_hostRx (f : Calibrator → Calibrator) : (s.modCal f).hostRx = s.hostRx := rfl
@[simp] theorem State.modCal_freeCount (f : Calibrator → Calibrator) : (s.modCal f).freeCount = s.freeCount := rfl
@[simp] theorem State.modCal_pending (f : Calibrator → Calibrator) : (s.modCal f).pending = s.pending := rfl

@[simp] theorem State.modTx_pins (f : Transmitter → Transmitter) : (s.modTx f).pins = s.pins := rfl
@[simp] theorem State.modTx_translate (f : Transmitter → Transmitter) : (s.modTx f).translate = s.translate := rfl
@[simp] theorem State.modTx_settings (f : Transmitter → Transmitter) : (s.modTx f).settings = s.settings := rfl
@[simp] theorem State.modTx_rx (f : Transmitter → Transmitter) : (s.modTx f).rx = s.rx := rfl
@[simp] theorem State.modTx_cal (f : Transmitter → Transmitter) : (s.modTx f).cal = s.cal := rfl
@[simp] theorem State.modTx_tx (f : Transmitter → Transmitter) : (s.modTx f).tx = f s.tx := rfl
@[simp] theorem State.modTx_call (f : Transmitter → Transmitter) : (s.modTx f).call = s.call := rfl
@[simp] theorem State.modTx_store (f : Transmitter → Transmitter) : (s.modTx f).store = s.store := rfl
@[simp] theorem State.modTx_route (f : Transmitter → Transmitter) : (s.modTx f).route = s.route := rfl
@[simp] theorem State.modTx_matcher (f : Transmitter → Transmitter) : (s.modTx f).matcher = s.matcher := rfl
@[simp] theorem State.modTx_answer (f : Transmitter → Transmitter) : (s.modTx f).answer = s.answer := rfl
@[simp] theorem State.modTx_kb (f : Transmitter → Transmitter) : (s.modTx f).kb = s.kb := rfl
@[simp] theorem State.modTx_printer (f : Transmitter → Transmitter) : (s.modTx f).printer = s.printer := rfl
@[simp] theorem State.modTx_bell (f : Transmitter → Transmitter) : (s.modTx f).bell = s.bell := rfl
@[simp] theorem State.modTx_punch (f : Transmitter → Transmitter) : (s.modTx f).punch = s.punch := rfl
@[simp] theorem State.modTx_motor (f : Transmitter → Transmitter) : (s.modTx f).motor = s.motor := rfl
@[simp] theorem State.modTx_station (f : Transmitter → Transmitter) : (s.modTx f).station = s.station := rfl
@[simp] theorem State.modTx_link (f : Transmitter → Transmitter) : (s.modTx f).link = s.link := rfl
@[simp] theorem State.modTx_cond (f : Transmitter → Transmitter) : (s.modTx f).cond = s.cond := rfl
@[simp] theorem State.modTx_hostRx (f : Transmitter → Transmitter) : (s.modTx f).hostRx = s.hostRx := rfl
@[simp] theorem State.modTx_freeCount (f : Transmitter → Transmitter) : (s.modTx f).freeCount = s.freeCount := rfl
@[simp] theorem State.modTx_pending (f : Transmitter → Transmitter) : (s.modTx f).pending = s.pending := rfl

@[simp] theorem State.modCall_pins (f : Call → Call) : (s.modCall f).pins = s.pins := rfl
@[simp] theorem State.modCall_translate (f : Call → Call) : (s.modCall f).translate = s.translate := rfl
@[simp] theorem State.modCall_settings (f : Call → Call) : (s.modCall f).settings = s.settings := rfl
@[simp] theorem State.modCall_rx (f : Call → Call) : (s.modCall f).rx = s.rx := rfl
@[simp] theorem State.modCall_cal (f : Call → Call) : (s.modCall f).cal = s.cal := rfl
@[simp] theorem State.modCall_tx (f : Call → Call) : (s.modCall f).tx = s.tx := rfl
@[simp] theorem State.modCall_call (f : Call → Call) : (s.modCall f).call = f s.call := rfl
@[simp] theorem State.modCall_store (f : Call → Call) : (s.modCall f).store = s.store := rfl
@[simp] theorem State.modCall_route (f : Call → Call) : (s.modCall f).route = s.route := rfl
@[simp] theorem State.modCall_matcher (f : Call → Call) : (s.modCall f).matcher = s.matcher := rfl
@[simp] theorem State.modCall_answer (f : Call → Call) : (s.modCall f).answer = s.answer := rfl
@[simp] theorem State.modCall_kb (f : Call → Call) : (s.modCall f).kb = s.kb := rfl
@[simp] theorem State.modCall_printer (f : Call → Call) : (s.modCall f).printer = s.printer := rfl
@[simp] theorem State.modCall_bell (f : Call → Call) : (s.modCall f).bell = s.bell := rfl
@[simp] theorem State.modCall_punch (f : Call → Call) : (s.modCall f).punch = s.punch := rfl
@[simp] theorem State.modCall_motor (f : Call → Call) : (s.modCall f).motor = s.motor := rfl
@[simp] theorem State.modCall_station (f : Call → Call) : (s.modCall f).station = s.station := rfl
@[simp] theorem State.modCall_link (f : Call → Call) : (s.modCall f).link = s.link := rfl
@[simp] theorem State.modCall_cond (f : Call → Call) : (s.modCall f).cond = s.cond := rfl
@[simp] theorem State.modCall_hostRx (f : Call → Call) : (s.modCall f).hostRx = s.hostRx := rfl
@[simp] theorem State.modCall_freeCount (f : Call → Call) : (s.modCall f).freeCount = s.freeCount := rfl
@[simp] theorem State.modCall_pending (f : Call → Call) : (s.modCall f).pending = s.pending := rfl

@[simp] theorem State.modStore_pins (f : Store → Store) : (s.modStore f).pins = s.pins := rfl
@[simp] theorem State.modStore_translate (f : Store → Store) : (s.modStore f).translate = s.translate := rfl
@[simp] theorem State.modStore_settings (f : Store → Store) : (s.modStore f).settings = s.settings := rfl
@[simp] theorem State.modStore_rx (f : Store → Store) : (s.modStore f).rx = s.rx := rfl
@[simp] theorem State.modStore_cal (f : Store → Store) : (s.modStore f).cal = s.cal := rfl
@[simp] theorem State.modStore_tx (f : Store → Store) : (s.modStore f).tx = s.tx := rfl
@[simp] theorem State.modStore_call (f : Store → Store) : (s.modStore f).call = s.call := rfl
@[simp] theorem State.modStore_store (f : Store → Store) : (s.modStore f).store = f s.store := rfl
@[simp] theorem State.modStore_route (f : Store → Store) : (s.modStore f).route = s.route := rfl
@[simp] theorem State.modStore_matcher (f : Store → Store) : (s.modStore f).matcher = s.matcher := rfl
@[simp] theorem State.modStore_answer (f : Store → Store) : (s.modStore f).answer = s.answer := rfl
@[simp] theorem State.modStore_kb (f : Store → Store) : (s.modStore f).kb = s.kb := rfl
@[simp] theorem State.modStore_printer (f : Store → Store) : (s.modStore f).printer = s.printer := rfl
@[simp] theorem State.modStore_bell (f : Store → Store) : (s.modStore f).bell = s.bell := rfl
@[simp] theorem State.modStore_punch (f : Store → Store) : (s.modStore f).punch = s.punch := rfl
@[simp] theorem State.modStore_motor (f : Store → Store) : (s.modStore f).motor = s.motor := rfl
@[simp] theorem State.modStore_station (f : Store → Store) : (s.modStore f).station = s.station := rfl
@[simp] theorem State.modStore_link (f : Store → Store) : (s.modStore f).link = s.link := rfl
@[simp] theorem State.modStore_cond (f : Store → Store) : (s.modStore f).cond = s.cond := rfl
@[simp] theorem State.modStore_hostRx (f : Store → Store) : (s.modStore f).hostRx = s.hostRx := rfl
@[simp] theorem State.modStore_freeCount (f : Store → Store) : (s.modStore f).freeCount = s.freeCount := rfl
@[simp] theorem State.modStore_pending (f : Store → Store) : (s.modStore f).pending = s.pending := rfl

@[simp] theorem State.modRoute_pins (f : Route → Route) : (s.modRoute f).pins = s.pins := rfl
@[simp] theorem State.modRoute_translate (f : Route → Route) : (s.modRoute f).translate = s.translate := rfl
@[simp] theorem State.modRoute_settings (f : Route → Route) : (s.modRoute f).settings = s.settings := rfl
@[simp] theorem State.modRoute_rx (f : Route → Route) : (s.modRoute f).rx = s.rx := rfl
@[simp] theorem State.modRoute_cal (f : Route → Route) : (s.modRoute f).cal = s.cal := rfl
@[simp] theorem State.modRoute_tx (f : Route → Route) : (s.modRoute f).tx = s.tx := rfl
@[simp] theorem State.modRoute_call (f : Route → Route) : (s.modRoute f).call = s.call := rfl
@[simp] theorem State.modRoute_store (f : Route → Route) : (s.modRoute f).store = s.store := rfl
@[simp] theorem State.modRoute_route (f : Route → Route) : (s.modRoute f).route = f s.route := rfl
@[simp] theorem State.modRoute_matcher (f : Route → Route) : (s.modRoute f).matcher = s.matcher := rfl
@[simp] theorem State.modRoute_answer (f : Route → Route) : (s.modRoute f).answer = s.answer := rfl
@[simp] theorem State.modRoute_kb (f : Route → Route) : (s.modRoute f).kb = s.kb := rfl
@[simp] theorem State.modRoute_printer (f : Route → Route) : (s.modRoute f).printer = s.printer := rfl
@[simp] theorem State.modRoute_bell (f : Route → Route) : (s.modRoute f).bell = s.bell := rfl
@[simp] theorem State.modRoute_punch (f : Route → Route) : (s.modRoute f).punch = s.punch := rfl
@[simp] theorem State.modRoute_motor (f : Route → Route) : (s.modRoute f).motor = s.motor := rfl
@[simp] theorem State.modRoute_station (f : Route → Route) : (s.modRoute f).station = s.station := rfl
@[simp] theorem State.modRoute_link (f : Route → Route) : (s.modRoute f).link = s.link := rfl
@[simp] theorem State.modRoute_cond (f : Route → Route) : (s.modRoute f).cond = s.cond := rfl
@[simp] theorem State.modRoute_hostRx (f : Route → Route) : (s.modRoute f).hostRx = s.hostRx := rfl
@[simp] theorem State.modRoute_freeCount (f : Route → Route) : (s.modRoute f).freeCount = s.freeCount := rfl
@[simp] theorem State.modRoute_pending (f : Route → Route) : (s.modRoute f).pending = s.pending := rfl

@[simp] theorem State.modMatcher_pins (f : Matcher → Matcher) : (s.modMatcher f).pins = s.pins := rfl
@[simp] theorem State.modMatcher_translate (f : Matcher → Matcher) : (s.modMatcher f).translate = s.translate := rfl
@[simp] theorem State.modMatcher_settings (f : Matcher → Matcher) : (s.modMatcher f).settings = s.settings := rfl
@[simp] theorem State.modMatcher_rx (f : Matcher → Matcher) : (s.modMatcher f).rx = s.rx := rfl
@[simp] theorem State.modMatcher_cal (f : Matcher → Matcher) : (s.modMatcher f).cal = s.cal := rfl
@[simp] theorem State.modMatcher_tx (f : Matcher → Matcher) : (s.modMatcher f).tx = s.tx := rfl
@[simp] theorem State.modMatcher_call (f : Matcher → Matcher) : (s.modMatcher f).call = s.call := rfl
@[simp] theorem State.modMatcher_store (f : Matcher → Matcher) : (s.modMatcher f).store = s.store := rfl
@[simp] theorem State.modMatcher_route (f : Matcher → Matcher) : (s.modMatcher f).route = s.route := rfl
@[simp] theorem State.modMatcher_matcher (f : Matcher → Matcher) : (s.modMatcher f).matcher = f s.matcher := rfl
@[simp] theorem State.modMatcher_answer (f : Matcher → Matcher) : (s.modMatcher f).answer = s.answer := rfl
@[simp] theorem State.modMatcher_kb (f : Matcher → Matcher) : (s.modMatcher f).kb = s.kb := rfl
@[simp] theorem State.modMatcher_printer (f : Matcher → Matcher) : (s.modMatcher f).printer = s.printer := rfl
@[simp] theorem State.modMatcher_bell (f : Matcher → Matcher) : (s.modMatcher f).bell = s.bell := rfl
@[simp] theorem State.modMatcher_punch (f : Matcher → Matcher) : (s.modMatcher f).punch = s.punch := rfl
@[simp] theorem State.modMatcher_motor (f : Matcher → Matcher) : (s.modMatcher f).motor = s.motor := rfl
@[simp] theorem State.modMatcher_station (f : Matcher → Matcher) : (s.modMatcher f).station = s.station := rfl
@[simp] theorem State.modMatcher_link (f : Matcher → Matcher) : (s.modMatcher f).link = s.link := rfl
@[simp] theorem State.modMatcher_cond (f : Matcher → Matcher) : (s.modMatcher f).cond = s.cond := rfl
@[simp] theorem State.modMatcher_hostRx (f : Matcher → Matcher) : (s.modMatcher f).hostRx = s.hostRx := rfl
@[simp] theorem State.modMatcher_freeCount (f : Matcher → Matcher) : (s.modMatcher f).freeCount = s.freeCount := rfl
@[simp] theorem State.modMatcher_pending (f : Matcher → Matcher) : (s.modMatcher f).pending = s.pending := rfl

@[simp] theorem State.modAnswer_pins (f : Answerback → Answerback) : (s.modAnswer f).pins = s.pins := rfl
@[simp] theorem State.modAnswer_translate (f : Answerback → Answerback) : (s.modAnswer f).translate = s.translate := rfl
@[simp] theorem State.modAnswer_settings (f : Answerback → Answerback) : (s.modAnswer f).settings = s.settings := rfl
@[simp] theorem State.modAnswer_rx (f : Answerback → Answerback) : (s.modAnswer f).rx = s.rx := rfl
@[simp] theorem State.modAnswer_cal (f : Answerback → Answerback) : (s.modAnswer f).cal = s.cal := rfl
@[simp] theorem State.modAnswer_tx (f : Answerback → Answerback) : (s.modAnswer f).tx = s.tx := rfl
@[simp] theorem State.modAnswer_call (f : Answerback → Answerback) : (s.modAnswer f).call = s.call := rfl
@[simp] theorem State.modAnswer_store (f : Answerback → Answerback) : (s.modAnswer f).store = s.store := rfl
@[simp] theorem State.modAnswer_route (f : Answerback → Answerback) : (s.modAnswer f).route = s.route := rfl
@[simp] theorem State.modAnswer_matcher (f : Answerback → Answerback) : (s.modAnswer f).matcher = s.matcher := rfl
@[simp] theorem State.modAnswer_answer (f : Answerback → Answerback) : (s.modAnswer f).answer = f s.answer := rfl
@[simp] theorem State.modAnswer_kb (f : Answerback → Answerback) : (s.modAnswer f).kb = s.kb := rfl
@[simp] theorem State.modAnswer_printer (f : Answerback → Answerback) : (s.modAnswer f).printer = s.printer := rfl
@[simp] theorem State.modAnswer_bell (f : Answerback → Answerback) : (s.modAnswer f).bell = s.bell := rfl
@[simp] theorem State.modAnswer_punch (f : Answerback → Answerback) : (s.modAnswer f).punch = s.punch := rfl
@[simp] theorem State.modAnswer_motor (f : Answerback → Answerback) : (s.modAnswer f).motor = s.motor := rfl
@[simp] theorem State.modAnswer_station (f : Answerback → Answerback) : (s.modAnswer f).station = s.station := rfl
@[simp] theorem State.modAnswer_link (f : Answerback → Answerback) : (s.modAnswer f).link = s.link := rfl
@[simp] theorem State.modAnswer_cond (f : Answerback → Answerback) : (s.modAnswer f).cond = s.cond := rfl
@[simp] theorem State.modAnswer_hostRx (f : Answerback → Answerback) : (s.modAnswer f).hostRx = s.hostRx := rfl
@[simp] theorem State.modAnswer_freeCount (f : Answerback → Answerback) : (s.modAnswer f).freeCount = s.freeCount := rfl
@[simp] theorem State.modAnswer_pending (f : Answerback → Answerback) : (s.modAnswer f).pending = s.pending := rfl

@[simp] theorem State.modKb_pins (f : Keyboard → Keyboard) : (s.modKb f).pins = s.pins := rfl
@[simp] theorem State.modKb_translate (f : Keyboard → Keyboard) : (s.modKb f).translate = s.translate := rfl
@[simp] theorem State.modKb_settings (f : Keyboard → Keyboard) : (s.modKb f).settings = s.settings := rfl
@[simp] theorem State.modKb_rx (f : Keyboard → Keyboard) : (s.modKb f).rx = s.rx := rfl
@[simp] theorem State.modKb_cal (f : Keyboard → Keyboard) : (s.modKb f).cal = s.cal := rfl
@[simp] theorem State.modKb_tx (f : Keyboard → Keyboard) : (s.modKb f).tx = s.tx := rfl
@[simp] theorem State.modKb_call (f : Keyboard → Keyboard) : (s.modKb f).call = s.call := rfl
@[simp] theorem State.modKb_store (f : Keyboard → Keyboard) : (s.modKb f).store = s.store := rfl
@[simp] theorem State.modKb_route (f : Keyboard → Keyboard) : (s.modKb f).route = s.route := rfl
@[simp] theorem State.modKb_matcher (f : Keyboard → Keyboard) : (s.modKb f).matcher = s.matcher := rfl
@[simp] theorem State.modKb_answer (f : Keyboard → Keyboard) : (s.modKb f).answer = s.answer := rfl
@[simp] theorem State.modKb_kb (f : Keyboard → Keyboard) : (s.modKb f).kb = f s.kb := rfl
@[simp] theorem State.modKb_printer (f : Keyboard → Keyboard) : (s.modKb f).printer = s.printer := rfl
@[simp] theorem State.modKb_bell (f : Keyboard → Keyboard) : (s.modKb f).bell = s.bell := rfl
@[simp] theorem State.modKb_punch (f : Keyboard → Keyboard) : (s.modKb f).punch = s.punch := rfl
@[simp] theorem State.modKb_motor (f : Keyboard → Keyboard) : (s.modKb f).motor = s.motor := rfl
@[simp] theorem State.modKb_station (f : Keyboard → Keyboard) : (s.modKb f).station = s.station := rfl
@[simp] theorem State.modKb_link (f : Keyboard → Keyboard) : (s.modKb f).link = s.link := rfl
@[simp] theorem State.modKb_cond (f : Keyboard → Keyboard) : (s.modKb f).cond = s.cond := rfl
@[simp] theorem State.modKb_hostRx (f : Keyboard → Keyboard) : (s.modKb f).hostRx = s.hostRx := rfl
@[simp] theorem State.modKb_freeCount (f : Keyboard → Keyboard) : (s.modKb f).freeCount = s.freeCount := rfl
@[simp] theorem State.modKb_pending (f : Keyboard → Keyboard) : (s.modKb f).pending = s.pending := rfl

@[simp] theorem State.modPrinter_pins (f : Printer → Printer) : (s.modPrinter f).pins = s.pins := rfl
@[simp] theorem State.modPrinter_translate (f : Printer → Printer) : (s.modPrinter f).translate = s.translate := rfl
@[simp] theorem State.modPrinter_settings (f : Printer → Printer) : (s.modPrinter f).settings = s.settings := rfl
@[simp] theorem State.modPrinter_rx (f : Printer → Printer) : (s.modPrinter f).rx = s.rx := rfl
@[simp] theorem State.modPrinter_cal (f : Printer → Printer) : (s.modPrinter f).cal = s.cal := rfl
@[simp] theorem State.modPrinter_tx (f : Printer → Printer) : (s.modPrinter f).tx = s.tx := rfl
@[simp] theorem State.modPrinter_call (f : Printer → Printer) : (s.modPrinter f).call = s.call := rfl
@[simp] theorem State.modPrinter_store (f : Printer → Printer) : (s.modPrinter f).store = s.store := rfl
@[simp] theorem State.modPrinter_route (f : Printer → Printer) : (s.modPrinter f).route = s.route := rfl
@[simp] theorem State.modPrinter_matcher (f : Printer → Printer) : (s.modPrinter f).matcher = s.matcher := rfl
@[simp] theorem State.modPrinter_answer (f : Printer → Printer) : (s.modPrinter f).answer = s.answer := rfl
@[simp] theorem State.modPrinter_kb (f : Printer → Printer) : (s.modPrinter f).kb = s.kb := rfl
@[simp] theorem State.modPrinter_printer (f : Printer → Printer) : (s.modPrinter f).printer = f s.printer := rfl
@[simp] theorem State.modPrinter_bell (f : Printer → Printer) : (s.modPrinter f).bell = s.bell := rfl
@[simp] theorem State.modPrinter_punch (f : Printer → Printer) : (s.modPrinter f).punch = s.punch := rfl
@[simp] theorem State.modPrinter_motor (f : Printer → Printer) : (s.modPrinter f).motor = s.motor := rfl
@[simp] theorem State.modPrinter_station (f : Printer → Printer) : (s.modPrinter f).station = s.station := rfl
@[simp] theorem State.modPrinter_link (f : Printer → Printer) : (s.modPrinter f).link = s.link := rfl
@[simp] theorem State.modPrinter_cond (f : Printer → Printer) : (s.modPrinter f).cond = s.cond := rfl
@[simp] theorem State.modPrinter_hostRx (f : Printer → Printer) : (s.modPrinter f).hostRx = s.hostRx := rfl
@[simp] theorem State.modPrinter_freeCount (f : Printer → Printer) : (s.modPrinter f).freeCount = s.freeCount := rfl
@[simp] theorem State.modPrinter_pending (f : Printer → Printer) : (s.modPrinter f).pending = s.pending := rfl

@[simp] theorem State.modBell_pins (f : Timer → Timer) : (s.modBell f).pins = s.pins := rfl
@[simp] theorem State.modBell_translate (f : Timer → Timer) : (s.modBell f).translate = s.translate := rfl
@[simp] theorem State.modBell_settings (f : Timer → Timer) : (s.modBell f).settings = s.settings := rfl
@[simp] theorem State.modBell_rx (f : Timer → Timer) : (s.modBell f).rx = s.rx := rfl
@[simp] theorem State.modBell_cal (f : Timer → Timer) : (s.modBell f).cal = s.cal := rfl
@[simp] theorem State.modBell_tx (f : Timer → Timer) : (s.modBell f).tx = s.tx := rfl
@[simp] theorem State.modBell_call (f : Timer → Timer) : (s.modBell f).call = s.call := rfl
@[simp] theorem State.modBell_store (f : Timer → Timer) : (s.modBell f).store = s.store := rfl
@[simp] theorem State.modBell_route (f : Timer → Timer) : (s.modBell f).route = s.route := rfl
@[simp] theorem State.modBell_matcher (f : Timer → Timer) : (s.modBell f).matcher = s.matcher := rfl
@[simp] theorem State.modBell_answer (f : Timer → Timer) : (s.modBell f).answer = s.answer := rfl
@[simp] theorem State.modBell_kb (f : Timer → Timer) : (s.modBell f).kb = s.kb := rfl
@[simp] theorem State.modBell_printer (f : Timer → Timer) : (s.modBell f).printer = s.printer := rfl
@[simp] theorem State.modBell_bell (f : Timer → Timer) : (s.modBell f).bell = f s.bell := rfl
@[simp] theorem State.modBell_punch (f : Timer → Timer) : (s.modBell f).punch = s.punch := rfl
@[simp] theorem State.modBell_motor (f : Timer → Timer) : (s.modBell f).motor = s.motor := rfl
@[simp] theorem State.modBell_station (f : Timer → Timer) : (s.modBell f).station = s.station := rfl
@[simp] theorem State.modBell_link (f : Timer → Timer) : (s.modBell f).link = s.link := rfl
@[simp] theorem State.modBell_cond (f : Timer → Timer) : (s.modBell f).cond = s.cond := rfl
@[simp] theorem State.modBell_hostRx (f : Timer → Timer) : (s.modBell f).hostRx = s.hostRx := rfl
@[simp] theorem State.modBell_freeCount (f : Timer → Timer) : (s.modBell f).freeCount = s.freeCount := rfl
@[simp] theorem State.modBell_pending (f : Timer → Timer) : (s.modBell f).pending = s.pending := rfl

@[simp] theorem State.modPunch_pins (f : Punch → Punch) : (s.modPunch f).pins = s.pins := rfl
@[simp] theorem State.modPunch_translate (f : Punch → Punch) : (s.modPunch f).translate = s.translate := rfl
@[simp] theorem State.modPunch_settings (f : Punch → Punch) : (s.modPunch f).settings = s.settings := rfl
@[simp] theorem State.modPunch_rx (f : Punch → Punch) : (s.modPunch f).rx = s.rx := rfl
@[simp] theorem State.modPunch_cal (f : Punch → Punch) : (s.modPunch f).cal = s.cal := rfl
@[simp] theorem State.modPunch_tx (f : Punch → Punch) : (s.modPunch f).tx = s.tx := rfl
@[simp] theorem State.modPunch_call (f : Punch → Punch) : (s.modPunch f).call = s.call := rfl
@[simp] theorem State.modPunch_store (f : Punch → Punch) : (s.modPunch f).store = s.store := rfl
@[simp] theorem State.modPunch_route (f : Punch → Punch) : (s.modPunch f).route = s.route := rfl
@[simp] theorem State.modPunch_matcher (f : Punch → Punch) : (s.modPunch f).matcher = s.matcher := rfl
@[simp] theorem State.modPunch_answer (f : Punch → Punch) : (s.modPunch f).answer = s.answer := rfl
@[simp] theorem State.modPunch_kb (f : Punch → Punch) : (s.modPunch f).kb = s.kb := rfl
@[simp] theorem State.modPunch_printer (f : Punch → Punch) : (s.modPunch f).printer = s.printer := rfl
@[simp] theorem State.modPunch_bell (f : Punch → Punch) : (s.modPunch f).bell = s.bell := rfl
@[simp] theorem State.modPunch_punch (f : Punch → Punch) : (s.modPunch f).punch = f s.punch := rfl
@[simp] theorem State.modPunch_motor (f : Punch → Punch) : (s.modPunch f).motor = s.motor := rfl
@[simp] theorem State.modPunch_station (f : Punch → Punch) : (s.modPunch f).station = s.station := rfl
@[simp] theorem State.modPunch_link (f : Punch → Punch) : (s.modPunch f).link = s.link := rfl
@[simp] theorem State.modPunch_cond (f : Punch → Punch) : (s.modPunch f).cond = s.cond := rfl
@[simp] theorem State.modPunch_hostRx (f : Punch → Punch) : (s.modPunch f).hostRx = s.hostRx := rfl
@[simp] theorem State.modPunch_freeCount (f : Punch → Punch) : (s.modPunch f).freeCount = s.freeCount := rfl
@[simp] theorem State.modPunch_pending (f : Punch → Punch) : (s.modPunch f).pending = s.pending := rfl

@[simp] theorem State.modMotor_pins (f : Motor → Motor) : (s.modMotor f).pins = s.pins := rfl
@[simp] theorem State.modMotor_translate (f : Motor → Motor) : (s.modMotor f).translate = s.translate := rfl
@[simp] theorem State.modMotor_settings (f : Motor → Motor) : (s.modMotor f).settings = s.settings := rfl
@[simp] theorem State.modMotor_rx (f : Motor → Motor) : (s.modMotor f).rx = s.rx := rfl
@[simp] theorem State.modMotor_cal (f : Motor → Motor) : (s.modMotor f).cal = s.cal := rfl
@[simp] theorem State.modMotor_tx (f : Motor → Motor) : (s.modMotor f).tx = s.tx := rfl
@[simp] theorem State.modMotor_call (f : Motor → Motor) : (s.modMotor f).call = s.call := rfl
@[simp] theorem State.modMotor_store (f : Motor → Motor) : (s.modMotor f).store = s.store := rfl
@[simp] theorem State.modMotor_route (f : Motor → Motor) : (s.modMotor f).route = s.route := rfl
@[simp] theorem State.modMotor_matcher (f : Motor → Motor) : (s.modMotor f).matcher = s.matcher := rfl
@[simp] theorem State.modMotor_answer (f : Motor → Motor) : (s.modMotor f).answer = s.answer := rfl
@[simp] theorem State.modMotor_kb (f : Motor → Motor) : (s.modMotor f).kb = s.kb := rfl
@[simp] theorem State.modMotor_printer (f : Motor → Motor) : (s.modMotor f).printer = s.printer := rfl
@[simp] theorem State.modMotor_bell (f : Motor → Motor) : (s.modMotor f).bell = s.bell := rfl
@[simp] theorem State.modMotor_punch (f : Motor → Motor) : (s.modMotor f).punch = s.punch := rfl
@[simp] theorem State.modMotor_motor (f : Motor → Motor) : (s.modMotor f).motor = f s.motor := rfl
@[simp] theorem State.modMotor_station (f : Motor → Motor) : (s.modMotor f).station = s.station := rfl
@[simp] theorem State.modMotor_link (f : Motor → Motor) : (s.modMotor f).link = s.link := rfl
@[simp] theorem State.modMotor_cond (f : Motor → Motor) : (s.modMotor f).cond = s.cond := rfl
@[simp] theorem State.modMotor_hostRx (f : Motor → Motor) : (s.modMotor f).hostRx = s.hostRx := rfl
@[simp] theorem State.modMotor_freeCount (f : Motor → Motor) : (s.modMotor f).freeCount = s.freeCount := rfl
@[simp] theorem State.modMotor_pending (f : Motor → Motor) : (s.modMotor f).pending = s.pending := rfl

@[simp] theorem State.modStation_pins (f : Station → Station) : (s.modStation f).pins = s.pins := rfl
@[simp] theorem State.modStation_translate (f : Station → Station) : (s.modStation f).translate = s.translate := rfl
@[simp] theorem State.modStation_settings (f : Station → Station) : (s.modStation f).settings = s.settings := rfl
@[simp] theorem State.modStation_rx (f : Station → Station) : (s.modStation f).rx = s.rx := rfl
@[simp] theorem State.modStation_cal (f : Station → Station) : (s.modStation f).cal = s.cal := rfl
@[simp] theorem State.modStation_tx (f : Station → Station) : (s.modStation f).tx = s.tx := rfl
@[simp] theorem State.modStation_call (f : Station → Station) : (s.modStation f).call = s.call := rfl
@[simp] theorem State.modStation_store (f : Station → Station) : (s.modStation f).store = s.store := rfl
@[simp] theorem State.modStation_route (f : Station → Station) : (s.modStation f).route = s.route := rfl
@[simp] theorem State.modStation_matcher (f : Station → Station) : (s.modStation f).matcher = s.matcher := rfl
@[simp] theorem State.modStation_answer (f : Station → Station) : (s.modStation f).answer = s.answer := rfl
@[simp] theorem State.modStation_kb (f : Station → Station) : (s.modStation f).kb = s.kb := rfl
@[simp] theorem State.modStation_printer (f : Station → Station) : (s.modStation f).printer = s.printer := rfl
@[simp] theorem State.modStation_bell (f : Station → Station) : (s.modStation f).bell = s.bell := rfl
@[simp] theorem State.modStation_punch (f : Station → Station) : (s.modStation f).punch = s.punch := rfl
@[simp] theorem State.modStation_motor (f : Station → Station) : (s.modStation f).motor = s.motor := rfl
@[simp] theorem State.modStation_station (f : Station → Station) : (s.modStation f).station = f s.station := rfl
@[simp] theorem State.modStation_link (f : Station → Station) : (s.modStation f).link = s.link := rfl
@[simp] theorem State.modStation_cond (f : Station → Station) : (s.modStation f).cond = s.cond := rfl
@[simp] theorem State.modStation_hostRx (f : Station → Station) : (s.modStation f).hostRx = s.hostRx := rfl
@[simp] theorem State.modStation_freeCount (f : Station → Station) : (s.modStation f).freeCount = s.freeCount := rfl
@[simp] theorem State.modStation_pending (f : Station → Station) : (s.modStation f).pending = s.pending := rfl

@[simp] theorem State.modLink_pins (f : Link → Link) : (s.modLink f).pins = s.pins := rfl
@[simp] theorem State.modLink_translate (f : Link → Link) : (s.modLink f).translate = s.translate := rfl
@[simp] theorem State.modLink_settings (f : Link → Link) : (s.modLink f).settings = s.settings := rfl
@[simp] theorem State.modLink_rx (f : Link → Link) : (s.modLink f).rx = s.rx := rfl
@[simp] theorem State.modLink_cal (f : Link → Link) : (s.modLink f).cal = s.cal := rfl
@[simp] theorem State.modLink_tx (f : Link → Link) : (s.modLink f).tx = s.tx := rfl
@[simp] theorem State.modLink_call (f : Link → Link) : (s.modLink f).call = s.call := rfl
@[simp] theorem State.modLink_store (f : Link → Link) : (s.modLink f).store = s.store := rfl
@[simp] theorem State.modLink_route (f : Link → Link) : (s.modLink f).route = s.route := rfl
@[simp] theorem State.modLink_matcher (f : Link → Link) : (s.modLink f).matcher = s.matcher := rfl
@[simp] theorem State.modLink_answer (f : Link → Link) : (s.modLink f).answer = s.answer := rfl
@[simp] theorem State.modLink_kb (f : Link → Link) : (s.modLink f).kb = s.kb := rfl
@[simp] theorem State.modLink_printer (f : Link → Link) : (s.modLink f).printer = s.printer := rfl
@[simp] theorem State.modLink_bell (f : Link → Link) : (s.modLink f).bell = s.bell := rfl
@[simp] theorem State.modLink_punch (f : Link → Link) : (s.modLink f).punch = s.punch := rfl
@[simp] theorem State.modLink_motor (f : Link → Link) : (s.modLink f).motor = s.motor := rfl
@[simp] theorem State.modLink_station (f : Link → Link) : (s.modLink f).station = s.station := rfl
@[simp] theorem State.modLink_link (f : Link → Link) : (s.modLink f).link = f s.link := rfl
@[simp] theorem State.modLink_cond (f : Link → Link) : (s.modLink f).cond = s.cond := rfl
@[simp] theorem State.modLink_hostRx (f : Link → Link) : (s.modLink f).hostRx = s.hostRx := rfl
@[simp] theorem State.modLink_freeCount (f : Link → Link) : (s.modLink f).freeCount = s.freeCount := rfl
@[simp] theorem State.modLink_pending (f : Link → Link) : (s.modLink f).pending = s.pending := rfl

@[simp] theorem State.modCond_pins (f : Conditions → Conditions) : (s.modCond f).pins = s.pins := rfl
@[simp] theorem State.modCond_translate (f : Conditions → Conditions) : (s.modCond f).translate = s.translate := rfl
@[simp] theorem State.modCond_settings (f : Conditions → Conditions) : (s.modCond f).settings = s.settings := rfl
@[simp] theorem State.modCond_rx (f : Conditions → Conditions) : (s.modCond f).rx = s.rx := rfl
@[simp] theorem State.modCond_cal (f : Conditions → Conditions) : (s.modCond f).cal = s.cal := rfl
@[simp] theorem State.modCond_tx (f : Conditions → Conditions) : (s.modCond f).tx = s.tx := rfl
@[simp] theorem State.modCond_call (f : Conditions → Conditions) : (s.modCond f).call = s.call := rfl
@[simp] theorem State.modCond_store (f : Conditions → Conditions) : (s.modCond f).store = s.store := rfl
@[simp] theorem State.modCond_route (f : Conditions → Conditions) : (s.modCond f).route = s.route := rfl
@[simp] theorem State.modCond_matcher (f : Conditions → Conditions) : (s.modCond f).matcher = s.matcher := rfl
@[simp] theorem State.modCond_answer (f : Conditions → Conditions) : (s.modCond f).answer = s.answer := rfl
@[simp] theorem State.modCond_kb (f : Conditions → Conditions) : (s.modCond f).kb = s.kb := rfl
@[simp] theorem State.modCond_printer (f : Conditions → Conditions) : (s.modCond f).printer = s.printer := rfl
@[simp] theorem State.modCond_bell (f : Conditions → Conditions) : (s.modCond f).bell = s.bell := rfl
@[simp] theorem State.modCond_punch (f : Conditions → Conditions) : (s.modCond f).punch = s.punch := rfl
@[simp] theorem State.modCond_motor (f : Conditions → Conditions) : (s.modCond f).motor = s.motor := rfl
@[simp] theorem State.modCond_station (f : Conditions → Conditions) : (s.modCond f).station = s.station := rfl
@[simp] theorem State.modCond_link (f : Conditions → Conditions) : (s.modCond f).link = s.link := rfl
@[simp] theorem State.modCond_cond (f : Conditions → Conditions) : (s.modCond f).cond = f s.cond := rfl
@[simp] theorem State.modCond_hostRx (f : Conditions → Conditions) : (s.modCond f).hostRx = s.hostRx := rfl
@[simp] theorem State.modCond_freeCount (f : Conditions → Conditions) : (s.modCond f).freeCount = s.freeCount := rfl
@[simp] theorem State.modCond_pending (f : Conditions → Conditions) : (s.modCond f).pending = s.pending := rfl

@[simp] theorem State.modHostRx_pins (f : HostWire → HostWire) : (s.modHostRx f).pins = s.pins := rfl
@[simp] theorem State.modHostRx_translate (f : HostWire → HostWire) : (s.modHostRx f).translate = s.translate := rfl
@[simp] theorem State.modHostRx_settings (f : HostWire → HostWire) : (s.modHostRx f).settings = s.settings := rfl
@[simp] theorem State.modHostRx_rx (f : HostWire → HostWire) : (s.modHostRx f).rx = s.rx := rfl
@[simp] theorem State.modHostRx_cal (f : HostWire → HostWire) : (s.modHostRx f).cal = s.cal := rfl
@[simp] theorem State.modHostRx_tx (f : HostWire → HostWire) : (s.modHostRx f).tx = s.tx := rfl
@[simp] theorem State.modHostRx_call (f : HostWire → HostWire) : (s.modHostRx f).call = s.call := rfl
@[simp] theorem State.modHostRx_store (f : HostWire → HostWire) : (s.modHostRx f).store = s.store := rfl
@[simp] theorem State.modHostRx_route (f : HostWire → HostWire) : (s.modHostRx f).route = s.route := rfl
@[simp] theorem State.modHostRx_matcher (f : HostWire → HostWire) : (s.modHostRx f).matcher = s.matcher := rfl
@[simp] theorem State.modHostRx_answer (f : HostWire → HostWire) : (s.modHostRx f).answer = s.answer := rfl
@[simp] theorem State.modHostRx_kb (f : HostWire → HostWire) : (s.modHostRx f).kb = s.kb := rfl
@[simp] theorem State.modHostRx_printer (f : HostWire → HostWire) : (s.modHostRx f).printer = s.printer := rfl
@[simp] theorem State.modHostRx_bell (f : HostWire → HostWire) : (s.modHostRx f).bell = s.bell := rfl
@[simp] theorem State.modHostRx_punch (f : HostWire → HostWire) : (s.modHostRx f).punch = s.punch := rfl
@[simp] theorem State.modHostRx_motor (f : HostWire → HostWire) : (s.modHostRx f).motor = s.motor := rfl
@[simp] theorem State.modHostRx_station (f : HostWire → HostWire) : (s.modHostRx f).station = s.station := rfl
@[simp] theorem State.modHostRx_link (f : HostWire → HostWire) : (s.modHostRx f).link = s.link := rfl
@[simp] theorem State.modHostRx_cond (f : HostWire → HostWire) : (s.modHostRx f).cond = s.cond := rfl
@[simp] theorem State.modHostRx_hostRx (f : HostWire → HostWire) : (s.modHostRx f).hostRx = f s.hostRx := rfl
@[simp] theorem State.modHostRx_freeCount (f : HostWire → HostWire) : (s.modHostRx f).freeCount = s.freeCount := rfl
@[simp] theorem State.modHostRx_pending (f : HostWire → HostWire) : (s.modHostRx f).pending = s.pending := rfl

@[simp] theorem State.modFreeCount_pins (f : Nat → Nat) : (s.modFreeCount f).pins = s.pins := rfl
@[simp] theorem State.modFreeCount_translate (f : Nat → Nat) : (s.modFreeCount f).translate = s.translate := rfl
@[simp] theorem State.modFreeCount_settings (f : Nat → Nat) : (s.modFreeCount f).settings = s.settings := rfl
@[simp] theorem State.modFreeCount_rx (f : Nat → Nat) : (s.modFreeCount f).rx = s.rx := rfl
@[simp] theorem State.modFreeCount_cal (f : Nat → Nat) : (s.modFreeCount f).cal = s.cal := rfl
@[simp] theorem State.modFreeCount_tx (f : Nat → Nat) : (s.modFreeCount f).tx = s.tx := rfl
@[simp] theorem State.modFreeCount_call (f : Nat → Nat) : (s.modFreeCount f).call = s.call := rfl
@[simp] theorem State.modFreeCount_store (f : Nat → Nat) : (s.modFreeCount f).store = s.store := rfl
@[simp] theorem State.modFreeCount_route (f : Nat → Nat) : (s.modFreeCount f).route = s.route := rfl
@[simp] theorem State.modFreeCount_matcher (f : Nat → Nat) : (s.modFreeCount f).matcher = s.matcher := rfl
@[simp] theorem State.modFreeCount_answer (f : Nat → Nat) : (s.modFreeCount f).answer = s.answer := rfl
@[simp] theorem State.modFreeCount_kb (f : Nat → Nat) : (s.modFreeCount f).kb = s.kb := rfl
@[simp] theorem State.modFreeCount_printer (f : Nat → Nat) : (s.modFreeCount f).printer = s.printer := rfl
@[simp] theorem State.modFreeCount_bell (f : Nat → Nat) : (s.modFreeCount f).bell = s.bell := rfl
@[simp] theorem State.modFreeCount_punch (f : Nat → Nat) : (s.modFreeCount f).punch = s.punch := rfl
@[simp] theorem State.modFreeCount_motor (f : Nat → Nat) : (s.modFreeCount f).motor = s.motor := rfl
@[simp] theorem State.modFreeCount_station (f : Nat → Nat) : (s.modFreeCount f).station = s.station := rfl
@[simp] theorem State.modFreeCount_link (f : Nat → Nat) : (s.modFreeCount f).link = s.link := rfl
@[simp] theorem State.modFreeCount_cond (f : Nat → Nat) : (s.modFreeCount f).cond = s.cond := rfl
@[simp] theorem State.modFreeCount_hostRx (f : Nat → Nat) : (s.modFreeCount f).hostRx = s.hostRx := rfl
@[simp] theorem State.modFreeCount_freeCount (f : Nat → Nat) : (s.modFreeCount f).freeCount = f s.freeCount := rfl
@[simp] theorem State.modFreeCount_pending (f : Nat → Nat) : (s.modFreeCount f).pending = s.pending := rfl

@[simp] theorem State.modPending_pins (f : List Instr → List Instr) : (s.modPending f).pins = s.pins := rfl
@[simp] theorem State.modPending_translate (f : List Instr → List Instr) : (s.modPending f).translate = s.translate := rfl
@[simp] theorem State.modPending_settings (f : List Instr → List Instr) : (s.modPending f).settings = s.settings := rfl
@[simp] theorem State.modPending_rx (f : List Instr → List Instr) : (s.modPending f).rx = s.rx := rfl
@[simp] theorem State.modPending_cal (f : List Instr → List Instr) : (s.modPending f).cal = s.cal := rfl
@[simp] theorem State.modPending_tx (f : List Instr → List Instr) : (s.modPending f).tx = s.tx := rfl
@[simp] theorem State.modPending_call (f : List Instr → List Instr) : (s.modPending f).call = s.call := rfl
@[simp] theorem State.modPending_store (f : List Instr → List Instr) : (s.modPending f).store = s.store := rfl
@[simp] theorem State.modPending_route (f : List Instr → List Instr) : (s.modPending f).route = s.route := rfl
@[simp] theorem State.modPending_matcher (f : List Instr → List Instr) : (s.modPending f).matcher = s.matcher := rfl
@[simp] theorem State.modPending_answer (f : List Instr → List Instr) : (s.modPending f).answer = s.answer := rfl
@[simp] theorem State.modPending_kb (f : List Instr → List Instr) : (s.modPending f).kb = s.kb := rfl
@[simp] theorem State.modPending_printer (f : List Instr → List Instr) : (s.modPending f).printer = s.printer := rfl
@[simp] theorem State.modPending_bell (f : List Instr → List Instr) : (s.modPending f).bell = s.bell := rfl
@[simp] theorem State.modPending_punch (f : List Instr → List Instr) : (s.modPending f).punch = s.punch := rfl
@[simp] theorem State.modPending_motor (f : List Instr → List Instr) : (s.modPending f).motor = s.motor := rfl
@[simp] theorem State.modPending_station (f : List Instr → List Instr) : (s.modPending f).station = s.station := rfl
@[simp] theorem State.modPending_link (f : List Instr → List Instr) : (s.modPending f).link = s.link := rfl
@[simp] theorem State.modPending_cond (f : List Instr → List Instr) : (s.modPending f).cond = s.cond := rfl
@[simp] theorem State.modPending_hostRx (f : List Instr → List Instr) : (s.modPending f).hostRx = s.hostRx := rfl
@[simp] theorem State.modPending_freeCount (f : List Instr → List Instr) : (s.modPending f).freeCount = s.freeCount := rfl
@[simp] theorem State.modPending_pending (f : List Instr → List Instr) : (s.modPending f).pending = f s.pending := rfl

@[simp] theorem State.modSend_pins (f : SendChannel → SendChannel) : (s.modSend f).pins = s.pins := rfl
@[simp] theorem State.modSend_translate (f : SendChannel → SendChannel) : (s.modSend f).translate = s.translate := rfl
@[simp] theorem State.modSend_settings (f : SendChannel → SendChannel) : (s.modSend f).settings = s.settings := rfl
@[simp] theorem State.modSend_rx (f : SendChannel → SendChannel) : (s.modSend f).rx = s.rx := rfl
@[simp] theorem State.modSend_cal (f : SendChannel → SendChannel) : (s.modSend f).cal = s.cal := rfl
@[simp] theorem State.modSend_tx (f : SendChannel → SendChannel) : (s.modSend f).tx = s.tx := rfl
@[simp] theorem State.modSend_call (f : SendChannel → SendChannel) : (s.modSend f).call = s.call := rfl
@[simp] theorem State.modSend_store (f : SendChannel → SendChannel) : (s.modSend f).store = s.store := rfl
@[simp] theorem State.modSend_route (f : SendChannel → SendChannel) : (s.modSend f).route = s.route := rfl
@[simp] theorem State.modSend_matcher (f : SendChannel → SendChannel) : (s.modSend f).matcher = s.matcher := rfl
@[simp] theorem State.modSend_answer (f : SendChannel → SendChannel) : (s.modSend f).answer = s.answer := rfl
@[simp] theorem State.modSend_kb (f : SendChannel → SendChannel) : (s.modSend f).kb = s.kb := rfl
@[simp] theorem State.modSend_printer (f : SendChannel → SendChannel) : (s.modSend f).printer = s.printer := rfl
@[simp] theorem State.modSend_bell (f : SendChannel → SendChannel) : (s.modSend f).bell = s.bell := rfl
@[simp] theorem State.modSend_punch (f : SendChannel → SendChannel) : (s.modSend f).punch = s.punch := rfl
@[simp] theorem State.modSend_motor (f : SendChannel → SendChannel) : (s.modSend f).motor = s.motor := rfl
@[simp] theorem State.modSend_station (f : SendChannel → SendChannel) : (s.modSend f).station = s.station := rfl
@[simp] theorem State.modSend_link (f : SendChannel → SendChannel) : (s.modSend f).link = { s.link with send := f s.link.send } := rfl
@[simp] theorem State.modSend_cond (f : SendChannel → SendChannel) : (s.modSend f).cond = s.cond := rfl
@[simp] theorem State.modSend_hostRx (f : SendChannel → SendChannel) : (s.modSend f).hostRx = s.hostRx := rfl
@[simp] theorem State.modSend_freeCount (f : SendChannel → SendChannel) : (s.modSend f).freeCount = s.freeCount := rfl
@[simp] theorem State.modSend_pending (f : SendChannel → SendChannel) : (s.modSend f).pending = s.pending := rfl

@[simp] theorem State.modCapture_pins (f : CaptureChannel → CaptureChannel) : (s.modCapture f).pins = s.pins := rfl
@[simp] theorem State.modCapture_translate (f : CaptureChannel → CaptureChannel) : (s.modCapture f).translate = s.translate := rfl
@[simp] theorem State.modCapture_settings (f : CaptureChannel → CaptureChannel) : (s.modCapture f).settings = s.settings := rfl
@[simp] theorem State.modCapture_rx (f : CaptureChannel → CaptureChannel) : (s.modCapture f).rx = s.rx := rfl
@[simp] theorem State.modCapture_cal (f : CaptureChannel → CaptureChannel) : (s.modCapture f).cal = s.cal := rfl
@[simp] theorem State.modCapture_tx (f : CaptureChannel → CaptureChannel) : (s.modCapture f).tx = s.tx := rfl
@[simp] theorem State.modCapture_call (f : CaptureChannel → CaptureChannel) : (s.modCapture f).call = s.call := rfl
@[simp] theorem State.modCapture_store (f : CaptureChannel → CaptureChannel) : (s.modCapture f).store = s.store := rfl
@[simp] theorem State.modCapture_route (f : CaptureChannel → CaptureChannel) : (s.modCapture f).route = s.route := rfl
@[simp] theorem State.modCapture_matcher (f : CaptureChannel → CaptureChannel) : (s.modCapture f).matcher = s.matcher := rfl
@[simp] theorem State.modCapture_answer (f : CaptureChannel → CaptureChannel) : (s.modCapture f).answer = s.answer := rfl
@[simp] theorem State.modCapture_kb (f : CaptureChannel → CaptureChannel) : (s.modCapture f).kb = s.kb := rfl
@[simp] theorem State.modCapture_printer (f : CaptureChannel → CaptureChannel) : (s.modCapture f).printer = s.printer := rfl
@[simp] theorem State.modCapture_bell (f : CaptureChannel → CaptureChannel) : (s.modCapture f).bell = s.bell := rfl
@[simp] theorem State.modCapture_punch (f : CaptureChannel → CaptureChannel) : (s.modCapture f).punch = s.punch := rfl
@[simp] theorem State.modCapture_motor (f : CaptureChannel → CaptureChannel) : (s.modCapture f).motor = s.motor := rfl
@[simp] theorem State.modCapture_station (f : CaptureChannel → CaptureChannel) : (s.modCapture f).station = s.station := rfl
@[simp] theorem State.modCapture_link (f : CaptureChannel → CaptureChannel) : (s.modCapture f).link = { s.link with capture := f s.link.capture } := rfl
@[simp] theorem State.modCapture_cond (f : CaptureChannel → CaptureChannel) : (s.modCapture f).cond = s.cond := rfl
@[simp] theorem State.modCapture_hostRx (f : CaptureChannel → CaptureChannel) : (s.modCapture f).hostRx = s.hostRx := rfl
@[simp] theorem State.modCapture_freeCount (f : CaptureChannel → CaptureChannel) : (s.modCapture f).freeCount = s.freeCount := rfl
@[simp] theorem State.modCapture_pending (f : CaptureChannel → CaptureChannel) : (s.modCapture f).pending = s.pending := rfl

@[simp] theorem State.modRecord_pins (f : CallRecord → CallRecord) : (s.modRecord f).pins = s.pins := rfl
@[simp] theorem State.modRecord_translate (f : CallRecord → CallRecord) : (s.modRecord f).translate = s.translate := rfl
@[simp] theorem State.modRecord_settings (f : CallRecord → CallRecord) : (s.modRecord f).settings = s.settings := rfl
@[simp] theorem State.modRecord_rx (f : CallRecord → CallRecord) : (s.modRecord f).rx = s.rx := rfl
@[simp] theorem State.modRecord_cal (f : CallRecord → CallRecord) : (s.modRecord f).cal = s.cal := rfl
@[simp] theorem State.modRecord_tx (f : CallRecord → CallRecord) : (s.modRecord f).tx = s.tx := rfl
@[simp] theorem State.modRecord_call (f : CallRecord → CallRecord) : (s.modRecord f).call = s.call := rfl
@[simp] theorem State.modRecord_store (f : CallRecord → CallRecord) : (s.modRecord f).store = s.store := rfl
@[simp] theorem State.modRecord_route (f : CallRecord → CallRecord) : (s.modRecord f).route = s.route := rfl
@[simp] theorem State.modRecord_matcher (f : CallRecord → CallRecord) : (s.modRecord f).matcher = s.matcher := rfl
@[simp] theorem State.modRecord_answer (f : CallRecord → CallRecord) : (s.modRecord f).answer = s.answer := rfl
@[simp] theorem State.modRecord_kb (f : CallRecord → CallRecord) : (s.modRecord f).kb = s.kb := rfl
@[simp] theorem State.modRecord_printer (f : CallRecord → CallRecord) : (s.modRecord f).printer = s.printer := rfl
@[simp] theorem State.modRecord_bell (f : CallRecord → CallRecord) : (s.modRecord f).bell = s.bell := rfl
@[simp] theorem State.modRecord_punch (f : CallRecord → CallRecord) : (s.modRecord f).punch = s.punch := rfl
@[simp] theorem State.modRecord_motor (f : CallRecord → CallRecord) : (s.modRecord f).motor = s.motor := rfl
@[simp] theorem State.modRecord_station (f : CallRecord → CallRecord) :
    (s.modRecord f).station = { s.station with record := s.station.record.map f } := rfl
@[simp] theorem State.modRecord_link (f : CallRecord → CallRecord) : (s.modRecord f).link = s.link := rfl
@[simp] theorem State.modRecord_cond (f : CallRecord → CallRecord) : (s.modRecord f).cond = s.cond := rfl
@[simp] theorem State.modRecord_hostRx (f : CallRecord → CallRecord) : (s.modRecord f).hostRx = s.hostRx := rfl
@[simp] theorem State.modRecord_freeCount (f : CallRecord → CallRecord) : (s.modRecord f).freeCount = s.freeCount := rfl
@[simp] theorem State.modRecord_pending (f : CallRecord → CallRecord) : (s.modRecord f).pending = s.pending := rfl

end

end Sys2Proof.Machine
end

