-- ==== Sys2Proof/Laws/Views.lean ====
section
/-! SUPPORT. What each shared operation leaves alone, seen through five views of the state: the station's modes, the call and
its record, the traffic store's places, the punch's tape, the settings. -/

set_option linter.all false

namespace Sys2Proof.Machine

/-- The station mode, restart pending and HOST_SILENT. -/
def State.core (s : State) : Mode × Bool × Bool := (s.station.mode, s.station.restartPending, s.station.hostSilent)

/-- The call log. -/
def State.log (s : State) : List CallRecord := s.station.log

/-- The stored entries and the copy reservation. -/
def State.shelf (s : State) : List Entry × Bool := (s.store.entries, s.tx.reservation)

/-- The punch state, its jam hold, its tape and its operation. -/
def State.tapeState (s : State) : PunchState × Bool × Nat × Option PunchOp :=
  (s.punch.state, s.punch.jamHold, s.punch.tape, s.punch.op)

/-- An order that is granted has its effect, one that is refused none. -/
@[simp] theorem State.grantOr_fst (s : State) (o : Option State) : (s.grantOr o).1 = o.getD s := by
  cases o <;> rfl

/-- The settings and the waiting commands. -/
def State.held (s : State) : List Nat × List Instr := (s.settings, s.pending)

/-- A fold of an operation keeps what the operation keeps. -/
theorem foldl_keeps {α β : Type} (v : State → β) (f : State → α → State) (h : ∀ s x, v (f s x) = v s) :
    ∀ (l : List α) (s : State), v (l.foldl f s) = v s
  | [], _ => rfl
  | x :: l, s => (foldl_keeps v f h l (f s x)).trans (h s x)

@[simp] theorem State.modPins_core (f) (s : State) : (s.modPins f).core = s.core := rfl

@[simp] theorem State.modTranslate_core (f) (s : State) : (s.modTranslate f).core = s.core := rfl

@[simp] theorem State.modSettings_core (f) (s : State) : (s.modSettings f).core = s.core := rfl

@[simp] theorem State.modRx_core (f) (s : State) : (s.modRx f).core = s.core := rfl

@[simp] theorem State.modCal_core (f) (s : State) : (s.modCal f).core = s.core := rfl

@[simp] theorem State.modTx_core (f) (s : State) : (s.modTx f).core = s.core := rfl

@[simp] theorem State.modCall_core (f) (s : State) : (s.modCall f).core = s.core := rfl

@[simp] theorem State.modStore_core (f) (s : State) : (s.modStore f).core = s.core := rfl

@[simp] theorem State.modRoute_core (f) (s : State) : (s.modRoute f).core = s.core := rfl

@[simp] theorem State.modMatcher_core (f) (s : State) : (s.modMatcher f).core = s.core := rfl

@[simp] theorem State.modAnswer_core (f) (s : State) : (s.modAnswer f).core = s.core := rfl

@[simp] theorem State.modKb_core (f) (s : State) : (s.modKb f).core = s.core := rfl

@[simp] theorem State.modPrinter_core (f) (s : State) : (s.modPrinter f).core = s.core := rfl

@[simp] theorem State.modBell_core (f) (s : State) : (s.modBell f).core = s.core := rfl

@[simp] theorem State.modPunch_core (f) (s : State) : (s.modPunch f).core = s.core := rfl

@[simp] theorem State.modMotor_core (f) (s : State) : (s.modMotor f).core = s.core := rfl

@[simp] theorem State.modLink_core (f) (s : State) : (s.modLink f).core = s.core := rfl

@[simp] theorem State.modCond_core (f) (s : State) : (s.modCond f).core = s.core := rfl

@[simp] theorem State.modFreeCount_core (f) (s : State) : (s.modFreeCount f).core = s.core := rfl

@[simp] theorem State.modHostRx_core (f) (s : State) : (s.modHostRx f).core = s.core := rfl

@[simp] theorem State.modPending_core (f) (s : State) : (s.modPending f).core = s.core := rfl

@[simp] theorem State.modSend_core (f) (s : State) : (s.modSend f).core = s.core := rfl

@[simp] theorem State.modCapture_core (f) (s : State) : (s.modCapture f).core = s.core := rfl

@[simp] theorem State.modRecord_core (f) (s : State) : (s.modRecord f).core = s.core := rfl

@[simp] theorem State.modPins_log (f) (s : State) : (s.modPins f).log = s.log := rfl

@[simp] theorem State.modTranslate_log (f) (s : State) : (s.modTranslate f).log = s.log := rfl

@[simp] theorem State.modSettings_log (f) (s : State) : (s.modSettings f).log = s.log := rfl

@[simp] theorem State.modRx_log (f) (s : State) : (s.modRx f).log = s.log := rfl

@[simp] theorem State.modCal_log (f) (s : State) : (s.modCal f).log = s.log := rfl

@[simp] theorem State.modTx_log (f) (s : State) : (s.modTx f).log = s.log := rfl

@[simp] theorem State.modCall_log (f) (s : State) : (s.modCall f).log = s.log := rfl

@[simp] theorem State.modStore_log (f) (s : State) : (s.modStore f).log = s.log := rfl

@[simp] theorem State.modRoute_log (f) (s : State) : (s.modRoute f).log = s.log := rfl

@[simp] theorem State.modMatcher_log (f) (s : State) : (s.modMatcher f).log = s.log := rfl

@[simp] theorem State.modAnswer_log (f) (s : State) : (s.modAnswer f).log = s.log := rfl

@[simp] theorem State.modKb_log (f) (s : State) : (s.modKb f).log = s.log := rfl

@[simp] theorem State.modPrinter_log (f) (s : State) : (s.modPrinter f).log = s.log := rfl

@[simp] theorem State.modBell_log (f) (s : State) : (s.modBell f).log = s.log := rfl

@[simp] theorem State.modPunch_log (f) (s : State) : (s.modPunch f).log = s.log := rfl

@[simp] theorem State.modMotor_log (f) (s : State) : (s.modMotor f).log = s.log := rfl

@[simp] theorem State.modLink_log (f) (s : State) : (s.modLink f).log = s.log := rfl

@[simp] theorem State.modCond_log (f) (s : State) : (s.modCond f).log = s.log := rfl

@[simp] theorem State.modFreeCount_log (f) (s : State) : (s.modFreeCount f).log = s.log := rfl

@[simp] theorem State.modHostRx_log (f) (s : State) : (s.modHostRx f).log = s.log := rfl

@[simp] theorem State.modPending_log (f) (s : State) : (s.modPending f).log = s.log := rfl

@[simp] theorem State.modSend_log (f) (s : State) : (s.modSend f).log = s.log := rfl

@[simp] theorem State.modCapture_log (f) (s : State) : (s.modCapture f).log = s.log := rfl

@[simp] theorem State.modRecord_log (f) (s : State) : (s.modRecord f).log = s.log := rfl

@[simp] theorem State.modPins_shelf (f) (s : State) : (s.modPins f).shelf = s.shelf := rfl

@[simp] theorem State.modTranslate_shelf (f) (s : State) : (s.modTranslate f).shelf = s.shelf := rfl

@[simp] theorem State.modSettings_shelf (f) (s : State) : (s.modSettings f).shelf = s.shelf := rfl

@[simp] theorem State.modRx_shelf (f) (s : State) : (s.modRx f).shelf = s.shelf := rfl

@[simp] theorem State.modCal_shelf (f) (s : State) : (s.modCal f).shelf = s.shelf := rfl

@[simp] theorem State.modCall_shelf (f) (s : State) : (s.modCall f).shelf = s.shelf := rfl

@[simp] theorem State.modRoute_shelf (f) (s : State) : (s.modRoute f).shelf = s.shelf := rfl

@[simp] theorem State.modMatcher_shelf (f) (s : State) : (s.modMatcher f).shelf = s.shelf := rfl

@[simp] theorem State.modAnswer_shelf (f) (s : State) : (s.modAnswer f).shelf = s.shelf := rfl

@[simp] theorem State.modKb_shelf (f) (s : State) : (s.modKb f).shelf = s.shelf := rfl

@[simp] theorem State.modPrinter_shelf (f) (s : State) : (s.modPrinter f).shelf = s.shelf := rfl

@[simp] theorem State.modBell_shelf (f) (s : State) : (s.modBell f).shelf = s.shelf := rfl

@[simp] theorem State.modPunch_shelf (f) (s : State) : (s.modPunch f).shelf = s.shelf := rfl

@[simp] theorem State.modMotor_shelf (f) (s : State) : (s.modMotor f).shelf = s.shelf := rfl

@[simp] theorem State.modStation_shelf (f) (s : State) : (s.modStation f).shelf = s.shelf := rfl

@[simp] theorem State.modLink_shelf (f) (s : State) : (s.modLink f).shelf = s.shelf := rfl

@[simp] theorem State.modCond_shelf (f) (s : State) : (s.modCond f).shelf = s.shelf := rfl

@[simp] theorem State.modFreeCount_shelf (f) (s : State) : (s.modFreeCount f).shelf = s.shelf := rfl

@[simp] theorem State.modHostRx_shelf (f) (s : State) : (s.modHostRx f).shelf = s.shelf := rfl

@[simp] theorem State.modPending_shelf (f) (s : State) : (s.modPending f).shelf = s.shelf := rfl

@[simp] theorem State.modSend_shelf (f) (s : State) : (s.modSend f).shelf = s.shelf := rfl

@[simp] theorem State.modCapture_shelf (f) (s : State) : (s.modCapture f).shelf = s.shelf := rfl

@[simp] theorem State.modRecord_shelf (f) (s : State) : (s.modRecord f).shelf = s.shelf := rfl

@[simp] theorem State.modPins_tapeState (f) (s : State) : (s.modPins f).tapeState = s.tapeState := rfl

@[simp] theorem State.modTranslate_tapeState (f) (s : State) : (s.modTranslate f).tapeState = s.tapeState := rfl

@[simp] theorem State.modSettings_tapeState (f) (s : State) : (s.modSettings f).tapeState = s.tapeState := rfl

@[simp] theorem State.modRx_tapeState (f) (s : State) : (s.modRx f).tapeState = s.tapeState := rfl

@[simp] theorem State.modCal_tapeState (f) (s : State) : (s.modCal f).tapeState = s.tapeState := rfl

@[simp] theorem State.modTx_tapeState (f) (s : State) : (s.modTx f).tapeState = s.tapeState := rfl

@[simp] theorem State.modCall_tapeState (f) (s : State) : (s.modCall f).tapeState = s.tapeState := rfl

@[simp] theorem State.modStore_tapeState (f) (s : State) : (s.modStore f).tapeState = s.tapeState := rfl

@[simp] theorem State.modRoute_tapeState (f) (s : State) : (s.modRoute f).tapeState = s.tapeState := rfl

@[simp] theorem State.modMatcher_tapeState (f) (s : State) : (s.modMatcher f).tapeState = s.tapeState := rfl

@[simp] theorem State.modAnswer_tapeState (f) (s : State) : (s.modAnswer f).tapeState = s.tapeState := rfl

@[simp] theorem State.modKb_tapeState (f) (s : State) : (s.modKb f).tapeState = s.tapeState := rfl

@[simp] theorem State.modPrinter_tapeState (f) (s : State) : (s.modPrinter f).tapeState = s.tapeState := rfl

@[simp] theorem State.modBell_tapeState (f) (s : State) : (s.modBell f).tapeState = s.tapeState := rfl

@[simp] theorem State.modMotor_tapeState (f) (s : State) : (s.modMotor f).tapeState = s.tapeState := rfl

@[simp] theorem State.modStation_tapeState (f) (s : State) : (s.modStation f).tapeState = s.tapeState := rfl

@[simp] theorem State.modLink_tapeState (f) (s : State) : (s.modLink f).tapeState = s.tapeState := rfl

@[simp] theorem State.modCond_tapeState (f) (s : State) : (s.modCond f).tapeState = s.tapeState := rfl

@[simp] theorem State.modFreeCount_tapeState (f) (s : State) : (s.modFreeCount f).tapeState = s.tapeState := rfl

@[simp] theorem State.modHostRx_tapeState (f) (s : State) : (s.modHostRx f).tapeState = s.tapeState := rfl

@[simp] theorem State.modPending_tapeState (f) (s : State) : (s.modPending f).tapeState = s.tapeState := rfl

@[simp] theorem State.modSend_tapeState (f) (s : State) : (s.modSend f).tapeState = s.tapeState := rfl

@[simp] theorem State.modCapture_tapeState (f) (s : State) : (s.modCapture f).tapeState = s.tapeState := rfl

@[simp] theorem State.modRecord_tapeState (f) (s : State) : (s.modRecord f).tapeState = s.tapeState := rfl

@[simp] theorem State.modPins_held (f) (s : State) : (s.modPins f).held = s.held := rfl

@[simp] theorem State.modTranslate_held (f) (s : State) : (s.modTranslate f).held = s.held := rfl

@[simp] theorem State.modRx_held (f) (s : State) : (s.modRx f).held = s.held := rfl

@[simp] theorem State.modCal_held (f) (s : State) : (s.modCal f).held = s.held := rfl

@[simp] theorem State.modTx_held (f) (s : State) : (s.modTx f).held = s.held := rfl

@[simp] theorem State.modCall_held (f) (s : State) : (s.modCall f).held = s.held := rfl

@[simp] theorem State.modStore_held (f) (s : State) : (s.modStore f).held = s.held := rfl

@[simp] theorem State.modRoute_held (f) (s : State) : (s.modRoute f).held = s.held := rfl

@[simp] theorem State.modMatcher_held (f) (s : State) : (s.modMatcher f).held = s.held := rfl

@[simp] theorem State.modAnswer_held (f) (s : State) : (s.modAnswer f).held = s.held := rfl

@[simp] theorem State.modKb_held (f) (s : State) : (s.modKb f).held = s.held := rfl

@[simp] theorem State.modPrinter_held (f) (s : State) : (s.modPrinter f).held = s.held := rfl

@[simp] theorem State.modBell_held (f) (s : State) : (s.modBell f).held = s.held := rfl

@[simp] theorem State.modPunch_held (f) (s : State) : (s.modPunch f).held = s.held := rfl

@[simp] theorem State.modMotor_held (f) (s : State) : (s.modMotor f).held = s.held := rfl

@[simp] theorem State.modStation_held (f) (s : State) : (s.modStation f).held = s.held := rfl

@[simp] theorem State.modLink_held (f) (s : State) : (s.modLink f).held = s.held := rfl

@[simp] theorem State.modCond_held (f) (s : State) : (s.modCond f).held = s.held := rfl

@[simp] theorem State.modFreeCount_held (f) (s : State) : (s.modFreeCount f).held = s.held := rfl

@[simp] theorem State.modHostRx_held (f) (s : State) : (s.modHostRx f).held = s.held := rfl

@[simp] theorem State.modSend_held (f) (s : State) : (s.modSend f).held = s.held := rfl

@[simp] theorem State.modCapture_held (f) (s : State) : (s.modCapture f).held = s.held := rfl

@[simp] theorem State.modRecord_held (f) (s : State) : (s.modRecord f).held = s.held := rfl

@[simp] theorem State.note_core (n : Notice) (s : State) : (s.note n).core = s.core := by
  unfold State.note <;> (try dsimp only) <;> (repeat' split) <;> first | (simp; done) | simp [State.core]

@[simp] theorem State.note_log (n : Notice) (s : State) : (s.note n).log = s.log := by
  unfold State.note <;> (try dsimp only) <;> (repeat' split) <;> first | (simp; done) | simp [State.log]

@[simp] theorem State.note_shelf (n : Notice) (s : State) : (s.note n).shelf = s.shelf := by
  unfold State.note <;> (try dsimp only) <;> (repeat' split) <;> first | (simp; done) | simp [State.shelf]

@[simp] theorem State.note_tapeState (n : Notice) (s : State) : (s.note n).tapeState = s.tapeState := by
  unfold State.note <;> (try dsimp only) <;> (repeat' split) <;> first | (simp; done) | simp [State.tapeState]

@[simp] theorem State.note_held (n : Notice) (s : State) : (s.note n).held = s.held := by
  unfold State.note <;> (try dsimp only) <;> (repeat' split) <;> first | (simp; done) | simp [State.held]

@[simp] theorem State.latch_core (k : Nat) (s : State) : (s.latch k).core = s.core := by
  unfold State.latch <;> (try dsimp only) <;> (repeat' split) <;> first | (simp; done) | simp [State.core]

@[simp] theorem State.latch_log (k : Nat) (s : State) : (s.latch k).log = s.log := by
  unfold State.latch <;> (try dsimp only) <;> (repeat' split) <;> first | (simp; done) | simp [State.log]

@[simp] theorem State.latch_shelf (k : Nat) (s : State) : (s.latch k).shelf = s.shelf := by
  unfold State.latch <;> (try dsimp only) <;> (repeat' split) <;> first | (simp; done) | simp [State.shelf]

@[simp] theorem State.latch_tapeState (k : Nat) (s : State) : (s.latch k).tapeState = s.tapeState := by
  unfold State.latch <;> (try dsimp only) <;> (repeat' split) <;> first | (simp; done) | simp [State.tapeState]

@[simp] theorem State.latch_held (k : Nat) (s : State) : (s.latch k).held = s.held := by
  unfold State.latch <;> (try dsimp only) <;> (repeat' split) <;> first | (simp; done) | simp [State.held]

@[simp] theorem State.latchIf_core (b : Bool) (k : Nat) (s : State) : (s.latchIf b k).core = s.core := by
  unfold State.latchIf <;> (try dsimp only) <;> (repeat' split) <;> first | (simp; done) | simp [State.core]

@[simp] theorem State.latchIf_log (b : Bool) (k : Nat) (s : State) : (s.latchIf b k).log = s.log := by
  unfold State.latchIf <;> (try dsimp only) <;> (repeat' split) <;> first | (simp; done) | simp [State.log]

@[simp] theorem State.latchIf_shelf (b : Bool) (k : Nat) (s : State) : (s.latchIf b k).shelf = s.shelf := by
  unfold State.latchIf <;> (try dsimp only) <;> (repeat' split) <;> first | (simp; done) | simp [State.shelf]

@[simp] theorem State.latchIf_tapeState (b : Bool) (k : Nat) (s : State) : (s.latchIf b k).tapeState = s.tapeState := by
  unfold State.latchIf <;> (try dsimp only) <;> (repeat' split) <;> first | (simp; done) | simp [State.tapeState]

@[simp] theorem State.latchIf_held (b : Bool) (k : Nat) (s : State) : (s.latchIf b k).held = s.held := by
  unfold State.latchIf <;> (try dsimp only) <;> (repeat' split) <;> first | (simp; done) | simp [State.held]

@[simp] theorem State.setOutcome_core (o : CallOutcome) (s : State) : (s.setOutcome o).core = s.core := by
  unfold State.setOutcome <;> (try dsimp only) <;> (repeat' split) <;> first | (simp; done) | simp [State.core]

@[simp] theorem State.setOutcome_log (o : CallOutcome) (s : State) : (s.setOutcome o).log = s.log := by
  unfold State.setOutcome <;> (try dsimp only) <;> (repeat' split) <;> first | (simp; done) | simp [State.log]

@[simp] theorem State.setOutcome_shelf (o : CallOutcome) (s : State) : (s.setOutcome o).shelf = s.shelf := by
  unfold State.setOutcome <;> (try dsimp only) <;> (repeat' split) <;> first | (simp; done) | simp [State.shelf]

@[simp] theorem State.setOutcome_tapeState (o : CallOutcome) (s : State) : (s.setOutcome o).tapeState = s.tapeState := by
  unfold State.setOutcome <;> (try dsimp only) <;> (repeat' split) <;> first | (simp; done) | simp [State.tapeState]

@[simp] theorem State.setOutcome_held (o : CallOutcome) (s : State) : (s.setOutcome o).held = s.held := by
  unfold State.setOutcome <;> (try dsimp only) <;> (repeat' split) <;> first | (simp; done) | simp [State.held]

@[simp] theorem State.flagRecord_core (f : RecordFlags → RecordFlags) (s : State) : (s.flagRecord f).core = s.core := by
  unfold State.flagRecord <;> (try dsimp only) <;> (repeat' split) <;> first | (simp; done) | simp [State.core]

@[simp] theorem State.flagRecord_log (f : RecordFlags → RecordFlags) (s : State) : (s.flagRecord f).log = s.log := by
  unfold State.flagRecord <;> (try dsimp only) <;> (repeat' split) <;> first | (simp; done) | simp [State.log]

@[simp] theorem State.flagRecord_shelf (f : RecordFlags → RecordFlags) (s : State) : (s.flagRecord f).shelf = s.shelf := by
  unfold State.flagRecord <;> (try dsimp only) <;> (repeat' split) <;> first | (simp; done) | simp [State.shelf]

@[simp] theorem State.flagRecord_tapeState (f : RecordFlags → RecordFlags) (s : State) : (s.flagRecord f).tapeState = s.tapeState := by
  unfold State.flagRecord <;> (try dsimp only) <;> (repeat' split) <;> first | (simp; done) | simp [State.tapeState]

@[simp] theorem State.flagRecord_held (f : RecordFlags → RecordFlags) (s : State) : (s.flagRecord f).held = s.held := by
  unfold State.flagRecord <;> (try dsimp only) <;> (repeat' split) <;> first | (simp; done) | simp [State.held]

@[simp] theorem State.countStored_core (src : Source) (s : State) : (s.countStored src).core = s.core := by
  unfold State.countStored <;> (try dsimp only) <;> (repeat' split) <;> first | (simp; done) | simp [State.core]

@[simp] theorem State.countStored_log (src : Source) (s : State) : (s.countStored src).log = s.log := by
  unfold State.countStored <;> (try dsimp only) <;> (repeat' split) <;> first | (simp; done) | simp [State.log]

@[simp] theorem State.countStored_shelf (src : Source) (s : State) : (s.countStored src).shelf = s.shelf := by
  unfold State.countStored <;> (try dsimp only) <;> (repeat' split) <;> first | (simp; done) | simp [State.shelf]

@[simp] theorem State.countStored_tapeState (src : Source) (s : State) : (s.countStored src).tapeState = s.tapeState := by
  unfold State.countStored <;> (try dsimp only) <;> (repeat' split) <;> first | (simp; done) | simp [State.tapeState]

@[simp] theorem State.countStored_held (src : Source) (s : State) : (s.countStored src).held = s.held := by
  unfold State.countStored <;> (try dsimp only) <;> (repeat' split) <;> first | (simp; done) | simp [State.held]

@[simp] theorem State.countUnrouted_core (src : Source) (s : State) : (s.countUnrouted src).core = s.core := by
  unfold State.countUnrouted <;> (try dsimp only) <;> (repeat' split) <;> first | (simp; done) | simp [State.core]

@[simp] theorem State.countUnrouted_log (src : Source) (s : State) : (s.countUnrouted src).log = s.log := by
  unfold State.countUnrouted <;> (try dsimp only) <;> (repeat' split) <;> first | (simp; done) | simp [State.log]

@[simp] theorem State.countUnrouted_shelf (src : Source) (s : State) : (s.countUnrouted src).shelf = s.shelf := by
  unfold State.countUnrouted <;> (try dsimp only) <;> (repeat' split) <;> first | (simp; done) | simp [State.shelf]

@[simp] theorem State.countUnrouted_tapeState (src : Source) (s : State) : (s.countUnrouted src).tapeState = s.tapeState := by
  unfold State.countUnrouted <;> (try dsimp only) <;> (repeat' split) <;> first | (simp; done) | simp [State.tapeState]

@[simp] theorem State.countUnrouted_held (src : Source) (s : State) : (s.countUnrouted src).held = s.held := by
  unfold State.countUnrouted <;> (try dsimp only) <;> (repeat' split) <;> first | (simp; done) | simp [State.held]

@[simp] theorem State.startCause_core (s : State) : (s.startCause).core = s.core := by
  unfold State.startCause <;> (try dsimp only) <;> (repeat' split) <;> first | (simp; done) | simp [State.core]

@[simp] theorem State.startCause_log (s : State) : (s.startCause).log = s.log := by
  unfold State.startCause <;> (try dsimp only) <;> (repeat' split) <;> first | (simp; done) | simp [State.log]

@[simp] theorem State.startCause_shelf (s : State) : (s.startCause).shelf = s.shelf := by
  unfold State.startCause <;> (try dsimp only) <;> (repeat' split) <;> first | (simp; done) | simp [State.shelf]

@[simp] theorem State.startCause_tapeState (s : State) : (s.startCause).tapeState = s.tapeState := by
  unfold State.startCause <;> (try dsimp only) <;> (repeat' split) <;> first | (simp; done) | simp [State.tapeState]

@[simp] theorem State.startCause_held (s : State) : (s.startCause).held = s.held := by
  unfold State.startCause <;> (try dsimp only) <;> (repeat' split) <;> first | (simp; done) | simp [State.held]

@[simp] theorem State.bellPulse_core (s : State) : (s.bellPulse).core = s.core := by
  unfold State.bellPulse <;> (try dsimp only) <;> (repeat' split) <;> first | (simp; done) | simp [State.core]

@[simp] theorem State.bellPulse_log (s : State) : (s.bellPulse).log = s.log := by
  unfold State.bellPulse <;> (try dsimp only) <;> (repeat' split) <;> first | (simp; done) | simp [State.log]

@[simp] theorem State.bellPulse_shelf (s : State) : (s.bellPulse).shelf = s.shelf := by
  unfold State.bellPulse <;> (try dsimp only) <;> (repeat' split) <;> first | (simp; done) | simp [State.shelf]

@[simp] theorem State.bellPulse_tapeState (s : State) : (s.bellPulse).tapeState = s.tapeState := by
  unfold State.bellPulse <;> (try dsimp only) <;> (repeat' split) <;> first | (simp; done) | simp [State.tapeState]

@[simp] theorem State.bellPulse_held (s : State) : (s.bellPulse).held = s.held := by
  unfold State.bellPulse <;> (try dsimp only) <;> (repeat' split) <;> first | (simp; done) | simp [State.held]

@[simp] theorem State.moveSendShift_core (c : Code) (s : State) : (s.moveSendShift c).core = s.core := by
  unfold State.moveSendShift <;> (try dsimp only) <;> (repeat' split) <;> first | (simp; done) | simp [State.core]

@[simp] theorem State.moveSendShift_log (c : Code) (s : State) : (s.moveSendShift c).log = s.log := by
  unfold State.moveSendShift <;> (try dsimp only) <;> (repeat' split) <;> first | (simp; done) | simp [State.log]

@[simp] theorem State.moveSendShift_shelf (c : Code) (s : State) : (s.moveSendShift c).shelf = s.shelf := by
  unfold State.moveSendShift <;> (try dsimp only) <;> (repeat' split) <;> first | (simp; done) | simp [State.shelf]

@[simp] theorem State.moveSendShift_tapeState (c : Code) (s : State) : (s.moveSendShift c).tapeState = s.tapeState := by
  unfold State.moveSendShift <;> (try dsimp only) <;> (repeat' split) <;> first | (simp; done) | simp [State.tapeState]

@[simp] theorem State.moveSendShift_held (c : Code) (s : State) : (s.moveSendShift c).held = s.held := by
  unfold State.moveSendShift <;> (try dsimp only) <;> (repeat' split) <;> first | (simp; done) | simp [State.held]

@[simp] theorem State.trim_core (s : State) : (s.trim).core = s.core := by
  unfold State.trim <;> (try dsimp only) <;> (repeat' split) <;> first | (simp; done) | simp [State.core]

@[simp] theorem State.trim_log (s : State) : (s.trim).log = s.log := by
  unfold State.trim <;> (try dsimp only) <;> (repeat' split) <;> first | (simp; done) | simp [State.log]

@[simp] theorem State.trim_tapeState (s : State) : (s.trim).tapeState = s.tapeState := by
  unfold State.trim <;> (try dsimp only) <;> (repeat' split) <;> first | (simp; done) | simp [State.tapeState]

@[simp] theorem State.trim_held (s : State) : (s.trim).held = s.held := by
  unfold State.trim <;> (try dsimp only) <;> (repeat' split) <;> first | (simp; done) | simp [State.held]

@[simp] theorem State.consume_core (k : Sink) (n : Nat) (s : State) : (s.consume k n).core = s.core := by
  unfold State.consume <;> (try dsimp only) <;> (repeat' split) <;> first | (simp; done) | simp [State.core]

@[simp] theorem State.consume_log (k : Sink) (n : Nat) (s : State) : (s.consume k n).log = s.log := by
  unfold State.consume <;> (try dsimp only) <;> (repeat' split) <;> first | (simp; done) | simp [State.log]

@[simp] theorem State.consume_tapeState (k : Sink) (n : Nat) (s : State) : (s.consume k n).tapeState = s.tapeState := by
  unfold State.consume <;> (try dsimp only) <;> (repeat' split) <;> first | (simp; done) | simp [State.tapeState]

@[simp] theorem State.consume_held (k : Sink) (n : Nat) (s : State) : (s.consume k n).held = s.held := by
  unfold State.consume <;> (try dsimp only) <;> (repeat' split) <;> first | (simp; done) | simp [State.held]

@[simp] theorem State.gather_core (s : State) : (s.gather).core = s.core := by
  unfold State.gather <;> (try dsimp only) <;> (repeat' split) <;> first | (simp; done) | simp [State.core]

@[simp] theorem State.gather_log (s : State) : (s.gather).log = s.log := by
  unfold State.gather <;> (try dsimp only) <;> (repeat' split) <;> first | (simp; done) | simp [State.log]

@[simp] theorem State.gather_shelf (s : State) : (s.gather).shelf = s.shelf := by
  unfold State.gather <;> (try dsimp only) <;> (repeat' split) <;> first | (simp; done) | simp [State.shelf]

@[simp] theorem State.gather_tapeState (s : State) : (s.gather).tapeState = s.tapeState := by
  unfold State.gather <;> (try dsimp only) <;> (repeat' split) <;> first | (simp; done) | simp [State.tapeState]

@[simp] theorem State.gather_held (s : State) : (s.gather).held = s.held := by
  unfold State.gather <;> (try dsimp only) <;> (repeat' split) <;> first | (simp; done) | simp [State.held]

@[simp] theorem State.storeNotice_core (s : State) : (s.storeNotice).core = s.core := by
  unfold State.storeNotice <;> (try dsimp only) <;> (repeat' split) <;> first | (simp; done) | simp [State.core]

@[simp] theorem State.storeNotice_log (s : State) : (s.storeNotice).log = s.log := by
  unfold State.storeNotice <;> (try dsimp only) <;> (repeat' split) <;> first | (simp; done) | simp [State.log]

@[simp] theorem State.storeNotice_tapeState (s : State) : (s.storeNotice).tapeState = s.tapeState := by
  unfold State.storeNotice <;> (try dsimp only) <;> (repeat' split) <;> first | (simp; done) | simp [State.tapeState]

@[simp] theorem State.storeNotice_held (s : State) : (s.storeNotice).held = s.held := by
  unfold State.storeNotice <;> (try dsimp only) <;> (repeat' split) <;> first | (simp; done) | simp [State.held]

@[simp] theorem State.append_core (e : Entry) (s : State) : (s.append e).core = s.core := by
  unfold State.append <;> (try dsimp only) <;> (repeat' split) <;> first | (simp; done) | simp [State.core]

@[simp] theorem State.append_log (e : Entry) (s : State) : (s.append e).log = s.log := by
  unfold State.append <;> (try dsimp only) <;> (repeat' split) <;> first | (simp; done) | simp [State.log]

@[simp] theorem State.append_tapeState (e : Entry) (s : State) : (s.append e).tapeState = s.tapeState := by
  unfold State.append <;> (try dsimp only) <;> (repeat' split) <;> first | (simp; done) | simp [State.tapeState]

@[simp] theorem State.append_held (e : Entry) (s : State) : (s.append e).held = s.held := by
  unfold State.append <;> (try dsimp only) <;> (repeat' split) <;> first | (simp; done) | simp [State.held]

@[simp] theorem State.routeLine_core (code : Code) (sh : Shift) (e : TransEntry) (mutilated : Bool) (s : State) : (s.routeLine code sh e mutilated).core = s.core := by
  unfold State.routeLine <;> (try dsimp only) <;> (repeat' split) <;> first | (simp; done) | simp [State.core]

@[simp] theorem State.routeLine_log (code : Code) (sh : Shift) (e : TransEntry) (mutilated : Bool) (s : State) : (s.routeLine code sh e mutilated).log = s.log := by
  unfold State.routeLine <;> (try dsimp only) <;> (repeat' split) <;> first | (simp; done) | simp [State.log]

@[simp] theorem State.routeLine_tapeState (code : Code) (sh : Shift) (e : TransEntry) (mutilated : Bool) (s : State) : (s.routeLine code sh e mutilated).tapeState = s.tapeState := by
  unfold State.routeLine <;> (try dsimp only) <;> (repeat' split) <;> first | (simp; done) | simp [State.tapeState]

@[simp] theorem State.routeLine_held (code : Code) (sh : Shift) (e : TransEntry) (mutilated : Bool) (s : State) : (s.routeLine code sh e mutilated).held = s.held := by
  unfold State.routeLine <;> (try dsimp only) <;> (repeat' split) <;> first | (simp; done) | simp [State.held]

@[simp] theorem State.countSend_core (s : State) : (s.countSend).core = s.core := by
  unfold State.countSend <;> (try dsimp only) <;> (repeat' split) <;> first | (simp; done) | simp [State.core]

@[simp] theorem State.countSend_log (s : State) : (s.countSend).log = s.log := by
  unfold State.countSend <;> (try dsimp only) <;> (repeat' split) <;> first | (simp; done) | simp [State.log]

@[simp] theorem State.countSend_shelf (s : State) : (s.countSend).shelf = s.shelf := by
  unfold State.countSend <;> (try dsimp only) <;> (repeat' split) <;> first | (simp; done) | simp [State.shelf]

@[simp] theorem State.countSend_tapeState (s : State) : (s.countSend).tapeState = s.tapeState := by
  unfold State.countSend <;> (try dsimp only) <;> (repeat' split) <;> first | (simp; done) | simp [State.tapeState]

@[simp] theorem State.countSend_held (s : State) : (s.countSend).held = s.held := by
  unfold State.countSend <;> (try dsimp only) <;> (repeat' split) <;> first | (simp; done) | simp [State.held]

@[simp] theorem State.endSend_core (why : EndReason) (s : State) : (s.endSend why).core = s.core := by
  unfold State.endSend <;> (try dsimp only) <;> (repeat' split) <;> first | (simp; done) | simp [State.core]

@[simp] theorem State.endSend_log (why : EndReason) (s : State) : (s.endSend why).log = s.log := by
  unfold State.endSend <;> (try dsimp only) <;> (repeat' split) <;> first | (simp; done) | simp [State.log]

@[simp] theorem State.endSend_tapeState (why : EndReason) (s : State) : (s.endSend why).tapeState = s.tapeState := by
  unfold State.endSend <;> (try dsimp only) <;> (repeat' split) <;> first | (simp; done) | simp [State.tapeState]

@[simp] theorem State.endSend_held (why : EndReason) (s : State) : (s.endSend why).held = s.held := by
  unfold State.endSend <;> (try dsimp only) <;> (repeat' split) <;> first | (simp; done) | simp [State.held]

@[simp] theorem State.discardWork_core (s : State) : (s.discardWork).core = s.core := by
  unfold State.discardWork <;> (try dsimp only) <;> (repeat' split) <;> first | (simp; done) | simp [State.core]

@[simp] theorem State.discardWork_log (s : State) : (s.discardWork).log = s.log := by
  unfold State.discardWork <;> (try dsimp only) <;> (repeat' split) <;> first | (simp; done) | simp [State.log]

@[simp] theorem State.discardWork_tapeState (s : State) : (s.discardWork).tapeState = s.tapeState := by
  unfold State.discardWork <;> (try dsimp only) <;> (repeat' split) <;> first | (simp; done) | simp [State.tapeState]

@[simp] theorem State.discardWork_held (s : State) : (s.discardWork).held = s.held := by
  unfold State.discardWork <;> (try dsimp only) <;> (repeat' split) <;> first | (simp; done) | simp [State.held]

@[simp] theorem State.receiverOff_core (s : State) : (s.receiverOff).core = s.core := by
  unfold State.receiverOff <;> (try dsimp only) <;> (repeat' split) <;> first | (simp; done) | simp [State.core]

@[simp] theorem State.receiverOff_log (s : State) : (s.receiverOff).log = s.log := by
  unfold State.receiverOff <;> (try dsimp only) <;> (repeat' split) <;> first | (simp; done) | simp [State.log]

@[simp] theorem State.receiverOff_shelf (s : State) : (s.receiverOff).shelf = s.shelf := by
  unfold State.receiverOff <;> (try dsimp only) <;> (repeat' split) <;> first | (simp; done) | simp [State.shelf]

@[simp] theorem State.receiverOff_tapeState (s : State) : (s.receiverOff).tapeState = s.tapeState := by
  unfold State.receiverOff <;> (try dsimp only) <;> (repeat' split) <;> first | (simp; done) | simp [State.tapeState]

@[simp] theorem State.receiverOff_held (s : State) : (s.receiverOff).held = s.held := by
  unfold State.receiverOff <;> (try dsimp only) <;> (repeat' split) <;> first | (simp; done) | simp [State.held]

@[simp] theorem State.receiverOn_core (s : State) : (s.receiverOn).core = s.core := by
  unfold State.receiverOn <;> (try dsimp only) <;> (repeat' split) <;> first | (simp; done) | simp [State.core]

@[simp] theorem State.receiverOn_log (s : State) : (s.receiverOn).log = s.log := by
  unfold State.receiverOn <;> (try dsimp only) <;> (repeat' split) <;> first | (simp; done) | simp [State.log]

@[simp] theorem State.receiverOn_shelf (s : State) : (s.receiverOn).shelf = s.shelf := by
  unfold State.receiverOn <;> (try dsimp only) <;> (repeat' split) <;> first | (simp; done) | simp [State.shelf]

@[simp] theorem State.receiverOn_tapeState (s : State) : (s.receiverOn).tapeState = s.tapeState := by
  unfold State.receiverOn <;> (try dsimp only) <;> (repeat' split) <;> first | (simp; done) | simp [State.tapeState]

@[simp] theorem State.receiverOn_held (s : State) : (s.receiverOn).held = s.held := by
  unfold State.receiverOn <;> (try dsimp only) <;> (repeat' split) <;> first | (simp; done) | simp [State.held]

@[simp] theorem State.closeWindow_core (s : State) : (s.closeWindow).core = s.core := by
  unfold State.closeWindow <;> (try dsimp only) <;> (repeat' split) <;> first | (simp; done) | simp [State.core]

@[simp] theorem State.closeWindow_log (s : State) : (s.closeWindow).log = s.log := by
  unfold State.closeWindow <;> (try dsimp only) <;> (repeat' split) <;> first | (simp; done) | simp [State.log]

@[simp] theorem State.closeWindow_shelf (s : State) : (s.closeWindow).shelf = s.shelf := by
  unfold State.closeWindow <;> (try dsimp only) <;> (repeat' split) <;> first | (simp; done) | simp [State.shelf]

@[simp] theorem State.closeWindow_tapeState (s : State) : (s.closeWindow).tapeState = s.tapeState := by
  unfold State.closeWindow <;> (try dsimp only) <;> (repeat' split) <;> first | (simp; done) | simp [State.tapeState]

@[simp] theorem State.closeWindow_held (s : State) : (s.closeWindow).held = s.held := by
  unfold State.closeWindow <;> (try dsimp only) <;> (repeat' split) <;> first | (simp; done) | simp [State.held]

@[simp] theorem State.leaveConnected_core (s : State) : (s.leaveConnected).core = s.core := by
  unfold State.leaveConnected <;> (try dsimp only) <;> (repeat' split) <;> first | (simp; done) | simp [State.core]

@[simp] theorem State.leaveConnected_log (s : State) : (s.leaveConnected).log = s.log := by
  unfold State.leaveConnected <;> (try dsimp only) <;> (repeat' split) <;> first | (simp; done) | simp [State.log]

@[simp] theorem State.leaveConnected_shelf (s : State) : (s.leaveConnected).shelf = s.shelf := by
  unfold State.leaveConnected <;> (try dsimp only) <;> (repeat' split) <;> first | (simp; done) | simp [State.shelf]

@[simp] theorem State.leaveConnected_tapeState (s : State) : (s.leaveConnected).tapeState = s.tapeState := by
  unfold State.leaveConnected <;> (try dsimp only) <;> (repeat' split) <;> first | (simp; done) | simp [State.tapeState]

@[simp] theorem State.leaveConnected_held (s : State) : (s.leaveConnected).held = s.held := by
  unfold State.leaveConnected <;> (try dsimp only) <;> (repeat' split) <;> first | (simp; done) | simp [State.held]

@[simp] theorem State.enterClearing_core (s : State) : (s.enterClearing).core = s.core := by
  unfold State.enterClearing <;> (try dsimp only) <;> (repeat' split) <;> first | (simp; done) | simp [State.core]

@[simp] theorem State.enterClearing_log (s : State) : (s.enterClearing).log = s.log := by
  unfold State.enterClearing <;> (try dsimp only) <;> (repeat' split) <;> first | (simp; done) | simp [State.log]

@[simp] theorem State.enterClearing_tapeState (s : State) : (s.enterClearing).tapeState = s.tapeState := by
  unfold State.enterClearing <;> (try dsimp only) <;> (repeat' split) <;> first | (simp; done) | simp [State.tapeState]

@[simp] theorem State.enterClearing_held (s : State) : (s.enterClearing).held = s.held := by
  unfold State.enterClearing <;> (try dsimp only) <;> (repeat' split) <;> first | (simp; done) | simp [State.held]

@[simp] theorem State.emptyQueues_core (s : State) : (s.emptyQueues).core = s.core := by
  unfold State.emptyQueues <;> (try dsimp only) <;> (repeat' split) <;> first | (simp; done) | simp [State.core]

@[simp] theorem State.emptyQueues_log (s : State) : (s.emptyQueues).log = s.log := by
  unfold State.emptyQueues <;> (try dsimp only) <;> (repeat' split) <;> first | (simp; done) | simp [State.log]

@[simp] theorem State.emptyQueues_tapeState (s : State) : (s.emptyQueues).tapeState = s.tapeState := by
  unfold State.emptyQueues <;> (try dsimp only) <;> (repeat' split) <;> first | (simp; done) | simp [State.tapeState]

@[simp] theorem State.emptyQueues_held (s : State) : (s.emptyQueues).held = s.held := by
  unfold State.emptyQueues <;> (try dsimp only) <;> (repeat' split) <;> first | (simp; done) | simp [State.held]

@[simp] theorem State.beginLocalClear_core (o : CallOutcome) (s : State) : (s.beginLocalClear o).core = s.core := by
  unfold State.beginLocalClear <;> (try dsimp only) <;> (repeat' split) <;> first | (simp; done) | simp [State.core]

@[simp] theorem State.beginLocalClear_log (o : CallOutcome) (s : State) : (s.beginLocalClear o).log = s.log := by
  unfold State.beginLocalClear <;> (try dsimp only) <;> (repeat' split) <;> first | (simp; done) | simp [State.log]

@[simp] theorem State.beginLocalClear_tapeState (o : CallOutcome) (s : State) : (s.beginLocalClear o).tapeState = s.tapeState := by
  unfold State.beginLocalClear <;> (try dsimp only) <;> (repeat' split) <;> first | (simp; done) | simp [State.tapeState]

@[simp] theorem State.beginLocalClear_held (o : CallOutcome) (s : State) : (s.beginLocalClear o).held = s.held := by
  unfold State.beginLocalClear <;> (try dsimp only) <;> (repeat' split) <;> first | (simp; done) | simp [State.held]

@[simp] theorem State.beginSelectionClear_core (s : State) : (s.beginSelectionClear).core = s.core := by
  unfold State.beginSelectionClear <;> (try dsimp only) <;> (repeat' split) <;> first | (simp; done) | simp [State.core]

@[simp] theorem State.beginSelectionClear_log (s : State) : (s.beginSelectionClear).log = s.log := by
  unfold State.beginSelectionClear <;> (try dsimp only) <;> (repeat' split) <;> first | (simp; done) | simp [State.log]

@[simp] theorem State.beginSelectionClear_tapeState (s : State) : (s.beginSelectionClear).tapeState = s.tapeState := by
  unfold State.beginSelectionClear <;> (try dsimp only) <;> (repeat' split) <;> first | (simp; done) | simp [State.tapeState]

@[simp] theorem State.beginSelectionClear_held (s : State) : (s.beginSelectionClear).held = s.held := by
  unfold State.beginSelectionClear <;> (try dsimp only) <;> (repeat' split) <;> first | (simp; done) | simp [State.held]

@[simp] theorem State.recorderTest_core (s : State) : (s.recorderTest).core = s.core := by
  unfold State.recorderTest <;> (try dsimp only) <;> (repeat' split) <;> first | (simp; done) | simp [State.core]

@[simp] theorem State.recorderTest_log (s : State) : (s.recorderTest).log = s.log := by
  unfold State.recorderTest <;> (try dsimp only) <;> (repeat' split) <;> first | (simp; done) | simp [State.log]

@[simp] theorem State.recorderTest_tapeState (s : State) : (s.recorderTest).tapeState = s.tapeState := by
  unfold State.recorderTest <;> (try dsimp only) <;> (repeat' split) <;> first | (simp; done) | simp [State.tapeState]

@[simp] theorem State.recorderTest_held (s : State) : (s.recorderTest).held = s.held := by
  unfold State.recorderTest <;> (try dsimp only) <;> (repeat' split) <;> first | (simp; done) | simp [State.held]

@[simp] theorem State.detach_core (k : Sink) (s : State) : (s.detach k).core = s.core := by
  unfold State.detach <;> (try dsimp only) <;> (repeat' split) <;> first | (simp; done) | simp [State.core]

@[simp] theorem State.detach_log (k : Sink) (s : State) : (s.detach k).log = s.log := by
  unfold State.detach <;> (try dsimp only) <;> (repeat' split) <;> first | (simp; done) | simp [State.log]

@[simp] theorem State.detach_tapeState (k : Sink) (s : State) : (s.detach k).tapeState = s.tapeState := by
  unfold State.detach <;> (try dsimp only) <;> (repeat' split) <;> first | (simp; done) | simp [State.tapeState]

@[simp] theorem State.detach_held (k : Sink) (s : State) : (s.detach k).held = s.held := by
  unfold State.detach <;> (try dsimp only) <;> (repeat' split) <;> first | (simp; done) | simp [State.held]

@[simp] theorem State.attach_core (k : Sink) (s : State) : (s.attach k).core = s.core := by
  unfold State.attach <;> (try dsimp only) <;> (repeat' split) <;> first | (simp; done) | simp [State.core]

@[simp] theorem State.attach_log (k : Sink) (s : State) : (s.attach k).log = s.log := by
  unfold State.attach <;> (try dsimp only) <;> (repeat' split) <;> first | (simp; done) | simp [State.log]

@[simp] theorem State.attach_shelf (k : Sink) (s : State) : (s.attach k).shelf = s.shelf := by
  unfold State.attach <;> (try dsimp only) <;> (repeat' split) <;> first | (simp; done) | simp [State.shelf]

@[simp] theorem State.attach_tapeState (k : Sink) (s : State) : (s.attach k).tapeState = s.tapeState := by
  unfold State.attach <;> (try dsimp only) <;> (repeat' split) <;> first | (simp; done) | simp [State.tapeState]

@[simp] theorem State.attach_held (k : Sink) (s : State) : (s.attach k).held = s.held := by
  unfold State.attach <;> (try dsimp only) <;> (repeat' split) <;> first | (simp; done) | simp [State.held]

@[simp] theorem State.endCapture_core (why : EndReason) (s : State) : (s.endCapture why).core = s.core := by
  unfold State.endCapture <;> (try dsimp only) <;> (repeat' split) <;> first | (simp; done) | simp [State.core]

@[simp] theorem State.endCapture_log (why : EndReason) (s : State) : (s.endCapture why).log = s.log := by
  unfold State.endCapture <;> (try dsimp only) <;> (repeat' split) <;> first | (simp; done) | simp [State.log]

@[simp] theorem State.endCapture_tapeState (why : EndReason) (s : State) : (s.endCapture why).tapeState = s.tapeState := by
  unfold State.endCapture <;> (try dsimp only) <;> (repeat' split) <;> first | (simp; done) | simp [State.tapeState]

@[simp] theorem State.endCapture_held (why : EndReason) (s : State) : (s.endCapture why).held = s.held := by
  unfold State.endCapture <;> (try dsimp only) <;> (repeat' split) <;> first | (simp; done) | simp [State.held]

@[simp] theorem State.answerbackRequest_core (s : State) : (s.answerbackRequest).core = s.core := by
  unfold State.answerbackRequest <;> (try dsimp only) <;> (repeat' split) <;> first | (simp; done) | simp [State.core]

@[simp] theorem State.answerbackRequest_log (s : State) : (s.answerbackRequest).log = s.log := by
  unfold State.answerbackRequest <;> (try dsimp only) <;> (repeat' split) <;> first | (simp; done) | simp [State.log]

@[simp] theorem State.answerbackRequest_shelf (s : State) : (s.answerbackRequest).shelf = s.shelf := by
  unfold State.answerbackRequest <;> (try dsimp only) <;> (repeat' split) <;> first | (simp; done) | simp [State.shelf]

@[simp] theorem State.answerbackRequest_tapeState (s : State) : (s.answerbackRequest).tapeState = s.tapeState := by
  unfold State.answerbackRequest <;> (try dsimp only) <;> (repeat' split) <;> first | (simp; done) | simp [State.tapeState]

@[simp] theorem State.answerbackRequest_held (s : State) : (s.answerbackRequest).held = s.held := by
  unfold State.answerbackRequest <;> (try dsimp only) <;> (repeat' split) <;> first | (simp; done) | simp [State.held]

@[simp] theorem State.restartIdle_core (s : State) : (s.restartIdle).core = s.core := by
  unfold State.restartIdle <;> (try dsimp only) <;> (repeat' split) <;> first | (simp; done) | simp [State.core]

@[simp] theorem State.restartIdle_log (s : State) : (s.restartIdle).log = s.log := by
  unfold State.restartIdle <;> (try dsimp only) <;> (repeat' split) <;> first | (simp; done) | simp [State.log]

@[simp] theorem State.restartIdle_shelf (s : State) : (s.restartIdle).shelf = s.shelf := by
  unfold State.restartIdle <;> (try dsimp only) <;> (repeat' split) <;> first | (simp; done) | simp [State.shelf]

@[simp] theorem State.restartIdle_tapeState (s : State) : (s.restartIdle).tapeState = s.tapeState := by
  unfold State.restartIdle <;> (try dsimp only) <;> (repeat' split) <;> first | (simp; done) | simp [State.tapeState]

@[simp] theorem State.restartIdle_held (s : State) : (s.restartIdle).held = s.held := by
  unfold State.restartIdle <;> (try dsimp only) <;> (repeat' split) <;> first | (simp; done) | simp [State.held]

@[simp] theorem State.startCalibration_core (s : State) : (s.startCalibration).core = s.core := by
  unfold State.startCalibration <;> (try dsimp only) <;> (repeat' split) <;> first | (simp; done) | simp [State.core]

@[simp] theorem State.startCalibration_log (s : State) : (s.startCalibration).log = s.log := by
  unfold State.startCalibration <;> (try dsimp only) <;> (repeat' split) <;> first | (simp; done) | simp [State.log]

@[simp] theorem State.startCalibration_shelf (s : State) : (s.startCalibration).shelf = s.shelf := by
  unfold State.startCalibration <;> (try dsimp only) <;> (repeat' split) <;> first | (simp; done) | simp [State.shelf]

@[simp] theorem State.startCalibration_tapeState (s : State) : (s.startCalibration).tapeState = s.tapeState := by
  unfold State.startCalibration <;> (try dsimp only) <;> (repeat' split) <;> first | (simp; done) | simp [State.tapeState]

@[simp] theorem State.startCalibration_held (s : State) : (s.startCalibration).held = s.held := by
  unfold State.startCalibration <;> (try dsimp only) <;> (repeat' split) <;> first | (simp; done) | simp [State.held]

@[simp] theorem State.switchesAtConnect_core (s : State) : (s.switchesAtConnect).core = s.core := by
  unfold State.switchesAtConnect <;> (try dsimp only) <;> (repeat' split) <;> first | (simp; done) | simp [State.core]

@[simp] theorem State.switchesAtConnect_log (s : State) : (s.switchesAtConnect).log = s.log := by
  unfold State.switchesAtConnect <;> (try dsimp only) <;> (repeat' split) <;> first | (simp; done) | simp [State.log]

@[simp] theorem State.switchesAtConnect_shelf (s : State) : (s.switchesAtConnect).shelf = s.shelf := by
  unfold State.switchesAtConnect <;> (try dsimp only) <;> (repeat' split) <;> first | (simp; done) | simp [State.shelf]

@[simp] theorem State.switchesAtConnect_tapeState (s : State) : (s.switchesAtConnect).tapeState = s.tapeState := by
  unfold State.switchesAtConnect <;> (try dsimp only) <;> (repeat' split) <;> first | (simp; done) | simp [State.tapeState]

@[simp] theorem State.switchesAtConnect_held (s : State) : (s.switchesAtConnect).held = s.held := by
  unfold State.switchesAtConnect <;> (try dsimp only) <;> (repeat' split) <;> first | (simp; done) | simp [State.held]

@[simp] theorem State.clearProgress_core (s : State) : (s.clearProgress).core = s.core := by
  unfold State.clearProgress <;> (try dsimp only) <;> (repeat' split) <;> first | (simp; done) | simp [State.core]

@[simp] theorem State.clearProgress_log (s : State) : (s.clearProgress).log = s.log := by
  unfold State.clearProgress <;> (try dsimp only) <;> (repeat' split) <;> first | (simp; done) | simp [State.log]

@[simp] theorem State.clearProgress_shelf (s : State) : (s.clearProgress).shelf = s.shelf := by
  unfold State.clearProgress <;> (try dsimp only) <;> (repeat' split) <;> first | (simp; done) | simp [State.shelf]

@[simp] theorem State.clearProgress_tapeState (s : State) : (s.clearProgress).tapeState = s.tapeState := by
  unfold State.clearProgress <;> (try dsimp only) <;> (repeat' split) <;> first | (simp; done) | simp [State.tapeState]

@[simp] theorem State.clearProgress_held (s : State) : (s.clearProgress).held = s.held := by
  unfold State.clearProgress <;> (try dsimp only) <;> (repeat' split) <;> first | (simp; done) | simp [State.held]

@[simp] theorem State.beginIdentity_core (dir : Direction) (s : State) : (s.beginIdentity dir).core = s.core := by
  unfold State.beginIdentity <;> (try dsimp only) <;> (repeat' split) <;> first | (simp; done) | simp [State.core]

@[simp] theorem State.beginIdentity_log (dir : Direction) (s : State) : (s.beginIdentity dir).log = s.log := by
  unfold State.beginIdentity <;> (try dsimp only) <;> (repeat' split) <;> first | (simp; done) | simp [State.log]

@[simp] theorem State.beginIdentity_shelf (dir : Direction) (s : State) : (s.beginIdentity dir).shelf = s.shelf := by
  unfold State.beginIdentity <;> (try dsimp only) <;> (repeat' split) <;> first | (simp; done) | simp [State.shelf]

@[simp] theorem State.beginIdentity_tapeState (dir : Direction) (s : State) : (s.beginIdentity dir).tapeState = s.tapeState := by
  unfold State.beginIdentity <;> (try dsimp only) <;> (repeat' split) <;> first | (simp; done) | simp [State.tapeState]

@[simp] theorem State.beginIdentity_held (dir : Direction) (s : State) : (s.beginIdentity dir).held = s.held := by
  unfold State.beginIdentity <;> (try dsimp only) <;> (repeat' split) <;> first | (simp; done) | simp [State.held]

@[simp] theorem State.enterConnected_core (s : State) : (s.enterConnected).core = s.core := by
  unfold State.enterConnected <;> (try dsimp only) <;> (repeat' split) <;> first | (simp; done) | simp [State.core]

@[simp] theorem State.enterConnected_log (s : State) : (s.enterConnected).log = s.log := by
  unfold State.enterConnected <;> (try dsimp only) <;> (repeat' split) <;> first | (simp; done) | simp [State.log]

@[simp] theorem State.enterConnected_tapeState (s : State) : (s.enterConnected).tapeState = s.tapeState := by
  unfold State.enterConnected <;> (try dsimp only) <;> (repeat' split) <;> first | (simp; done) | simp [State.tapeState]

@[simp] theorem State.enterConnected_held (s : State) : (s.enterConnected).held = s.held := by
  unfold State.enterConnected <;> (try dsimp only) <;> (repeat' split) <;> first | (simp; done) | simp [State.held]

@[simp] theorem State.enterAnswering_core (s : State) : (s.enterAnswering).core = s.core := by
  unfold State.enterAnswering <;> (try dsimp only) <;> (repeat' split) <;> first | (simp; done) | simp [State.core]

@[simp] theorem State.enterAnswering_log (s : State) : (s.enterAnswering).log = s.log := by
  unfold State.enterAnswering <;> (try dsimp only) <;> (repeat' split) <;> first | (simp; done) | simp [State.log]

@[simp] theorem State.enterAnswering_tapeState (s : State) : (s.enterAnswering).tapeState = s.tapeState := by
  unfold State.enterAnswering <;> (try dsimp only) <;> (repeat' split) <;> first | (simp; done) | simp [State.tapeState]

@[simp] theorem State.enterAnswering_held (s : State) : (s.enterAnswering).held = s.held := by
  unfold State.enterAnswering <;> (try dsimp only) <;> (repeat' split) <;> first | (simp; done) | simp [State.held]

@[simp] theorem State.enterSelecting_core (s : State) : (s.enterSelecting).core = s.core := by
  unfold State.enterSelecting <;> (try dsimp only) <;> (repeat' split) <;> first | (simp; done) | simp [State.core]

@[simp] theorem State.enterSelecting_log (s : State) : (s.enterSelecting).log = s.log := by
  unfold State.enterSelecting <;> (try dsimp only) <;> (repeat' split) <;> first | (simp; done) | simp [State.log]

@[simp] theorem State.enterSelecting_shelf (s : State) : (s.enterSelecting).shelf = s.shelf := by
  unfold State.enterSelecting <;> (try dsimp only) <;> (repeat' split) <;> first | (simp; done) | simp [State.shelf]

@[simp] theorem State.enterSelecting_tapeState (s : State) : (s.enterSelecting).tapeState = s.tapeState := by
  unfold State.enterSelecting <;> (try dsimp only) <;> (repeat' split) <;> first | (simp; done) | simp [State.tapeState]

@[simp] theorem State.enterSelecting_held (s : State) : (s.enterSelecting).held = s.held := by
  unfold State.enterSelecting <;> (try dsimp only) <;> (repeat' split) <;> first | (simp; done) | simp [State.held]

@[simp] theorem State.enterCalling_core (chars : List IChar) (s : State) : (s.enterCalling chars).core = s.core := by
  unfold State.enterCalling <;> (try dsimp only) <;> (repeat' split) <;> first | (simp; done) | simp [State.core]

@[simp] theorem State.enterCalling_log (chars : List IChar) (s : State) : (s.enterCalling chars).log = s.log := by
  unfold State.enterCalling <;> (try dsimp only) <;> (repeat' split) <;> first | (simp; done) | simp [State.log]

@[simp] theorem State.enterCalling_tapeState (chars : List IChar) (s : State) : (s.enterCalling chars).tapeState = s.tapeState := by
  unfold State.enterCalling <;> (try dsimp only) <;> (repeat' split) <;> first | (simp; done) | simp [State.tapeState]

@[simp] theorem State.enterCalling_held (chars : List IChar) (s : State) : (s.enterCalling chars).held = s.held := by
  unfold State.enterCalling <;> (try dsimp only) <;> (repeat' split) <;> first | (simp; done) | simp [State.held]

@[simp] theorem State.enterRefused_core (s : State) : (s.enterRefused).core = s.core := by
  unfold State.enterRefused <;> (try dsimp only) <;> (repeat' split) <;> first | (simp; done) | simp [State.core]

@[simp] theorem State.enterRefused_log (s : State) : (s.enterRefused).log = s.log := by
  unfold State.enterRefused <;> (try dsimp only) <;> (repeat' split) <;> first | (simp; done) | simp [State.log]

@[simp] theorem State.enterRefused_shelf (s : State) : (s.enterRefused).shelf = s.shelf := by
  unfold State.enterRefused <;> (try dsimp only) <;> (repeat' split) <;> first | (simp; done) | simp [State.shelf]

@[simp] theorem State.enterRefused_tapeState (s : State) : (s.enterRefused).tapeState = s.tapeState := by
  unfold State.enterRefused <;> (try dsimp only) <;> (repeat' split) <;> first | (simp; done) | simp [State.tapeState]

@[simp] theorem State.enterRefused_held (s : State) : (s.enterRefused).held = s.held := by
  unfold State.enterRefused <;> (try dsimp only) <;> (repeat' split) <;> first | (simp; done) | simp [State.held]

@[simp] theorem State.acceptanceTest_core (s : State) : (s.acceptanceTest).core = s.core := by
  unfold State.acceptanceTest <;> (try dsimp only) <;> (repeat' split) <;> first | (simp; done) | simp [State.core]

@[simp] theorem State.acceptanceTest_log (s : State) : (s.acceptanceTest).log = s.log := by
  unfold State.acceptanceTest <;> (try dsimp only) <;> (repeat' split) <;> first | (simp; done) | simp [State.log]

@[simp] theorem State.acceptanceTest_tapeState (s : State) : (s.acceptanceTest).tapeState = s.tapeState := by
  unfold State.acceptanceTest <;> (try dsimp only) <;> (repeat' split) <;> first | (simp; done) | simp [State.tapeState]

@[simp] theorem State.acceptanceTest_held (s : State) : (s.acceptanceTest).held = s.held := by
  unfold State.acceptanceTest <;> (try dsimp only) <;> (repeat' split) <;> first | (simp; done) | simp [State.held]

@[simp] theorem State.createRecord_core (dir : Direction) (selection : List IChar) (s : State) : (s.createRecord dir selection).core = s.core := by
  unfold State.createRecord <;> (try dsimp only) <;> (repeat' split) <;> first | (simp; done) | simp [State.core]

@[simp] theorem State.createRecord_log (dir : Direction) (selection : List IChar) (s : State) : (s.createRecord dir selection).log = s.log := by
  unfold State.createRecord <;> (try dsimp only) <;> (repeat' split) <;> first | (simp; done) | simp [State.log]

@[simp] theorem State.createRecord_shelf (dir : Direction) (selection : List IChar) (s : State) : (s.createRecord dir selection).shelf = s.shelf := by
  unfold State.createRecord <;> (try dsimp only) <;> (repeat' split) <;> first | (simp; done) | simp [State.shelf]

@[simp] theorem State.createRecord_tapeState (dir : Direction) (selection : List IChar) (s : State) : (s.createRecord dir selection).tapeState = s.tapeState := by
  unfold State.createRecord <;> (try dsimp only) <;> (repeat' split) <;> first | (simp; done) | simp [State.tapeState]

@[simp] theorem State.createRecord_held (dir : Direction) (selection : List IChar) (s : State) : (s.createRecord dir selection).held = s.held := by
  unfold State.createRecord <;> (try dsimp only) <;> (repeat' split) <;> first | (simp; done) | simp [State.held]

@[simp] theorem State.offer_core (s : State) : (s.offer).core = s.core := by
  unfold State.offer <;> (try dsimp only) <;> (repeat' split) <;> first | (simp; done) | simp [State.core]

@[simp] theorem State.offer_log (s : State) : (s.offer).log = s.log := by
  unfold State.offer <;> (try dsimp only) <;> (repeat' split) <;> first | (simp; done) | simp [State.log]

@[simp] theorem State.offer_tapeState (s : State) : (s.offer).tapeState = s.tapeState := by
  unfold State.offer <;> (try dsimp only) <;> (repeat' split) <;> first | (simp; done) | simp [State.tapeState]

@[simp] theorem State.offer_held (s : State) : (s.offer).held = s.held := by
  unfold State.offer <;> (try dsimp only) <;> (repeat' split) <;> first | (simp; done) | simp [State.held]

@[simp] theorem State.noteMaybe_core (n : Option Notice) (s : State) : (s.noteMaybe n).core = s.core := by
  unfold State.noteMaybe <;> (try dsimp only) <;> (repeat' split) <;> first | (simp; done) | simp [State.core]

@[simp] theorem State.noteMaybe_log (n : Option Notice) (s : State) : (s.noteMaybe n).log = s.log := by
  unfold State.noteMaybe <;> (try dsimp only) <;> (repeat' split) <;> first | (simp; done) | simp [State.log]

@[simp] theorem State.noteMaybe_shelf (n : Option Notice) (s : State) : (s.noteMaybe n).shelf = s.shelf := by
  unfold State.noteMaybe <;> (try dsimp only) <;> (repeat' split) <;> first | (simp; done) | simp [State.shelf]

@[simp] theorem State.noteMaybe_tapeState (n : Option Notice) (s : State) : (s.noteMaybe n).tapeState = s.tapeState := by
  unfold State.noteMaybe <;> (try dsimp only) <;> (repeat' split) <;> first | (simp; done) | simp [State.tapeState]

@[simp] theorem State.noteMaybe_held (n : Option Notice) (s : State) : (s.noteMaybe n).held = s.held := by
  unfold State.noteMaybe <;> (try dsimp only) <;> (repeat' split) <;> first | (simp; done) | simp [State.held]

@[simp] theorem State.closeRecord_core (s : State) : s.closeRecord.core = s.core := by
  unfold State.closeRecord; split
  · rfl
  · rw [State.noteMaybe_core]; rfl

@[simp] theorem State.closeRecord_shelf (s : State) : (s.closeRecord).shelf = s.shelf := by
  unfold State.closeRecord <;> (try dsimp only) <;> (repeat' split) <;> first | (simp; done) | simp [State.shelf]

@[simp] theorem State.closeRecord_tapeState (s : State) : (s.closeRecord).tapeState = s.tapeState := by
  unfold State.closeRecord <;> (try dsimp only) <;> (repeat' split) <;> first | (simp; done) | simp [State.tapeState]

@[simp] theorem State.closeRecord_held (s : State) : (s.closeRecord).held = s.held := by
  unfold State.closeRecord <;> (try dsimp only) <;> (repeat' split) <;> first | (simp; done) | simp [State.held]

@[simp] theorem State.returnToFree_core (s : State) : (s.returnToFree).core = s.core := by
  unfold State.returnToFree <;> (try dsimp only) <;> (repeat' split) <;> first | (simp; done) | simp [State.core]

@[simp] theorem State.returnToFree_tapeState (s : State) : (s.returnToFree).tapeState = s.tapeState := by
  unfold State.returnToFree <;> (try dsimp only) <;> (repeat' split) <;> first | (simp; done) | simp [State.tapeState]

@[simp] theorem State.returnToFree_held (s : State) : (s.returnToFree).held = s.held := by
  unfold State.returnToFree <;> (try dsimp only) <;> (repeat' split) <;> first | (simp; done) | simp [State.held]

@[simp] theorem State.endUnanswered_core (o : CallOutcome) (s : State) : (s.endUnanswered o).core = s.core := by
  unfold State.endUnanswered <;> (try dsimp only) <;> (repeat' split) <;> first | (simp; done) | simp [State.core]

@[simp] theorem State.endUnanswered_tapeState (o : CallOutcome) (s : State) : (s.endUnanswered o).tapeState = s.tapeState := by
  unfold State.endUnanswered <;> (try dsimp only) <;> (repeat' split) <;> first | (simp; done) | simp [State.tapeState]

@[simp] theorem State.endUnanswered_held (o : CallOutcome) (s : State) : (s.endUnanswered o).held = s.held := by
  unfold State.endUnanswered <;> (try dsimp only) <;> (repeat' split) <;> first | (simp; done) | simp [State.held]

@[simp] theorem State.collide_core (s : State) : (s.collide).core = s.core := by
  unfold State.collide <;> (try dsimp only) <;> (repeat' split) <;> first | (simp; done) | simp [State.core]

@[simp] theorem State.collide_tapeState (s : State) : (s.collide).tapeState = s.tapeState := by
  unfold State.collide <;> (try dsimp only) <;> (repeat' split) <;> first | (simp; done) | simp [State.tapeState]

@[simp] theorem State.collide_held (s : State) : (s.collide).held = s.held := by
  unfold State.collide <;> (try dsimp only) <;> (repeat' split) <;> first | (simp; done) | simp [State.held]

theorem State.clearRequest_core (s t : State) (h : s.clearRequest = some t) : t.core = s.core := by
  revert h; unfold State.clearRequest; split <;> intro h <;> cases h <;> simp

@[simp] theorem State.clearRequest_getD_core (s : State) : ((s.clearRequest).getD s).core = s.core := by
  cases h : s.clearRequest with
  | none => rfl
  | some t => exact State.clearRequest_core _ _ h

theorem State.clearRequest_log (s t : State) (h : s.clearRequest = some t) : t.log = s.log := by
  revert h; unfold State.clearRequest; split <;> intro h <;> cases h <;> simp

@[simp] theorem State.clearRequest_getD_log (s : State) : ((s.clearRequest).getD s).log = s.log := by
  cases h : s.clearRequest with
  | none => rfl
  | some t => exact State.clearRequest_log _ _ h

theorem State.clearRequest_tapeState (s t : State) (h : s.clearRequest = some t) : t.tapeState = s.tapeState := by
  revert h; unfold State.clearRequest; split <;> intro h <;> cases h <;> simp

@[simp] theorem State.clearRequest_getD_tapeState (s : State) : ((s.clearRequest).getD s).tapeState = s.tapeState := by
  cases h : s.clearRequest with
  | none => rfl
  | some t => exact State.clearRequest_tapeState _ _ h

theorem State.clearRequest_held (s t : State) (h : s.clearRequest = some t) : t.held = s.held := by
  revert h; unfold State.clearRequest; split <;> intro h <;> cases h <;> simp

@[simp] theorem State.clearRequest_getD_held (s : State) : ((s.clearRequest).getD s).held = s.held := by
  cases h : s.clearRequest with
  | none => rfl
  | some t => exact State.clearRequest_held _ _ h

theorem State.answerRequest_core (s t : State) (h : s.answerRequest = some t) : t.core = s.core := by
  revert h; unfold State.answerRequest; split <;> intro h <;> cases h <;> simp

@[simp] theorem State.answerRequest_getD_core (s : State) : ((s.answerRequest).getD s).core = s.core := by
  cases h : s.answerRequest with
  | none => rfl
  | some t => exact State.answerRequest_core _ _ h

theorem State.answerRequest_log (s t : State) (h : s.answerRequest = some t) : t.log = s.log := by
  revert h; unfold State.answerRequest; split <;> intro h <;> cases h <;> simp

@[simp] theorem State.answerRequest_getD_log (s : State) : ((s.answerRequest).getD s).log = s.log := by
  cases h : s.answerRequest with
  | none => rfl
  | some t => exact State.answerRequest_log _ _ h

theorem State.answerRequest_tapeState (s t : State) (h : s.answerRequest = some t) : t.tapeState = s.tapeState := by
  revert h; unfold State.answerRequest; split <;> intro h <;> cases h <;> simp

@[simp] theorem State.answerRequest_getD_tapeState (s : State) : ((s.answerRequest).getD s).tapeState = s.tapeState := by
  cases h : s.answerRequest with
  | none => rfl
  | some t => exact State.answerRequest_tapeState _ _ h

theorem State.answerRequest_held (s t : State) (h : s.answerRequest = some t) : t.held = s.held := by
  revert h; unfold State.answerRequest; split <;> intro h <;> cases h <;> simp

@[simp] theorem State.answerRequest_getD_held (s : State) : ((s.answerRequest).getD s).held = s.held := by
  cases h : s.answerRequest with
  | none => rfl
  | some t => exact State.answerRequest_held _ _ h

theorem State.breakRequest_core (s t : State) (h : s.breakRequest = some t) : t.core = s.core := by
  revert h; unfold State.breakRequest; split <;> intro h <;> cases h <;> simp

@[simp] theorem State.breakRequest_getD_core (s : State) : ((s.breakRequest).getD s).core = s.core := by
  cases h : s.breakRequest with
  | none => rfl
  | some t => exact State.breakRequest_core _ _ h

theorem State.breakRequest_log (s t : State) (h : s.breakRequest = some t) : t.log = s.log := by
  revert h; unfold State.breakRequest; split <;> intro h <;> cases h <;> simp

@[simp] theorem State.breakRequest_getD_log (s : State) : ((s.breakRequest).getD s).log = s.log := by
  cases h : s.breakRequest with
  | none => rfl
  | some t => exact State.breakRequest_log _ _ h

theorem State.breakRequest_tapeState (s t : State) (h : s.breakRequest = some t) : t.tapeState = s.tapeState := by
  revert h; unfold State.breakRequest; split <;> intro h <;> cases h <;> simp

@[simp] theorem State.breakRequest_getD_tapeState (s : State) : ((s.breakRequest).getD s).tapeState = s.tapeState := by
  cases h : s.breakRequest with
  | none => rfl
  | some t => exact State.breakRequest_tapeState _ _ h

theorem State.breakRequest_held (s t : State) (h : s.breakRequest = some t) : t.held = s.held := by
  revert h; unfold State.breakRequest; split <;> intro h <;> cases h <;> simp

@[simp] theorem State.breakRequest_getD_held (s : State) : ((s.breakRequest).getD s).held = s.held := by
  cases h : s.breakRequest with
  | none => rfl
  | some t => exact State.breakRequest_held _ _ h

@[simp] theorem State.changeMode_tapeState (new : Mode) (byWatchdog : Bool) (s : State) : (s.changeMode new byWatchdog).tapeState = s.tapeState := by
  unfold State.changeMode <;> (try dsimp only) <;> (repeat' split) <;> first | (simp; done) | simp [State.tapeState]

@[simp] theorem State.changeMode_held (new : Mode) (byWatchdog : Bool) (s : State) : (s.changeMode new byWatchdog).held = s.held := by
  unfold State.changeMode <;> (try dsimp only) <;> (repeat' split) <;> first | (simp; done) | simp [State.held]

@[simp] theorem State.divert_core (s : State) : (s.divert).core = s.core := by
  unfold State.divert <;> (try dsimp only) <;> (repeat' split) <;> first | (simp; done) | simp [State.core]

@[simp] theorem State.divert_log (s : State) : (s.divert).log = s.log := by
  unfold State.divert <;> (try dsimp only) <;> (repeat' split) <;> first | (simp; done) | simp [State.log]

@[simp] theorem State.divert_tapeState (s : State) : (s.divert).tapeState = s.tapeState := by
  unfold State.divert <;> (try dsimp only) <;> (repeat' split) <;> first | (simp; done) | simp [State.tapeState]

@[simp] theorem State.divert_held (s : State) : (s.divert).held = s.held := by
  unfold State.divert <;> (try dsimp only) <;> (repeat' split) <;> first | (simp; done) | simp [State.held]

@[simp] theorem State.printerOut_core (jam : Bool) (s : State) : (s.printerOut jam).core = s.core := by
  unfold State.printerOut <;> (try dsimp only) <;> (repeat' split) <;> first | (simp; done) | simp [State.core]

@[simp] theorem State.printerOut_log (jam : Bool) (s : State) : (s.printerOut jam).log = s.log := by
  unfold State.printerOut <;> (try dsimp only) <;> (repeat' split) <;> first | (simp; done) | simp [State.log]

@[simp] theorem State.printerOut_tapeState (jam : Bool) (s : State) : (s.printerOut jam).tapeState = s.tapeState := by
  unfold State.printerOut <;> (try dsimp only) <;> (repeat' split) <;> first | (simp; done) | simp [State.tapeState]

@[simp] theorem State.printerOut_held (jam : Bool) (s : State) : (s.printerOut jam).held = s.held := by
  unfold State.printerOut <;> (try dsimp only) <;> (repeat' split) <;> first | (simp; done) | simp [State.held]

@[simp] theorem State.printerJam_core (s : State) : (s.printerJam).core = s.core := by
  unfold State.printerJam <;> (try dsimp only) <;> (repeat' split) <;> first | (simp; done) | simp [State.core]

@[simp] theorem State.printerJam_log (s : State) : (s.printerJam).log = s.log := by
  unfold State.printerJam <;> (try dsimp only) <;> (repeat' split) <;> first | (simp; done) | simp [State.log]

@[simp] theorem State.printerJam_tapeState (s : State) : (s.printerJam).tapeState = s.tapeState := by
  unfold State.printerJam <;> (try dsimp only) <;> (repeat' split) <;> first | (simp; done) | simp [State.tapeState]

@[simp] theorem State.printerJam_held (s : State) : (s.printerJam).held = s.held := by
  unfold State.printerJam <;> (try dsimp only) <;> (repeat' split) <;> first | (simp; done) | simp [State.held]

@[simp] theorem State.enterHalted_core (s : State) : (s.enterHalted).core = s.core := by
  unfold State.enterHalted <;> (try dsimp only) <;> (repeat' split) <;> first | (simp; done) | simp [State.core]

@[simp] theorem State.enterHalted_log (s : State) : (s.enterHalted).log = s.log := by
  unfold State.enterHalted <;> (try dsimp only) <;> (repeat' split) <;> first | (simp; done) | simp [State.log]

@[simp] theorem State.enterHalted_tapeState (s : State) : (s.enterHalted).tapeState = s.tapeState := by
  unfold State.enterHalted <;> (try dsimp only) <;> (repeat' split) <;> first | (simp; done) | simp [State.tapeState]

@[simp] theorem State.enterHalted_held (s : State) : (s.enterHalted).held = s.held := by
  unfold State.enterHalted <;> (try dsimp only) <;> (repeat' split) <;> first | (simp; done) | simp [State.held]

@[simp] theorem State.punchOut_core (jam : Bool) (s : State) : (s.punchOut jam).core = s.core := by
  unfold State.punchOut <;> (try dsimp only) <;> (repeat' split) <;> first | (simp; done) | simp [State.core]

@[simp] theorem State.punchOut_log (jam : Bool) (s : State) : (s.punchOut jam).log = s.log := by
  unfold State.punchOut <;> (try dsimp only) <;> (repeat' split) <;> first | (simp; done) | simp [State.log]

@[simp] theorem State.punchOut_held (jam : Bool) (s : State) : (s.punchOut jam).held = s.held := by
  unfold State.punchOut <;> (try dsimp only) <;> (repeat' split) <;> first | (simp; done) | simp [State.held]

@[simp] theorem State.setTape_core (n : Nat) (s : State) : (s.setTape n).core = s.core := by
  unfold State.setTape <;> (try dsimp only) <;> (repeat' split) <;> first | (simp; done) | simp [State.core]

@[simp] theorem State.setTape_log (n : Nat) (s : State) : (s.setTape n).log = s.log := by
  unfold State.setTape <;> (try dsimp only) <;> (repeat' split) <;> first | (simp; done) | simp [State.log]

@[simp] theorem State.setTape_held (n : Nat) (s : State) : (s.setTape n).held = s.held := by
  unfold State.setTape <;> (try dsimp only) <;> (repeat' split) <;> first | (simp; done) | simp [State.held]

@[simp] theorem State.cutTape_core (s : State) : (s.cutTape).core = s.core := by
  unfold State.cutTape <;> (try dsimp only) <;> (repeat' split) <;> first | (simp; done) | simp [State.core]

@[simp] theorem State.cutTape_log (s : State) : (s.cutTape).log = s.log := by
  unfold State.cutTape <;> (try dsimp only) <;> (repeat' split) <;> first | (simp; done) | simp [State.log]

@[simp] theorem State.cutTape_held (s : State) : (s.cutTape).held = s.held := by
  unfold State.cutTape <;> (try dsimp only) <;> (repeat' split) <;> first | (simp; done) | simp [State.held]

@[simp] theorem State.pushReply_core (r : Reply) (s : State) : (s.pushReply r).core = s.core := by
  unfold State.pushReply <;> (try dsimp only) <;> (repeat' split) <;> first | (simp; done) | simp [State.core]

@[simp] theorem State.pushReply_log (r : Reply) (s : State) : (s.pushReply r).log = s.log := by
  unfold State.pushReply <;> (try dsimp only) <;> (repeat' split) <;> first | (simp; done) | simp [State.log]

@[simp] theorem State.pushReply_shelf (r : Reply) (s : State) : (s.pushReply r).shelf = s.shelf := by
  unfold State.pushReply <;> (try dsimp only) <;> (repeat' split) <;> first | (simp; done) | simp [State.shelf]

@[simp] theorem State.pushReply_tapeState (r : Reply) (s : State) : (s.pushReply r).tapeState = s.tapeState := by
  unfold State.pushReply <;> (try dsimp only) <;> (repeat' split) <;> first | (simp; done) | simp [State.tapeState]

@[simp] theorem State.pushReply_held (r : Reply) (s : State) : (s.pushReply r).held = s.held := by
  unfold State.pushReply <;> (try dsimp only) <;> (repeat' split) <;> first | (simp; done) | simp [State.held]

@[simp] theorem State.rejectBusy_core (s : State) : (s.rejectBusy).core = s.core := by
  unfold State.rejectBusy <;> (try dsimp only) <;> (repeat' split) <;> first | (simp; done) | simp [State.core]

@[simp] theorem State.rejectBusy_log (s : State) : (s.rejectBusy).log = s.log := by
  unfold State.rejectBusy <;> (try dsimp only) <;> (repeat' split) <;> first | (simp; done) | simp [State.log]

@[simp] theorem State.rejectBusy_shelf (s : State) : (s.rejectBusy).shelf = s.shelf := by
  unfold State.rejectBusy <;> (try dsimp only) <;> (repeat' split) <;> first | (simp; done) | simp [State.shelf]

@[simp] theorem State.rejectBusy_tapeState (s : State) : (s.rejectBusy).tapeState = s.tapeState := by
  unfold State.rejectBusy <;> (try dsimp only) <;> (repeat' split) <;> first | (simp; done) | simp [State.tapeState]

@[simp] theorem State.rejectBusy_held (s : State) : (s.rejectBusy).held = s.held := by
  unfold State.rejectBusy <;> (try dsimp only) <;> (repeat' split) <;> first | (simp; done) | simp [State.held]

@[simp] theorem State.frameHunt_core (s : State) : (s.frameHunt).core = s.core := by
  unfold State.frameHunt <;> (try dsimp only) <;> (repeat' split) <;> first | (simp; done) | simp [State.core]

@[simp] theorem State.frameHunt_log (s : State) : (s.frameHunt).log = s.log := by
  unfold State.frameHunt <;> (try dsimp only) <;> (repeat' split) <;> first | (simp; done) | simp [State.log]

@[simp] theorem State.frameHunt_shelf (s : State) : (s.frameHunt).shelf = s.shelf := by
  unfold State.frameHunt <;> (try dsimp only) <;> (repeat' split) <;> first | (simp; done) | simp [State.shelf]

@[simp] theorem State.frameHunt_tapeState (s : State) : (s.frameHunt).tapeState = s.tapeState := by
  unfold State.frameHunt <;> (try dsimp only) <;> (repeat' split) <;> first | (simp; done) | simp [State.tapeState]

@[simp] theorem State.frameHunt_held (s : State) : (s.frameHunt).held = s.held := by
  unfold State.frameHunt <;> (try dsimp only) <;> (repeat' split) <;> first | (simp; done) | simp [State.held]

@[simp] theorem State.endSilence_log (s : State) : (s.endSilence).log = s.log := by
  unfold State.endSilence <;> (try dsimp only) <;> (repeat' split) <;> first | (simp; done) | simp [State.log]

@[simp] theorem State.endSilence_shelf (s : State) : (s.endSilence).shelf = s.shelf := by
  unfold State.endSilence <;> (try dsimp only) <;> (repeat' split) <;> first | (simp; done) | simp [State.shelf]

@[simp] theorem State.endSilence_tapeState (s : State) : (s.endSilence).tapeState = s.tapeState := by
  unfold State.endSilence <;> (try dsimp only) <;> (repeat' split) <;> first | (simp; done) | simp [State.tapeState]

@[simp] theorem State.endSilence_held (s : State) : (s.endSilence).held = s.held := by
  unfold State.endSilence <;> (try dsimp only) <;> (repeat' split) <;> first | (simp; done) | simp [State.held]

@[simp] theorem State.refuseFrame_core (why : RejectReason) (s : State) : (s.refuseFrame why).core = s.core := by
  unfold State.refuseFrame State.answerFrame
  (repeat' split) <;> simp

@[simp] theorem State.refuseFrame_log (why : RejectReason) (s : State) : (s.refuseFrame why).log = s.log := by
  unfold State.refuseFrame State.answerFrame
  (repeat' split) <;> simp

@[simp] theorem State.refuseFrame_shelf (why : RejectReason) (s : State) : (s.refuseFrame why).shelf = s.shelf := by
  unfold State.refuseFrame State.answerFrame
  (repeat' split) <;> simp

@[simp] theorem State.refuseFrame_tapeState (why : RejectReason) (s : State) : (s.refuseFrame why).tapeState = s.tapeState := by
  unfold State.refuseFrame State.answerFrame
  (repeat' split) <;> simp

@[simp] theorem State.refuseFrame_held (why : RejectReason) (s : State) : (s.refuseFrame why).held = s.held := by
  unfold State.refuseFrame State.answerFrame
  (repeat' split) <;> simp

@[simp] theorem State.reject_core (why : RejectReason) (s : State) : (s.reject why).1.core = s.core := by
  unfold State.reject <;> (try dsimp only) <;> (repeat' split) <;> first | (simp; done) | simp [State.core]

@[simp] theorem State.reject_log (why : RejectReason) (s : State) : (s.reject why).1.log = s.log := by
  unfold State.reject <;> (try dsimp only) <;> (repeat' split) <;> first | (simp; done) | simp [State.log]

@[simp] theorem State.reject_shelf (why : RejectReason) (s : State) : (s.reject why).1.shelf = s.shelf := by
  unfold State.reject <;> (try dsimp only) <;> (repeat' split) <;> first | (simp; done) | simp [State.shelf]

@[simp] theorem State.reject_tapeState (why : RejectReason) (s : State) : (s.reject why).1.tapeState = s.tapeState := by
  unfold State.reject <;> (try dsimp only) <;> (repeat' split) <;> first | (simp; done) | simp [State.tapeState]

@[simp] theorem State.reject_held (why : RejectReason) (s : State) : (s.reject why).1.held = s.held := by
  unfold State.reject <;> (try dsimp only) <;> (repeat' split) <;> first | (simp; done) | simp [State.held]

@[simp] theorem State.windowError_core (s : State) : (s.windowError).core = s.core := by
  unfold State.windowError <;> (try dsimp only) <;> (repeat' split) <;> first | (simp; done) | simp [State.core]

@[simp] theorem State.windowError_log (s : State) : (s.windowError).log = s.log := by
  unfold State.windowError <;> (try dsimp only) <;> (repeat' split) <;> first | (simp; done) | simp [State.log]

@[simp] theorem State.windowError_shelf (s : State) : (s.windowError).shelf = s.shelf := by
  unfold State.windowError <;> (try dsimp only) <;> (repeat' split) <;> first | (simp; done) | simp [State.shelf]

@[simp] theorem State.windowError_tapeState (s : State) : (s.windowError).tapeState = s.tapeState := by
  unfold State.windowError <;> (try dsimp only) <;> (repeat' split) <;> first | (simp; done) | simp [State.tapeState]

@[simp] theorem State.windowError_held (s : State) : (s.windowError).held = s.held := by
  unfold State.windowError <;> (try dsimp only) <;> (repeat' split) <;> first | (simp; done) | simp [State.held]

@[simp] theorem State.windowGood_core (candidate bias : Int) (s : State) : (s.windowGood candidate bias).core = s.core := by
  unfold State.windowGood <;> (try dsimp only) <;> (repeat' split) <;> first | (simp; done) | simp [State.core]

@[simp] theorem State.windowGood_log (candidate bias : Int) (s : State) : (s.windowGood candidate bias).log = s.log := by
  unfold State.windowGood <;> (try dsimp only) <;> (repeat' split) <;> first | (simp; done) | simp [State.log]

@[simp] theorem State.windowGood_shelf (candidate bias : Int) (s : State) : (s.windowGood candidate bias).shelf = s.shelf := by
  unfold State.windowGood <;> (try dsimp only) <;> (repeat' split) <;> first | (simp; done) | simp [State.shelf]

@[simp] theorem State.windowGood_tapeState (candidate bias : Int) (s : State) : (s.windowGood candidate bias).tapeState = s.tapeState := by
  unfold State.windowGood <;> (try dsimp only) <;> (repeat' split) <;> first | (simp; done) | simp [State.tapeState]

@[simp] theorem State.windowGood_held (candidate bias : Int) (s : State) : (s.windowGood candidate bias).held = s.held := by
  unfold State.windowGood <;> (try dsimp only) <;> (repeat' split) <;> first | (simp; done) | simp [State.held]

@[simp] theorem State.windowEnd_core (s : State) : (s.windowEnd).core = s.core := by
  unfold State.windowEnd <;> (try dsimp only) <;> (repeat' split) <;> first | (simp; done) | simp [State.core]

@[simp] theorem State.windowEnd_log (s : State) : (s.windowEnd).log = s.log := by
  unfold State.windowEnd <;> (try dsimp only) <;> (repeat' split) <;> first | (simp; done) | simp [State.log]

@[simp] theorem State.windowEnd_shelf (s : State) : (s.windowEnd).shelf = s.shelf := by
  unfold State.windowEnd <;> (try dsimp only) <;> (repeat' split) <;> first | (simp; done) | simp [State.shelf]

@[simp] theorem State.windowEnd_tapeState (s : State) : (s.windowEnd).tapeState = s.tapeState := by
  unfold State.windowEnd <;> (try dsimp only) <;> (repeat' split) <;> first | (simp; done) | simp [State.tapeState]

@[simp] theorem State.windowEnd_held (s : State) : (s.windowEnd).held = s.held := by
  unfold State.windowEnd <;> (try dsimp only) <;> (repeat' split) <;> first | (simp; done) | simp [State.held]

@[simp] theorem State.calibrate_core (ds : List Int) (s : State) : (s.calibrate ds).core = s.core := by
  unfold State.calibrate <;> (try dsimp only) <;> (repeat' split) <;> first | (simp; done) | simp [State.core]

@[simp] theorem State.calibrate_log (ds : List Int) (s : State) : (s.calibrate ds).log = s.log := by
  unfold State.calibrate <;> (try dsimp only) <;> (repeat' split) <;> first | (simp; done) | simp [State.log]

@[simp] theorem State.calibrate_shelf (ds : List Int) (s : State) : (s.calibrate ds).shelf = s.shelf := by
  unfold State.calibrate <;> (try dsimp only) <;> (repeat' split) <;> first | (simp; done) | simp [State.shelf]

@[simp] theorem State.calibrate_tapeState (ds : List Int) (s : State) : (s.calibrate ds).tapeState = s.tapeState := by
  unfold State.calibrate <;> (try dsimp only) <;> (repeat' split) <;> first | (simp; done) | simp [State.tapeState]

@[simp] theorem State.calibrate_held (ds : List Int) (s : State) : (s.calibrate ds).held = s.held := by
  unfold State.calibrate <;> (try dsimp only) <;> (repeat' split) <;> first | (simp; done) | simp [State.held]

@[simp] theorem State.actOn_core (a : SeqAction) (s : State) : (s.actOn a).core = s.core := by
  unfold State.actOn <;> (try dsimp only) <;> (repeat' split) <;> first | (simp; done) | simp [State.core]

@[simp] theorem State.actOn_log (a : SeqAction) (s : State) : (s.actOn a).log = s.log := by
  unfold State.actOn <;> (try dsimp only) <;> (repeat' split) <;> first | (simp; done) | simp [State.log]

@[simp] theorem State.actOn_tapeState (a : SeqAction) (s : State) : (s.actOn a).tapeState = s.tapeState := by
  unfold State.actOn <;> (try dsimp only) <;> (repeat' split) <;> first | (simp; done) | simp [State.tapeState]

@[simp] theorem State.actOn_held (a : SeqAction) (s : State) : (s.actOn a).held = s.held := by
  unfold State.actOn <;> (try dsimp only) <;> (repeat' split) <;> first | (simp; done) | simp [State.held]

@[simp] theorem State.complete1_core (x : Nat × SeqEntry) (s : State) : (s.complete1 x).core = s.core := by
  unfold State.complete1 <;> (try dsimp only) <;> (repeat' split) <;> first | (simp; done) | simp [State.core]

@[simp] theorem State.complete1_log (x : Nat × SeqEntry) (s : State) : (s.complete1 x).log = s.log := by
  unfold State.complete1 <;> (try dsimp only) <;> (repeat' split) <;> first | (simp; done) | simp [State.log]

@[simp] theorem State.complete1_tapeState (x : Nat × SeqEntry) (s : State) : (s.complete1 x).tapeState = s.tapeState := by
  unfold State.complete1 <;> (try dsimp only) <;> (repeat' split) <;> first | (simp; done) | simp [State.tapeState]

@[simp] theorem State.complete1_held (x : Nat × SeqEntry) (s : State) : (s.complete1 x).held = s.held := by
  unfold State.complete1 <;> (try dsimp only) <;> (repeat' split) <;> first | (simp; done) | simp [State.held]

@[simp] theorem State.appendIdentity_core (c : IChar) (n : Nat) (s : State) : (s.appendIdentity c n).core = s.core := by
  unfold State.appendIdentity <;> (try dsimp only) <;> (repeat' split) <;> first | (simp; done) | simp [State.core]

@[simp] theorem State.appendIdentity_log (c : IChar) (n : Nat) (s : State) : (s.appendIdentity c n).log = s.log := by
  unfold State.appendIdentity <;> (try dsimp only) <;> (repeat' split) <;> first | (simp; done) | simp [State.log]

@[simp] theorem State.appendIdentity_shelf (c : IChar) (n : Nat) (s : State) : (s.appendIdentity c n).shelf = s.shelf := by
  unfold State.appendIdentity <;> (try dsimp only) <;> (repeat' split) <;> first | (simp; done) | simp [State.shelf]

@[simp] theorem State.appendIdentity_tapeState (c : IChar) (n : Nat) (s : State) : (s.appendIdentity c n).tapeState = s.tapeState := by
  unfold State.appendIdentity <;> (try dsimp only) <;> (repeat' split) <;> first | (simp; done) | simp [State.tapeState]

@[simp] theorem State.appendIdentity_held (c : IChar) (n : Nat) (s : State) : (s.appendIdentity c n).held = s.held := by
  unfold State.appendIdentity <;> (try dsimp only) <;> (repeat' split) <;> first | (simp; done) | simp [State.held]

@[simp] theorem State.captureIdentity_core (good : Bool) (e : TransEntry) (s : State) : (s.captureIdentity good e).core = s.core := by
  unfold State.captureIdentity <;> (try dsimp only) <;> (repeat' split) <;> first | (simp; done) | simp [State.core]

@[simp] theorem State.captureIdentity_log (good : Bool) (e : TransEntry) (s : State) : (s.captureIdentity good e).log = s.log := by
  unfold State.captureIdentity <;> (try dsimp only) <;> (repeat' split) <;> first | (simp; done) | simp [State.log]

@[simp] theorem State.captureIdentity_shelf (good : Bool) (e : TransEntry) (s : State) : (s.captureIdentity good e).shelf = s.shelf := by
  unfold State.captureIdentity <;> (try dsimp only) <;> (repeat' split) <;> first | (simp; done) | simp [State.shelf]

@[simp] theorem State.captureIdentity_tapeState (good : Bool) (e : TransEntry) (s : State) : (s.captureIdentity good e).tapeState = s.tapeState := by
  unfold State.captureIdentity <;> (try dsimp only) <;> (repeat' split) <;> first | (simp; done) | simp [State.tapeState]

@[simp] theorem State.captureIdentity_held (good : Bool) (e : TransEntry) (s : State) : (s.captureIdentity good e).held = s.held := by
  unfold State.captureIdentity <;> (try dsimp only) <;> (repeat' split) <;> first | (simp; done) | simp [State.held]

@[simp] theorem State.receiverHunt_core (s : State) : (s.receiverHunt).core = s.core := by
  unfold State.receiverHunt <;> (try dsimp only) <;> (repeat' split) <;> first | (simp; done) | simp [State.core]

@[simp] theorem State.receiverHunt_log (s : State) : (s.receiverHunt).log = s.log := by
  unfold State.receiverHunt <;> (try dsimp only) <;> (repeat' split) <;> first | (simp; done) | simp [State.log]

@[simp] theorem State.receiverHunt_shelf (s : State) : (s.receiverHunt).shelf = s.shelf := by
  unfold State.receiverHunt <;> (try dsimp only) <;> (repeat' split) <;> first | (simp; done) | simp [State.shelf]

@[simp] theorem State.receiverHunt_tapeState (s : State) : (s.receiverHunt).tapeState = s.tapeState := by
  unfold State.receiverHunt <;> (try dsimp only) <;> (repeat' split) <;> first | (simp; done) | simp [State.tapeState]

@[simp] theorem State.receiverHunt_held (s : State) : (s.receiverHunt).held = s.held := by
  unfold State.receiverHunt <;> (try dsimp only) <;> (repeat' split) <;> first | (simp; done) | simp [State.held]

@[simp] theorem State.matchProgress_core (good : Bool) (e : TransEntry) (s : State) : (s.matchProgress good e).core = s.core := by
  unfold State.matchProgress <;> (try dsimp only) <;> (repeat' split) <;> first | (simp; done) | simp [State.core]

@[simp] theorem State.matchProgress_log (good : Bool) (e : TransEntry) (s : State) : (s.matchProgress good e).log = s.log := by
  unfold State.matchProgress <;> (try dsimp only) <;> (repeat' split) <;> first | (simp; done) | simp [State.log]

@[simp] theorem State.matchProgress_shelf (good : Bool) (e : TransEntry) (s : State) : (s.matchProgress good e).shelf = s.shelf := by
  unfold State.matchProgress <;> (try dsimp only) <;> (repeat' split) <;> first | (simp; done) | simp [State.shelf]

@[simp] theorem State.matchProgress_tapeState (good : Bool) (e : TransEntry) (s : State) : (s.matchProgress good e).tapeState = s.tapeState := by
  unfold State.matchProgress <;> (try dsimp only) <;> (repeat' split) <;> first | (simp; done) | simp [State.tapeState]

@[simp] theorem State.matchProgress_held (good : Bool) (e : TransEntry) (s : State) : (s.matchProgress good e).held = s.held := by
  unfold State.matchProgress <;> (try dsimp only) <;> (repeat' split) <;> first | (simp; done) | simp [State.held]

@[simp] theorem State.deliver_core (code : Code) (good : Bool) (ds : List Int) (s : State) : (s.deliver code good ds).core = s.core := by
  unfold State.deliver; dsimp only
  rw [foldl_keeps State.core _ (fun s x => State.complete1_core x s)]
  (repeat' split) <;> simp

@[simp] theorem State.deliver_log (code : Code) (good : Bool) (ds : List Int) (s : State) : (s.deliver code good ds).log = s.log := by
  unfold State.deliver; dsimp only
  rw [foldl_keeps State.log _ (fun s x => State.complete1_log x s)]
  (repeat' split) <;> simp

@[simp] theorem State.deliver_tapeState (code : Code) (good : Bool) (ds : List Int) (s : State) : (s.deliver code good ds).tapeState = s.tapeState := by
  unfold State.deliver; dsimp only
  rw [foldl_keeps State.tapeState _ (fun s x => State.complete1_tapeState x s)]
  (repeat' split) <;> simp

@[simp] theorem State.deliver_held (code : Code) (good : Bool) (ds : List Int) (s : State) : (s.deliver code good ds).held = s.held := by
  unfold State.deliver; dsimp only
  rw [foldl_keeps State.held _ (fun s x => State.complete1_held x s)]
  (repeat' split) <;> simp

@[simp] theorem State.characterDelivered_core (line : List Level) (s : State) : (s.characterDelivered line).core = s.core := by
  unfold State.characterDelivered <;> (try dsimp only) <;> (repeat' split) <;> first | (simp; done) | simp [State.core]

@[simp] theorem State.characterDelivered_log (line : List Level) (s : State) : (s.characterDelivered line).log = s.log := by
  unfold State.characterDelivered <;> (try dsimp only) <;> (repeat' split) <;> first | (simp; done) | simp [State.log]

@[simp] theorem State.characterDelivered_tapeState (line : List Level) (s : State) : (s.characterDelivered line).tapeState = s.tapeState := by
  unfold State.characterDelivered <;> (try dsimp only) <;> (repeat' split) <;> first | (simp; done) | simp [State.tapeState]

@[simp] theorem State.characterDelivered_held (line : List Level) (s : State) : (s.characterDelivered line).held = s.held := by
  unfold State.characterDelivered <;> (try dsimp only) <;> (repeat' split) <;> first | (simp; done) | simp [State.held]

@[simp] theorem State.receiveBreak_core (s : State) : (s.receiveBreak).core = s.core := by
  unfold State.receiveBreak <;> (try dsimp only) <;> (repeat' split) <;> first | (simp; done) | simp [State.core]

@[simp] theorem State.receiveBreak_log (s : State) : (s.receiveBreak).log = s.log := by
  unfold State.receiveBreak <;> (try dsimp only) <;> (repeat' split) <;> first | (simp; done) | simp [State.log]

@[simp] theorem State.receiveBreak_tapeState (s : State) : (s.receiveBreak).tapeState = s.tapeState := by
  unfold State.receiveBreak <;> (try dsimp only) <;> (repeat' split) <;> first | (simp; done) | simp [State.tapeState]

@[simp] theorem State.receiveBreak_held (s : State) : (s.receiveBreak).held = s.held := by
  unfold State.receiveBreak <;> (try dsimp only) <;> (repeat' split) <;> first | (simp; done) | simp [State.held]

@[simp] theorem State.startEdge_core (s : State) : (s.startEdge).core = s.core := by
  unfold State.startEdge <;> (try dsimp only) <;> (repeat' split) <;> first | (simp; done) | simp [State.core]

@[simp] theorem State.startEdge_log (s : State) : (s.startEdge).log = s.log := by
  unfold State.startEdge <;> (try dsimp only) <;> (repeat' split) <;> first | (simp; done) | simp [State.log]

@[simp] theorem State.startEdge_shelf (s : State) : (s.startEdge).shelf = s.shelf := by
  unfold State.startEdge <;> (try dsimp only) <;> (repeat' split) <;> first | (simp; done) | simp [State.shelf]

@[simp] theorem State.startEdge_tapeState (s : State) : (s.startEdge).tapeState = s.tapeState := by
  unfold State.startEdge <;> (try dsimp only) <;> (repeat' split) <;> first | (simp; done) | simp [State.tapeState]

@[simp] theorem State.startEdge_held (s : State) : (s.startEdge).held = s.held := by
  unfold State.startEdge <;> (try dsimp only) <;> (repeat' split) <;> first | (simp; done) | simp [State.held]

@[simp] theorem State.stopSampleAtSpace_core (line : List Level) (s : State) : (s.stopSampleAtSpace line).core = s.core := by
  unfold State.stopSampleAtSpace <;> (try dsimp only) <;> (repeat' split) <;> first | (simp; done) | simp [State.core]

@[simp] theorem State.stopSampleAtSpace_log (line : List Level) (s : State) : (s.stopSampleAtSpace line).log = s.log := by
  unfold State.stopSampleAtSpace <;> (try dsimp only) <;> (repeat' split) <;> first | (simp; done) | simp [State.log]

@[simp] theorem State.stopSampleAtSpace_tapeState (line : List Level) (s : State) : (s.stopSampleAtSpace line).tapeState = s.tapeState := by
  unfold State.stopSampleAtSpace <;> (try dsimp only) <;> (repeat' split) <;> first | (simp; done) | simp [State.tapeState]

@[simp] theorem State.stopSampleAtSpace_held (line : List Level) (s : State) : (s.stopSampleAtSpace line).held = s.held := by
  unfold State.stopSampleAtSpace <;> (try dsimp only) <;> (repeat' split) <;> first | (simp; done) | simp [State.held]

@[simp] theorem State.holdoffExpiry_core (s : State) : (s.holdoffExpiry).core = s.core := by
  unfold State.holdoffExpiry <;> (try dsimp only) <;> (repeat' split) <;> first | (simp; done) | simp [State.core]

@[simp] theorem State.holdoffExpiry_log (s : State) : (s.holdoffExpiry).log = s.log := by
  unfold State.holdoffExpiry <;> (try dsimp only) <;> (repeat' split) <;> first | (simp; done) | simp [State.log]

@[simp] theorem State.holdoffExpiry_shelf (s : State) : (s.holdoffExpiry).shelf = s.shelf := by
  unfold State.holdoffExpiry <;> (try dsimp only) <;> (repeat' split) <;> first | (simp; done) | simp [State.shelf]

@[simp] theorem State.holdoffExpiry_tapeState (s : State) : (s.holdoffExpiry).tapeState = s.tapeState := by
  unfold State.holdoffExpiry <;> (try dsimp only) <;> (repeat' split) <;> first | (simp; done) | simp [State.tapeState]

@[simp] theorem State.holdoffExpiry_held (s : State) : (s.holdoffExpiry).held = s.held := by
  unfold State.holdoffExpiry <;> (try dsimp only) <;> (repeat' split) <;> first | (simp; done) | simp [State.held]

theorem State.reserve_core (u : TxUnit) (s t : State) (h : s.reserve u = some t) : t.core = s.core := by
  revert h; unfold State.reserve; (repeat' split) <;> intro h <;> cases h <;> simp [State.core]

theorem State.reserve_log (u : TxUnit) (s t : State) (h : s.reserve u = some t) : t.log = s.log := by
  revert h; unfold State.reserve; (repeat' split) <;> intro h <;> cases h <;> simp [State.log]

theorem State.reserve_tapeState (u : TxUnit) (s t : State) (h : s.reserve u = some t) : t.tapeState = s.tapeState := by
  revert h; unfold State.reserve; (repeat' split) <;> intro h <;> cases h <;> simp [State.tapeState]

theorem State.reserve_held (u : TxUnit) (s t : State) (h : s.reserve u = some t) : t.held = s.held := by
  revert h; unfold State.reserve; (repeat' split) <;> intro h <;> cases h <;> simp [State.held]

@[simp] theorem State.beginCode_core (code : Code) (u : TxUnit) (f : Follow) (s : State) : (s.beginCode code u f).core = s.core := by
  unfold State.beginCode <;> (try dsimp only) <;> (repeat' split) <;> first | (simp; done) | simp [State.core]

@[simp] theorem State.beginCode_log (code : Code) (u : TxUnit) (f : Follow) (s : State) : (s.beginCode code u f).log = s.log := by
  unfold State.beginCode <;> (try dsimp only) <;> (repeat' split) <;> first | (simp; done) | simp [State.log]

@[simp] theorem State.beginCode_shelf (code : Code) (u : TxUnit) (f : Follow) (s : State) : (s.beginCode code u f).shelf = s.shelf := by
  unfold State.beginCode <;> (try dsimp only) <;> (repeat' split) <;> first | (simp; done) | simp [State.shelf]

@[simp] theorem State.beginCode_tapeState (code : Code) (u : TxUnit) (f : Follow) (s : State) : (s.beginCode code u f).tapeState = s.tapeState := by
  unfold State.beginCode <;> (try dsimp only) <;> (repeat' split) <;> first | (simp; done) | simp [State.tapeState]

@[simp] theorem State.beginCode_held (code : Code) (u : TxUnit) (f : Follow) (s : State) : (s.beginCode code u f).held = s.held := by
  unfold State.beginCode <;> (try dsimp only) <;> (repeat' split) <;> first | (simp; done) | simp [State.held]

theorem State.takeUnit_core (codes : List Code) (u : TxUnit) (s t : State) (h : s.takeUnit codes u = some t) : t.core = s.core := by
  unfold State.takeUnit at h
  split at h
  · cases h
  · obtain ⟨a, ha, rfl⟩ := Option.map_eq_some_iff.mp h
    simp [State.reserve_core _ _ _ ha]

theorem State.takeUnit_log (codes : List Code) (u : TxUnit) (s t : State) (h : s.takeUnit codes u = some t) : t.log = s.log := by
  unfold State.takeUnit at h
  split at h
  · cases h
  · obtain ⟨a, ha, rfl⟩ := Option.map_eq_some_iff.mp h
    simp [State.reserve_log _ _ _ ha]

theorem State.takeUnit_tapeState (codes : List Code) (u : TxUnit) (s t : State) (h : s.takeUnit codes u = some t) : t.tapeState = s.tapeState := by
  unfold State.takeUnit at h
  split at h
  · cases h
  · obtain ⟨a, ha, rfl⟩ := Option.map_eq_some_iff.mp h
    simp [State.reserve_tapeState _ _ _ ha]

theorem State.takeUnit_held (codes : List Code) (u : TxUnit) (s t : State) (h : s.takeUnit codes u = some t) : t.held = s.held := by
  unfold State.takeUnit at h
  split at h
  · cases h
  · obtain ⟨a, ha, rfl⟩ := Option.map_eq_some_iff.mp h
    simp [State.reserve_held _ _ _ ha]

@[simp] theorem State.beginBreak_core (s : State) : (s.beginBreak).core = s.core := by
  unfold State.beginBreak <;> (try dsimp only) <;> (repeat' split) <;> first | (simp; done) | simp [State.core]

@[simp] theorem State.beginBreak_log (s : State) : (s.beginBreak).log = s.log := by
  unfold State.beginBreak <;> (try dsimp only) <;> (repeat' split) <;> first | (simp; done) | simp [State.log]

@[simp] theorem State.beginBreak_shelf (s : State) : (s.beginBreak).shelf = s.shelf := by
  unfold State.beginBreak <;> (try dsimp only) <;> (repeat' split) <;> first | (simp; done) | simp [State.shelf]

@[simp] theorem State.beginBreak_tapeState (s : State) : (s.beginBreak).tapeState = s.tapeState := by
  unfold State.beginBreak <;> (try dsimp only) <;> (repeat' split) <;> first | (simp; done) | simp [State.tapeState]

@[simp] theorem State.beginBreak_held (s : State) : (s.beginBreak).held = s.held := by
  unfold State.beginBreak <;> (try dsimp only) <;> (repeat' split) <;> first | (simp; done) | simp [State.held]

theorem State.takeIdent_core (r : IdentRequest) (s t : State) (h : s.takeIdent r = some t) : t.core = s.core := by
  unfold State.takeIdent at h; dsimp only at h
  split at h
  · cases h; simp [State.core]
  · obtain ⟨a, ha, rfl⟩ := Option.map_eq_some_iff.mp h
    simp [State.takeUnit_core _ _ _ _ ha]

theorem State.takeIdent_log (r : IdentRequest) (s t : State) (h : s.takeIdent r = some t) : t.log = s.log := by
  unfold State.takeIdent at h; dsimp only at h
  split at h
  · cases h; simp [State.log]
  · obtain ⟨a, ha, rfl⟩ := Option.map_eq_some_iff.mp h
    simp [State.takeUnit_log _ _ _ _ ha]

theorem State.takeIdent_tapeState (r : IdentRequest) (s t : State) (h : s.takeIdent r = some t) : t.tapeState = s.tapeState := by
  unfold State.takeIdent at h; dsimp only at h
  split at h
  · cases h; simp [State.tapeState]
  · obtain ⟨a, ha, rfl⟩ := Option.map_eq_some_iff.mp h
    simp [State.takeUnit_tapeState _ _ _ _ ha]

theorem State.takeIdent_held (r : IdentRequest) (s t : State) (h : s.takeIdent r = some t) : t.held = s.held := by
  unfold State.takeIdent at h; dsimp only at h
  split at h
  · cases h; simp [State.held]
  · obtain ⟨a, ha, rfl⟩ := Option.map_eq_some_iff.mp h
    simp [State.takeUnit_held _ _ _ _ ha]

theorem State.arbiter_core (s t : State) (h : s.arbiter = some t) : t.core = s.core := by
  unfold State.arbiter at h; dsimp only at h
  (repeat' split at h) <;> first
    | (cases h; done)
    | (cases h; simp; done)
    | exact State.takeIdent_core _ _ _ h
    | (obtain ⟨a, ha, rfl⟩ := Option.map_eq_some_iff.mp h; simp [State.takeUnit_core _ _ _ _ ha])

theorem State.arbiter_log (s t : State) (h : s.arbiter = some t) : t.log = s.log := by
  unfold State.arbiter at h; dsimp only at h
  (repeat' split at h) <;> first
    | (cases h; done)
    | (cases h; simp; done)
    | exact State.takeIdent_log _ _ _ h
    | (obtain ⟨a, ha, rfl⟩ := Option.map_eq_some_iff.mp h; simp [State.takeUnit_log _ _ _ _ ha])

theorem State.arbiter_tapeState (s t : State) (h : s.arbiter = some t) : t.tapeState = s.tapeState := by
  unfold State.arbiter at h; dsimp only at h
  (repeat' split at h) <;> first
    | (cases h; done)
    | (cases h; simp; done)
    | exact State.takeIdent_tapeState _ _ _ h
    | (obtain ⟨a, ha, rfl⟩ := Option.map_eq_some_iff.mp h; simp [State.takeUnit_tapeState _ _ _ _ ha])

theorem State.arbiter_held (s t : State) (h : s.arbiter = some t) : t.held = s.held := by
  unfold State.arbiter at h; dsimp only at h
  (repeat' split at h) <;> first
    | (cases h; done)
    | (cases h; simp; done)
    | exact State.takeIdent_held _ _ _ h
    | (obtain ⟨a, ha, rfl⟩ := Option.map_eq_some_iff.mp h; simp [State.takeUnit_held _ _ _ _ ha])

@[simp] theorem State.goOn_core (may : Bool) (code : Code) (u : TxUnit) (s : State) : (s.goOn may code u).core = s.core := by
  unfold State.goOn <;> (try dsimp only) <;> (repeat' split) <;> first | (simp; done) | simp [State.core]

@[simp] theorem State.goOn_log (may : Bool) (code : Code) (u : TxUnit) (s : State) : (s.goOn may code u).log = s.log := by
  unfold State.goOn <;> (try dsimp only) <;> (repeat' split) <;> first | (simp; done) | simp [State.log]

@[simp] theorem State.goOn_tapeState (may : Bool) (code : Code) (u : TxUnit) (s : State) : (s.goOn may code u).tapeState = s.tapeState := by
  unfold State.goOn <;> (try dsimp only) <;> (repeat' split) <;> first | (simp; done) | simp [State.tapeState]

@[simp] theorem State.goOn_held (may : Bool) (code : Code) (u : TxUnit) (s : State) : (s.goOn may code u).held = s.held := by
  unfold State.goOn <;> (try dsimp only) <;> (repeat' split) <;> first | (simp; done) | simp [State.held]

@[simp] theorem State.goOn_shelf (may : Bool) (code : Code) (u : TxUnit) (s : State) : (s.goOn may code u).shelf = s.shelf := by
  unfold State.goOn <;> (try dsimp only) <;> (repeat' split) <;> first | (simp; done) | simp [State.shelf]

theorem State.txTake_core (s t : State) (h : s.txTake = some t) : t.core = s.core := by
  unfold State.txTake at h
  (repeat' split at h) <;> first
    | (cases h; done)
    | exact State.arbiter_core _ _ h
    | (cases h; simp; done)
    | (obtain ⟨a, ha, rfl⟩ := Option.map_eq_some_iff.mp h; simp [State.reserve_core _ _ _ ha])

@[simp] theorem State.txTake_getD_core (s : State) : ((s.txTake).getD s).core = s.core := by
  cases h : s.txTake with
  | none => rfl
  | some t => exact State.txTake_core _ _ h

theorem State.txTake_log (s t : State) (h : s.txTake = some t) : t.log = s.log := by
  unfold State.txTake at h
  (repeat' split at h) <;> first
    | (cases h; done)
    | exact State.arbiter_log _ _ h
    | (cases h; simp; done)
    | (obtain ⟨a, ha, rfl⟩ := Option.map_eq_some_iff.mp h; simp [State.reserve_log _ _ _ ha])

@[simp] theorem State.txTake_getD_log (s : State) : ((s.txTake).getD s).log = s.log := by
  cases h : s.txTake with
  | none => rfl
  | some t => exact State.txTake_log _ _ h

theorem State.txTake_tapeState (s t : State) (h : s.txTake = some t) : t.tapeState = s.tapeState := by
  unfold State.txTake at h
  (repeat' split at h) <;> first
    | (cases h; done)
    | exact State.arbiter_tapeState _ _ h
    | (cases h; simp; done)
    | (obtain ⟨a, ha, rfl⟩ := Option.map_eq_some_iff.mp h; simp [State.reserve_tapeState _ _ _ ha])

@[simp] theorem State.txTake_getD_tapeState (s : State) : ((s.txTake).getD s).tapeState = s.tapeState := by
  cases h : s.txTake with
  | none => rfl
  | some t => exact State.txTake_tapeState _ _ h

theorem State.txTake_held (s t : State) (h : s.txTake = some t) : t.held = s.held := by
  unfold State.txTake at h
  (repeat' split at h) <;> first
    | (cases h; done)
    | exact State.arbiter_held _ _ h
    | (cases h; simp; done)
    | (obtain ⟨a, ha, rfl⟩ := Option.map_eq_some_iff.mp h; simp [State.reserve_held _ _ _ ha])

@[simp] theorem State.txTake_getD_held (s : State) : ((s.txTake).getD s).held = s.held := by
  cases h : s.txTake with
  | none => rfl
  | some t => exact State.txTake_held _ _ h

@[simp] theorem State.makeCopy_core (code : Code) (sh : Shift) (u : TxUnit) (s : State) : (s.makeCopy code sh u).core = s.core := by
  unfold State.makeCopy <;> (try dsimp only) <;> (repeat' split) <;> first | (simp; done) | simp [State.core]

@[simp] theorem State.makeCopy_log (code : Code) (sh : Shift) (u : TxUnit) (s : State) : (s.makeCopy code sh u).log = s.log := by
  unfold State.makeCopy <;> (try dsimp only) <;> (repeat' split) <;> first | (simp; done) | simp [State.log]

@[simp] theorem State.makeCopy_tapeState (code : Code) (sh : Shift) (u : TxUnit) (s : State) : (s.makeCopy code sh u).tapeState = s.tapeState := by
  unfold State.makeCopy <;> (try dsimp only) <;> (repeat' split) <;> first | (simp; done) | simp [State.tapeState]

@[simp] theorem State.makeCopy_held (code : Code) (sh : Shift) (u : TxUnit) (s : State) : (s.makeCopy code sh u).held = s.held := by
  unfold State.makeCopy <;> (try dsimp only) <;> (repeat' split) <;> first | (simp; done) | simp [State.held]

@[simp] theorem State.openWindow_core (s : State) : (s.openWindow).core = s.core := by
  unfold State.openWindow <;> (try dsimp only) <;> (repeat' split) <;> first | (simp; done) | simp [State.core]

@[simp] theorem State.openWindow_log (s : State) : (s.openWindow).log = s.log := by
  unfold State.openWindow <;> (try dsimp only) <;> (repeat' split) <;> first | (simp; done) | simp [State.log]

@[simp] theorem State.openWindow_shelf (s : State) : (s.openWindow).shelf = s.shelf := by
  unfold State.openWindow <;> (try dsimp only) <;> (repeat' split) <;> first | (simp; done) | simp [State.shelf]

@[simp] theorem State.openWindow_tapeState (s : State) : (s.openWindow).tapeState = s.tapeState := by
  unfold State.openWindow <;> (try dsimp only) <;> (repeat' split) <;> first | (simp; done) | simp [State.tapeState]

@[simp] theorem State.openWindow_held (s : State) : (s.openWindow).held = s.held := by
  unfold State.openWindow <;> (try dsimp only) <;> (repeat' split) <;> first | (simp; done) | simp [State.held]

@[simp] theorem State.endRun_core (s : State) : (s.endRun).core = s.core := by
  unfold State.endRun <;> (try dsimp only) <;> (repeat' split) <;> first | (simp; done) | simp [State.core]

@[simp] theorem State.endRun_log (s : State) : (s.endRun).log = s.log := by
  unfold State.endRun <;> (try dsimp only) <;> (repeat' split) <;> first | (simp; done) | simp [State.log]

@[simp] theorem State.endRun_shelf (s : State) : (s.endRun).shelf = s.shelf := by
  unfold State.endRun <;> (try dsimp only) <;> (repeat' split) <;> first | (simp; done) | simp [State.shelf]

@[simp] theorem State.endRun_tapeState (s : State) : (s.endRun).tapeState = s.tapeState := by
  unfold State.endRun <;> (try dsimp only) <;> (repeat' split) <;> first | (simp; done) | simp [State.tapeState]

@[simp] theorem State.endRun_held (s : State) : (s.endRun).held = s.held := by
  unfold State.endRun <;> (try dsimp only) <;> (repeat' split) <;> first | (simp; done) | simp [State.held]

@[simp] theorem State.unitDone_core (u : TxUnit) (s : State) : (s.unitDone u).core = s.core := by
  unfold State.unitDone <;> (try dsimp only) <;> (repeat' split) <;> first | (simp; done) | simp [State.core]

@[simp] theorem State.unitDone_log (u : TxUnit) (s : State) : (s.unitDone u).log = s.log := by
  unfold State.unitDone <;> (try dsimp only) <;> (repeat' split) <;> first | (simp; done) | simp [State.log]

@[simp] theorem State.unitDone_tapeState (u : TxUnit) (s : State) : (s.unitDone u).tapeState = s.tapeState := by
  unfold State.unitDone <;> (try dsimp only) <;> (repeat' split) <;> first | (simp; done) | simp [State.tapeState]

@[simp] theorem State.unitDone_held (u : TxUnit) (s : State) : (s.unitDone u).held = s.held := by
  unfold State.unitDone <;> (try dsimp only) <;> (repeat' split) <;> first | (simp; done) | simp [State.held]

@[simp] theorem State.beginSecond_core (code : Code) (u : TxUnit) (s : State) : (s.beginSecond code u).core = s.core := by
  unfold State.beginSecond
  split
  · rfl
  · split
    · rename_i t ht
      simp [State.reserve_core _ _ _ ht]
    · simp

@[simp] theorem State.beginSecond_log (code : Code) (u : TxUnit) (s : State) : (s.beginSecond code u).log = s.log := by
  unfold State.beginSecond
  split
  · rfl
  · split
    · rename_i t ht
      simp [State.reserve_log _ _ _ ht]
    · simp

@[simp] theorem State.beginSecond_tapeState (code : Code) (u : TxUnit) (s : State) : (s.beginSecond code u).tapeState = s.tapeState := by
  unfold State.beginSecond
  split
  · rfl
  · split
    · rename_i t ht
      simp [State.reserve_tapeState _ _ _ ht]
    · simp

@[simp] theorem State.beginSecond_held (code : Code) (u : TxUnit) (s : State) : (s.beginSecond code u).held = s.held := by
  unfold State.beginSecond
  split
  · rfl
  · split
    · rename_i t ht
      simp [State.reserve_held _ _ _ ht]
    · simp

@[simp] theorem State.settleClear_core (s : State) : (s.settleClear).core = s.core := by
  unfold State.settleClear <;> (try dsimp only) <;> (repeat' split) <;> first | (simp; done) | simp [State.core]

@[simp] theorem State.settleClear_log (s : State) : (s.settleClear).log = s.log := by
  unfold State.settleClear <;> (try dsimp only) <;> (repeat' split) <;> first | (simp; done) | simp [State.log]

@[simp] theorem State.settleClear_tapeState (s : State) : (s.settleClear).tapeState = s.tapeState := by
  unfold State.settleClear <;> (try dsimp only) <;> (repeat' split) <;> first | (simp; done) | simp [State.tapeState]

@[simp] theorem State.settleClear_held (s : State) : (s.settleClear).held = s.held := by
  unfold State.settleClear <;> (try dsimp only) <;> (repeat' split) <;> first | (simp; done) | simp [State.held]

@[simp] theorem State.codeCompletion_core (s : State) : (s.codeCompletion).core = s.core := by
  unfold State.codeCompletion <;> (try dsimp only) <;> (repeat' split) <;> first | (simp; done) | simp [State.core]

@[simp] theorem State.codeCompletion_log (s : State) : (s.codeCompletion).log = s.log := by
  unfold State.codeCompletion <;> (try dsimp only) <;> (repeat' split) <;> first | (simp; done) | simp [State.log]

@[simp] theorem State.codeCompletion_tapeState (s : State) : (s.codeCompletion).tapeState = s.tapeState := by
  unfold State.codeCompletion <;> (try dsimp only) <;> (repeat' split) <;> first | (simp; done) | simp [State.tapeState]

@[simp] theorem State.codeCompletion_held (s : State) : (s.codeCompletion).held = s.held := by
  unfold State.codeCompletion <;> (try dsimp only) <;> (repeat' split) <;> first | (simp; done) | simp [State.held]

@[simp] theorem State.placeLocal_core (src : Source) (x : Code × TransEntry) (s : State) : (s.placeLocal src x).core = s.core := by
  unfold State.placeLocal <;> (try dsimp only) <;> (repeat' split) <;> first | (simp; done) | simp [State.core]

@[simp] theorem State.placeLocal_log (src : Source) (x : Code × TransEntry) (s : State) : (s.placeLocal src x).log = s.log := by
  unfold State.placeLocal <;> (try dsimp only) <;> (repeat' split) <;> first | (simp; done) | simp [State.log]

@[simp] theorem State.placeLocal_tapeState (src : Source) (x : Code × TransEntry) (s : State) : (s.placeLocal src x).tapeState = s.tapeState := by
  unfold State.placeLocal <;> (try dsimp only) <;> (repeat' split) <;> first | (simp; done) | simp [State.tapeState]

@[simp] theorem State.placeLocal_held (src : Source) (x : Code × TransEntry) (s : State) : (s.placeLocal src x).held = s.held := by
  unfold State.placeLocal <;> (try dsimp only) <;> (repeat' split) <;> first | (simp; done) | simp [State.held]

theorem State.placeAll_core (src : Source) (xs : List (Code × TransEntry)) (s t : State) (h : s.placeAll src xs = some t) : t.core = s.core := by
  unfold State.placeAll at h
  split at h
  · cases h; exact foldl_keeps State.core _ (fun s x => State.placeLocal_core src x s) _ _
  · cases h

theorem State.placeAll_log (src : Source) (xs : List (Code × TransEntry)) (s t : State) (h : s.placeAll src xs = some t) : t.log = s.log := by
  unfold State.placeAll at h
  split at h
  · cases h; exact foldl_keeps State.log _ (fun s x => State.placeLocal_log src x s) _ _
  · cases h

theorem State.placeAll_tapeState (src : Source) (xs : List (Code × TransEntry)) (s t : State) (h : s.placeAll src xs = some t) : t.tapeState = s.tapeState := by
  unfold State.placeAll at h
  split at h
  · cases h; exact foldl_keeps State.tapeState _ (fun s x => State.placeLocal_tapeState src x s) _ _
  · cases h

theorem State.placeAll_held (src : Source) (xs : List (Code × TransEntry)) (s t : State) (h : s.placeAll src xs = some t) : t.held = s.held := by
  unfold State.placeAll at h
  split at h
  · cases h; exact foldl_keeps State.held _ (fun s x => State.placeLocal_held src x s) _ _
  · cases h

theorem State.localTake_core (q : TextQueue) (s t : State) (h : s.localTake q = some t) : t.core = s.core := by
  unfold State.localTake at h
  (repeat' split at h) <;> first
    | (cases h; done)
    | (obtain ⟨a, ha, rfl⟩ := Option.map_eq_some_iff.mp h; simp [State.placeAll_core _ _ _ _ ha])

@[simp] theorem State.localTake_getD_core (q) (s : State) : ((s.localTake q).getD s).core = s.core := by
  cases h : s.localTake q with
  | none => rfl
  | some t => exact State.localTake_core _ _ _ h

theorem State.localTake_log (q : TextQueue) (s t : State) (h : s.localTake q = some t) : t.log = s.log := by
  unfold State.localTake at h
  (repeat' split at h) <;> first
    | (cases h; done)
    | (obtain ⟨a, ha, rfl⟩ := Option.map_eq_some_iff.mp h; simp [State.placeAll_log _ _ _ _ ha])

@[simp] theorem State.localTake_getD_log (q) (s : State) : ((s.localTake q).getD s).log = s.log := by
  cases h : s.localTake q with
  | none => rfl
  | some t => exact State.localTake_log _ _ _ h

theorem State.localTake_tapeState (q : TextQueue) (s t : State) (h : s.localTake q = some t) : t.tapeState = s.tapeState := by
  unfold State.localTake at h
  (repeat' split at h) <;> first
    | (cases h; done)
    | (obtain ⟨a, ha, rfl⟩ := Option.map_eq_some_iff.mp h; simp [State.placeAll_tapeState _ _ _ _ ha])

@[simp] theorem State.localTake_getD_tapeState (q) (s : State) : ((s.localTake q).getD s).tapeState = s.tapeState := by
  cases h : s.localTake q with
  | none => rfl
  | some t => exact State.localTake_tapeState _ _ _ h

theorem State.localTake_held (q : TextQueue) (s t : State) (h : s.localTake q = some t) : t.held = s.held := by
  unfold State.localTake at h
  (repeat' split at h) <;> first
    | (cases h; done)
    | (obtain ⟨a, ha, rfl⟩ := Option.map_eq_some_iff.mp h; simp [State.placeAll_held _ _ _ _ ha])

@[simp] theorem State.localTake_getD_held (q) (s : State) : ((s.localTake q).getD s).held = s.held := by
  cases h : s.localTake q with
  | none => rfl
  | some t => exact State.localTake_held _ _ _ h

@[simp] theorem State.callInAsserted_core (s : State) : (s.callInAsserted).core = s.core := by
  unfold State.callInAsserted <;> (try dsimp only) <;> (repeat' split) <;> first | (simp; done) | simp [State.core]

@[simp] theorem State.callInAsserted_tapeState (s : State) : (s.callInAsserted).tapeState = s.tapeState := by
  unfold State.callInAsserted <;> (try dsimp only) <;> (repeat' split) <;> first | (simp; done) | simp [State.tapeState]

@[simp] theorem State.callInAsserted_held (s : State) : (s.callInAsserted).held = s.held := by
  unfold State.callInAsserted <;> (try dsimp only) <;> (repeat' split) <;> first | (simp; done) | simp [State.held]

@[simp] theorem State.callInDeasserted_core (s : State) : (s.callInDeasserted).core = s.core := by
  unfold State.callInDeasserted <;> (try dsimp only) <;> (repeat' split) <;> first | (simp; done) | simp [State.core]

@[simp] theorem State.callInDeasserted_tapeState (s : State) : (s.callInDeasserted).tapeState = s.tapeState := by
  unfold State.callInDeasserted <;> (try dsimp only) <;> (repeat' split) <;> first | (simp; done) | simp [State.tapeState]

@[simp] theorem State.callInDeasserted_held (s : State) : (s.callInDeasserted).held = s.held := by
  unfold State.callInDeasserted <;> (try dsimp only) <;> (repeat' split) <;> first | (simp; done) | simp [State.held]

@[simp] theorem State.loopOkAsserted_core (s : State) : (s.loopOkAsserted).core = s.core := by
  unfold State.loopOkAsserted <;> (try dsimp only) <;> (repeat' split) <;> first | (simp; done) | simp [State.core]

@[simp] theorem State.loopOkAsserted_log (s : State) : (s.loopOkAsserted).log = s.log := by
  unfold State.loopOkAsserted <;> (try dsimp only) <;> (repeat' split) <;> first | (simp; done) | simp [State.log]

@[simp] theorem State.loopOkAsserted_tapeState (s : State) : (s.loopOkAsserted).tapeState = s.tapeState := by
  unfold State.loopOkAsserted <;> (try dsimp only) <;> (repeat' split) <;> first | (simp; done) | simp [State.tapeState]

@[simp] theorem State.loopOkAsserted_held (s : State) : (s.loopOkAsserted).held = s.held := by
  unfold State.loopOkAsserted <;> (try dsimp only) <;> (repeat' split) <;> first | (simp; done) | simp [State.held]

@[simp] theorem State.loopOkDeasserted_core (s : State) : (s.loopOkDeasserted).core = s.core := by
  unfold State.loopOkDeasserted <;> (try dsimp only) <;> (repeat' split) <;> first | (simp; done) | simp [State.core]

@[simp] theorem State.loopOkDeasserted_log (s : State) : (s.loopOkDeasserted).log = s.log := by
  unfold State.loopOkDeasserted <;> (try dsimp only) <;> (repeat' split) <;> first | (simp; done) | simp [State.log]

@[simp] theorem State.loopOkDeasserted_shelf (s : State) : (s.loopOkDeasserted).shelf = s.shelf := by
  unfold State.loopOkDeasserted <;> (try dsimp only) <;> (repeat' split) <;> first | (simp; done) | simp [State.shelf]

@[simp] theorem State.loopOkDeasserted_tapeState (s : State) : (s.loopOkDeasserted).tapeState = s.tapeState := by
  unfold State.loopOkDeasserted <;> (try dsimp only) <;> (repeat' split) <;> first | (simp; done) | simp [State.tapeState]

@[simp] theorem State.loopOkDeasserted_held (s : State) : (s.loopOkDeasserted).held = s.held := by
  unfold State.loopOkDeasserted <;> (try dsimp only) <;> (repeat' split) <;> first | (simp; done) | simp [State.held]

@[simp] theorem State.lossExpiry_core (s : State) : (s.lossExpiry).core = s.core := by
  unfold State.lossExpiry <;> (try dsimp only) <;> (repeat' split) <;> first | (simp; done) | simp [State.core]

@[simp] theorem State.lossExpiry_log (s : State) : (s.lossExpiry).log = s.log := by
  unfold State.lossExpiry <;> (try dsimp only) <;> (repeat' split) <;> first | (simp; done) | simp [State.log]

@[simp] theorem State.lossExpiry_tapeState (s : State) : (s.lossExpiry).tapeState = s.tapeState := by
  unfold State.lossExpiry <;> (try dsimp only) <;> (repeat' split) <;> first | (simp; done) | simp [State.tapeState]

@[simp] theorem State.lossExpiry_held (s : State) : (s.lossExpiry).held = s.held := by
  unfold State.lossExpiry <;> (try dsimp only) <;> (repeat' split) <;> first | (simp; done) | simp [State.held]

@[simp] theorem State.answerDelayExpiry_core (s : State) : (s.answerDelayExpiry).core = s.core := by
  unfold State.answerDelayExpiry; dsimp only
  split <;> simp

@[simp] theorem State.answerDelayExpiry_log (s : State) : (s.answerDelayExpiry).log = s.log := by
  unfold State.answerDelayExpiry; dsimp only
  split <;> simp

@[simp] theorem State.answerDelayExpiry_tapeState (s : State) : (s.answerDelayExpiry).tapeState = s.tapeState := by
  unfold State.answerDelayExpiry; dsimp only
  split <;> simp

@[simp] theorem State.answerDelayExpiry_held (s : State) : (s.answerDelayExpiry).held = s.held := by
  unfold State.answerDelayExpiry; dsimp only
  split <;> simp

@[simp] theorem State.connectExpiry_core (s : State) : (s.connectExpiry).core = s.core := by
  unfold State.connectExpiry <;> (try dsimp only) <;> (repeat' split) <;> first | (simp; done) | simp [State.core]

@[simp] theorem State.connectExpiry_log (s : State) : (s.connectExpiry).log = s.log := by
  unfold State.connectExpiry <;> (try dsimp only) <;> (repeat' split) <;> first | (simp; done) | simp [State.log]

@[simp] theorem State.connectExpiry_tapeState (s : State) : (s.connectExpiry).tapeState = s.tapeState := by
  unfold State.connectExpiry <;> (try dsimp only) <;> (repeat' split) <;> first | (simp; done) | simp [State.tapeState]

@[simp] theorem State.connectExpiry_held (s : State) : (s.connectExpiry).held = s.held := by
  unfold State.connectExpiry <;> (try dsimp only) <;> (repeat' split) <;> first | (simp; done) | simp [State.held]

@[simp] theorem State.proceedExpiry_core (s : State) : (s.proceedExpiry).core = s.core := by
  unfold State.proceedExpiry <;> (try dsimp only) <;> (repeat' split) <;> first | (simp; done) | simp [State.core]

@[simp] theorem State.proceedExpiry_log (s : State) : (s.proceedExpiry).log = s.log := by
  unfold State.proceedExpiry <;> (try dsimp only) <;> (repeat' split) <;> first | (simp; done) | simp [State.log]

@[simp] theorem State.proceedExpiry_tapeState (s : State) : (s.proceedExpiry).tapeState = s.tapeState := by
  unfold State.proceedExpiry <;> (try dsimp only) <;> (repeat' split) <;> first | (simp; done) | simp [State.tapeState]

@[simp] theorem State.proceedExpiry_held (s : State) : (s.proceedExpiry).held = s.held := by
  unfold State.proceedExpiry <;> (try dsimp only) <;> (repeat' split) <;> first | (simp; done) | simp [State.held]

@[simp] theorem State.identityExpiry_core (s : State) : (s.identityExpiry).core = s.core := by
  unfold State.identityExpiry <;> (try dsimp only) <;> (repeat' split) <;> first | (simp; done) | simp [State.core]

@[simp] theorem State.identityExpiry_log (s : State) : (s.identityExpiry).log = s.log := by
  unfold State.identityExpiry <;> (try dsimp only) <;> (repeat' split) <;> first | (simp; done) | simp [State.log]

@[simp] theorem State.identityExpiry_shelf (s : State) : (s.identityExpiry).shelf = s.shelf := by
  unfold State.identityExpiry <;> (try dsimp only) <;> (repeat' split) <;> first | (simp; done) | simp [State.shelf]

@[simp] theorem State.identityExpiry_tapeState (s : State) : (s.identityExpiry).tapeState = s.tapeState := by
  unfold State.identityExpiry <;> (try dsimp only) <;> (repeat' split) <;> first | (simp; done) | simp [State.tapeState]

@[simp] theorem State.identityExpiry_held (s : State) : (s.identityExpiry).held = s.held := by
  unfold State.identityExpiry <;> (try dsimp only) <;> (repeat' split) <;> first | (simp; done) | simp [State.held]

@[simp] theorem State.idleClearExpiry_core (s : State) : (s.idleClearExpiry).core = s.core := by
  unfold State.idleClearExpiry <;> (try dsimp only) <;> (repeat' split) <;> first | (simp; done) | simp [State.core]

@[simp] theorem State.idleClearExpiry_log (s : State) : (s.idleClearExpiry).log = s.log := by
  unfold State.idleClearExpiry <;> (try dsimp only) <;> (repeat' split) <;> first | (simp; done) | simp [State.log]

@[simp] theorem State.idleClearExpiry_tapeState (s : State) : (s.idleClearExpiry).tapeState = s.tapeState := by
  unfold State.idleClearExpiry <;> (try dsimp only) <;> (repeat' split) <;> first | (simp; done) | simp [State.tapeState]

@[simp] theorem State.idleClearExpiry_held (s : State) : (s.idleClearExpiry).held = s.held := by
  unfold State.idleClearExpiry <;> (try dsimp only) <;> (repeat' split) <;> first | (simp; done) | simp [State.held]

@[simp] theorem State.guardExpiry_core (s : State) : (s.guardExpiry).core = s.core := by
  unfold State.guardExpiry <;> (try dsimp only) <;> (repeat' split) <;> first | (simp; done) | simp [State.core]

@[simp] theorem State.guardExpiry_tapeState (s : State) : (s.guardExpiry).tapeState = s.tapeState := by
  unfold State.guardExpiry <;> (try dsimp only) <;> (repeat' split) <;> first | (simp; done) | simp [State.tapeState]

@[simp] theorem State.guardExpiry_held (s : State) : (s.guardExpiry).held = s.held := by
  unfold State.guardExpiry <;> (try dsimp only) <;> (repeat' split) <;> first | (simp; done) | simp [State.held]

@[simp] theorem State.charPress_core (c : IChar) (s : State) : (s.charPress c).core = s.core := by
  unfold State.charPress <;> (try dsimp only) <;> (repeat' split) <;> first | (simp; done) | simp [State.core]

@[simp] theorem State.charPress_log (c : IChar) (s : State) : (s.charPress c).log = s.log := by
  unfold State.charPress <;> (try dsimp only) <;> (repeat' split) <;> first | (simp; done) | simp [State.log]

@[simp] theorem State.charPress_shelf (c : IChar) (s : State) : (s.charPress c).shelf = s.shelf := by
  unfold State.charPress <;> (try dsimp only) <;> (repeat' split) <;> first | (simp; done) | simp [State.shelf]

@[simp] theorem State.charPress_tapeState (c : IChar) (s : State) : (s.charPress c).tapeState = s.tapeState := by
  unfold State.charPress <;> (try dsimp only) <;> (repeat' split) <;> first | (simp; done) | simp [State.tapeState]

@[simp] theorem State.charPress_held (c : IChar) (s : State) : (s.charPress c).held = s.held := by
  unfold State.charPress <;> (try dsimp only) <;> (repeat' split) <;> first | (simp; done) | simp [State.held]

@[simp] theorem State.functionPress_core (f : KeyFunction) (pos : Nat) (s : State) : (s.functionPress f pos).core = s.core := by
  unfold State.functionPress
  split <;> simp

@[simp] theorem State.functionPress_log (f : KeyFunction) (pos : Nat) (s : State) : (s.functionPress f pos).log = s.log := by
  unfold State.functionPress
  split <;> simp

@[simp] theorem State.functionPress_tapeState (f : KeyFunction) (pos : Nat) (s : State) : (s.functionPress f pos).tapeState = s.tapeState := by
  unfold State.functionPress
  split <;> simp

@[simp] theorem State.functionPress_held (f : KeyFunction) (pos : Nat) (s : State) : (s.functionPress f pos).held = s.held := by
  unfold State.functionPress
  split <;> simp

@[simp] theorem State.operatorPress_core (pos : Nat) (e : KeyEntry) (s : State) : (s.operatorPress pos e).core = s.core := by
  unfold State.operatorPress <;> (try dsimp only) <;> (repeat' split) <;> first | (simp; done) | simp [State.core]

@[simp] theorem State.operatorPress_log (pos : Nat) (e : KeyEntry) (s : State) : (s.operatorPress pos e).log = s.log := by
  unfold State.operatorPress <;> (try dsimp only) <;> (repeat' split) <;> first | (simp; done) | simp [State.log]

@[simp] theorem State.operatorPress_shelf (pos : Nat) (e : KeyEntry) (s : State) : (s.operatorPress pos e).shelf = s.shelf := by
  unfold State.operatorPress <;> (try dsimp only) <;> (repeat' split) <;> first | (simp; done) | simp [State.shelf]

@[simp] theorem State.operatorPress_tapeState (pos : Nat) (e : KeyEntry) (s : State) : (s.operatorPress pos e).tapeState = s.tapeState := by
  unfold State.operatorPress <;> (try dsimp only) <;> (repeat' split) <;> first | (simp; done) | simp [State.tapeState]

@[simp] theorem State.operatorPress_held (pos : Nat) (e : KeyEntry) (s : State) : (s.operatorPress pos e).held = s.held := by
  unfold State.operatorPress <;> (try dsimp only) <;> (repeat' split) <;> first | (simp; done) | simp [State.held]

@[simp] theorem State.press_core (pos : Nat) (s : State) : (s.press pos).core = s.core := by
  unfold State.press; dsimp only
  split <;> simp

@[simp] theorem State.press_log (pos : Nat) (s : State) : (s.press pos).log = s.log := by
  unfold State.press; dsimp only
  split <;> simp

@[simp] theorem State.press_tapeState (pos : Nat) (s : State) : (s.press pos).tapeState = s.tapeState := by
  unfold State.press; dsimp only
  split <;> simp

@[simp] theorem State.press_held (pos : Nat) (s : State) : (s.press pos).held = s.held := by
  unfold State.press; dsimp only
  split <;> simp

@[simp] theorem State.keyboardScan_core (closed : BitVec 64) (s : State) : (s.keyboardScan closed).core = s.core := by
  unfold State.keyboardScan; dsimp only
  rw [foldl_keeps State.core _ (fun s x => State.press_core x s)]
  simp

@[simp] theorem State.keyboardScan_log (closed : BitVec 64) (s : State) : (s.keyboardScan closed).log = s.log := by
  unfold State.keyboardScan; dsimp only
  rw [foldl_keeps State.log _ (fun s x => State.press_log x s)]
  simp

@[simp] theorem State.keyboardScan_tapeState (closed : BitVec 64) (s : State) : (s.keyboardScan closed).tapeState = s.tapeState := by
  unfold State.keyboardScan; dsimp only
  rw [foldl_keeps State.tapeState _ (fun s x => State.press_tapeState x s)]
  simp

@[simp] theorem State.keyboardScan_held (closed : BitVec 64) (s : State) : (s.keyboardScan closed).held = s.held := by
  unfold State.keyboardScan; dsimp only
  rw [foldl_keeps State.held _ (fun s x => State.press_held x s)]
  simp

@[simp] theorem State.beginAction_core (a : PrinterAction) (rest : List PrinterPart) (t : Timer) (s : State) : (s.beginAction a rest t).core = s.core := by
  unfold State.beginAction <;> (try dsimp only) <;> (repeat' split) <;> first | (simp; done) | simp [State.core]

@[simp] theorem State.beginAction_log (a : PrinterAction) (rest : List PrinterPart) (t : Timer) (s : State) : (s.beginAction a rest t).log = s.log := by
  unfold State.beginAction <;> (try dsimp only) <;> (repeat' split) <;> first | (simp; done) | simp [State.log]

@[simp] theorem State.beginAction_shelf (a : PrinterAction) (rest : List PrinterPart) (t : Timer) (s : State) : (s.beginAction a rest t).shelf = s.shelf := by
  unfold State.beginAction <;> (try dsimp only) <;> (repeat' split) <;> first | (simp; done) | simp [State.shelf]

@[simp] theorem State.beginAction_tapeState (a : PrinterAction) (rest : List PrinterPart) (t : Timer) (s : State) : (s.beginAction a rest t).tapeState = s.tapeState := by
  unfold State.beginAction <;> (try dsimp only) <;> (repeat' split) <;> first | (simp; done) | simp [State.tapeState]

@[simp] theorem State.beginAction_held (a : PrinterAction) (rest : List PrinterPart) (t : Timer) (s : State) : (s.beginAction a rest t).held = s.held := by
  unfold State.beginAction <;> (try dsimp only) <;> (repeat' split) <;> first | (simp; done) | simp [State.held]

@[simp] theorem State.beginStrike_core (c : IChar) (rest : List PrinterPart) (s : State) : (s.beginStrike c rest).core = s.core := by
  unfold State.beginStrike <;> (try dsimp only) <;> (repeat' split) <;> first | (simp; done) | simp [State.core]

@[simp] theorem State.beginStrike_log (c : IChar) (rest : List PrinterPart) (s : State) : (s.beginStrike c rest).log = s.log := by
  unfold State.beginStrike <;> (try dsimp only) <;> (repeat' split) <;> first | (simp; done) | simp [State.log]

@[simp] theorem State.beginStrike_shelf (c : IChar) (rest : List PrinterPart) (s : State) : (s.beginStrike c rest).shelf = s.shelf := by
  unfold State.beginStrike <;> (try dsimp only) <;> (repeat' split) <;> first | (simp; done) | simp [State.shelf]

@[simp] theorem State.beginStrike_tapeState (c : IChar) (rest : List PrinterPart) (s : State) : (s.beginStrike c rest).tapeState = s.tapeState := by
  unfold State.beginStrike <;> (try dsimp only) <;> (repeat' split) <;> first | (simp; done) | simp [State.tapeState]

@[simp] theorem State.beginStrike_held (c : IChar) (rest : List PrinterPart) (s : State) : (s.beginStrike c rest).held = s.held := by
  unfold State.beginStrike <;> (try dsimp only) <;> (repeat' split) <;> first | (simp; done) | simp [State.held]

@[simp] theorem State.beginFeed_core (thenStrike : Option IChar) (rest : List PrinterPart) (s : State) : (s.beginFeed thenStrike rest).core = s.core := by
  unfold State.beginFeed <;> (try dsimp only) <;> (repeat' split) <;> first | (simp; done) | simp [State.core]

@[simp] theorem State.beginFeed_log (thenStrike : Option IChar) (rest : List PrinterPart) (s : State) : (s.beginFeed thenStrike rest).log = s.log := by
  unfold State.beginFeed <;> (try dsimp only) <;> (repeat' split) <;> first | (simp; done) | simp [State.log]

@[simp] theorem State.beginFeed_shelf (thenStrike : Option IChar) (rest : List PrinterPart) (s : State) : (s.beginFeed thenStrike rest).shelf = s.shelf := by
  unfold State.beginFeed <;> (try dsimp only) <;> (repeat' split) <;> first | (simp; done) | simp [State.shelf]

@[simp] theorem State.beginFeed_tapeState (thenStrike : Option IChar) (rest : List PrinterPart) (s : State) : (s.beginFeed thenStrike rest).tapeState = s.tapeState := by
  unfold State.beginFeed <;> (try dsimp only) <;> (repeat' split) <;> first | (simp; done) | simp [State.tapeState]

@[simp] theorem State.beginFeed_held (thenStrike : Option IChar) (rest : List PrinterPart) (s : State) : (s.beginFeed thenStrike rest).held = s.held := by
  unfold State.beginFeed <;> (try dsimp only) <;> (repeat' split) <;> first | (simp; done) | simp [State.held]

@[simp] theorem State.beginStep_core (w : Slew) (thenStrike : Option IChar) (rest : List PrinterPart) (s : State) : (s.beginStep w thenStrike rest).core = s.core := by
  unfold State.beginStep <;> (try dsimp only) <;> (repeat' split) <;> first | (simp; done) | simp [State.core]

@[simp] theorem State.beginStep_log (w : Slew) (thenStrike : Option IChar) (rest : List PrinterPart) (s : State) : (s.beginStep w thenStrike rest).log = s.log := by
  unfold State.beginStep <;> (try dsimp only) <;> (repeat' split) <;> first | (simp; done) | simp [State.log]

@[simp] theorem State.beginStep_shelf (w : Slew) (thenStrike : Option IChar) (rest : List PrinterPart) (s : State) : (s.beginStep w thenStrike rest).shelf = s.shelf := by
  unfold State.beginStep <;> (try dsimp only) <;> (repeat' split) <;> first | (simp; done) | simp [State.shelf]

@[simp] theorem State.beginStep_tapeState (w : Slew) (thenStrike : Option IChar) (rest : List PrinterPart) (s : State) : (s.beginStep w thenStrike rest).tapeState = s.tapeState := by
  unfold State.beginStep <;> (try dsimp only) <;> (repeat' split) <;> first | (simp; done) | simp [State.tapeState]

@[simp] theorem State.beginStep_held (w : Slew) (thenStrike : Option IChar) (rest : List PrinterPart) (s : State) : (s.beginStep w thenStrike rest).held = s.held := by
  unfold State.beginStep <;> (try dsimp only) <;> (repeat' split) <;> first | (simp; done) | simp [State.held]

@[simp] theorem State.operationDone_core (s : State) : (s.operationDone).core = s.core := by
  unfold State.operationDone <;> (try dsimp only) <;> (repeat' split) <;> first | (simp; done) | simp [State.core]

@[simp] theorem State.operationDone_log (s : State) : (s.operationDone).log = s.log := by
  unfold State.operationDone <;> (try dsimp only) <;> (repeat' split) <;> first | (simp; done) | simp [State.log]

@[simp] theorem State.operationDone_tapeState (s : State) : (s.operationDone).tapeState = s.tapeState := by
  unfold State.operationDone <;> (try dsimp only) <;> (repeat' split) <;> first | (simp; done) | simp [State.tapeState]

@[simp] theorem State.operationDone_held (s : State) : (s.operationDone).held = s.held := by
  unfold State.operationDone <;> (try dsimp only) <;> (repeat' split) <;> first | (simp; done) | simp [State.held]

@[simp] theorem State.runParts_core (parts : List PrinterPart) (s : State) : (State.runParts parts s).core = s.core := by
  induction parts generalizing s with
  | nil => simp [State.runParts]
  | cons p ps ih => cases p <;> simp only [State.runParts] <;> (repeat' split) <;> simp [ih]

@[simp] theorem State.runParts_log (parts : List PrinterPart) (s : State) : (State.runParts parts s).log = s.log := by
  induction parts generalizing s with
  | nil => simp [State.runParts]
  | cons p ps ih => cases p <;> simp only [State.runParts] <;> (repeat' split) <;> simp [ih]

@[simp] theorem State.runParts_tapeState (parts : List PrinterPart) (s : State) : (State.runParts parts s).tapeState = s.tapeState := by
  induction parts generalizing s with
  | nil => simp [State.runParts]
  | cons p ps ih => cases p <;> simp only [State.runParts] <;> (repeat' split) <;> simp [ih]

@[simp] theorem State.runParts_held (parts : List PrinterPart) (s : State) : (State.runParts parts s).held = s.held := by
  induction parts generalizing s with
  | nil => simp [State.runParts]
  | cons p ps ih => cases p <;> simp only [State.runParts] <;> (repeat' split) <;> simp [ih]

theorem State.printerTake_core (home : Bool) (s t : State) (h : s.printerTake home = some t) : t.core = s.core := by
  unfold State.printerTake at h
  (repeat' split at h) <;> first | (cases h; done) | (cases h; simp)

@[simp] theorem State.printerTake_getD_core (home) (s : State) : ((s.printerTake home).getD s).core = s.core := by
  cases h : s.printerTake home with
  | none => rfl
  | some t => exact State.printerTake_core _ _ _ h

theorem State.printerTake_log (home : Bool) (s t : State) (h : s.printerTake home = some t) : t.log = s.log := by
  unfold State.printerTake at h
  (repeat' split at h) <;> first | (cases h; done) | (cases h; simp)

@[simp] theorem State.printerTake_getD_log (home) (s : State) : ((s.printerTake home).getD s).log = s.log := by
  cases h : s.printerTake home with
  | none => rfl
  | some t => exact State.printerTake_log _ _ _ h

theorem State.printerTake_tapeState (home : Bool) (s t : State) (h : s.printerTake home = some t) : t.tapeState = s.tapeState := by
  unfold State.printerTake at h
  (repeat' split at h) <;> first | (cases h; done) | (cases h; simp)

@[simp] theorem State.printerTake_getD_tapeState (home) (s : State) : ((s.printerTake home).getD s).tapeState = s.tapeState := by
  cases h : s.printerTake home with
  | none => rfl
  | some t => exact State.printerTake_tapeState _ _ _ h

theorem State.printerTake_held (home : Bool) (s t : State) (h : s.printerTake home = some t) : t.held = s.held := by
  unfold State.printerTake at h
  (repeat' split at h) <;> first | (cases h; done) | (cases h; simp)

@[simp] theorem State.printerTake_getD_held (home) (s : State) : ((s.printerTake home).getD s).held = s.held := by
  cases h : s.printerTake home with
  | none => rfl
  | some t => exact State.printerTake_held _ _ _ h

@[simp] theorem State.strikeLands_core (s : State) : (s.strikeLands).core = s.core := by
  unfold State.strikeLands <;> (try dsimp only) <;> (repeat' split) <;> first | (simp; done) | simp [State.core]

@[simp] theorem State.strikeLands_log (s : State) : (s.strikeLands).log = s.log := by
  unfold State.strikeLands <;> (try dsimp only) <;> (repeat' split) <;> first | (simp; done) | simp [State.log]

@[simp] theorem State.strikeLands_shelf (s : State) : (s.strikeLands).shelf = s.shelf := by
  unfold State.strikeLands <;> (try dsimp only) <;> (repeat' split) <;> first | (simp; done) | simp [State.shelf]

@[simp] theorem State.strikeLands_tapeState (s : State) : (s.strikeLands).tapeState = s.tapeState := by
  unfold State.strikeLands <;> (try dsimp only) <;> (repeat' split) <;> first | (simp; done) | simp [State.tapeState]

@[simp] theorem State.strikeLands_held (s : State) : (s.strikeLands).held = s.held := by
  unfold State.strikeLands <;> (try dsimp only) <;> (repeat' split) <;> first | (simp; done) | simp [State.held]

@[simp] theorem State.strikeDone_core (s : State) : (s.strikeDone).core = s.core := by
  unfold State.strikeDone <;> (try dsimp only) <;> (repeat' split) <;> first | (simp; done) | simp [State.core]

@[simp] theorem State.strikeDone_log (s : State) : (s.strikeDone).log = s.log := by
  unfold State.strikeDone <;> (try dsimp only) <;> (repeat' split) <;> first | (simp; done) | simp [State.log]

@[simp] theorem State.strikeDone_tapeState (s : State) : (s.strikeDone).tapeState = s.tapeState := by
  unfold State.strikeDone <;> (try dsimp only) <;> (repeat' split) <;> first | (simp; done) | simp [State.tapeState]

@[simp] theorem State.strikeDone_held (s : State) : (s.strikeDone).held = s.held := by
  unfold State.strikeDone <;> (try dsimp only) <;> (repeat' split) <;> first | (simp; done) | simp [State.held]

@[simp] theorem State.coolingEnd_core (s : State) : (s.coolingEnd).core = s.core := by
  unfold State.coolingEnd <;> (try dsimp only) <;> (repeat' split) <;> first | (simp; done) | simp [State.core]

@[simp] theorem State.coolingEnd_log (s : State) : (s.coolingEnd).log = s.log := by
  unfold State.coolingEnd <;> (try dsimp only) <;> (repeat' split) <;> first | (simp; done) | simp [State.log]

@[simp] theorem State.coolingEnd_tapeState (s : State) : (s.coolingEnd).tapeState = s.tapeState := by
  unfold State.coolingEnd <;> (try dsimp only) <;> (repeat' split) <;> first | (simp; done) | simp [State.tapeState]

@[simp] theorem State.coolingEnd_held (s : State) : (s.coolingEnd).held = s.held := by
  unfold State.coolingEnd <;> (try dsimp only) <;> (repeat' split) <;> first | (simp; done) | simp [State.held]

@[simp] theorem State.feedDone_core (s : State) : (s.feedDone).core = s.core := by
  unfold State.feedDone <;> (try dsimp only) <;> (repeat' split) <;> first | (simp; done) | simp [State.core]

@[simp] theorem State.feedDone_log (s : State) : (s.feedDone).log = s.log := by
  unfold State.feedDone <;> (try dsimp only) <;> (repeat' split) <;> first | (simp; done) | simp [State.log]

@[simp] theorem State.feedDone_tapeState (s : State) : (s.feedDone).tapeState = s.tapeState := by
  unfold State.feedDone <;> (try dsimp only) <;> (repeat' split) <;> first | (simp; done) | simp [State.tapeState]

@[simp] theorem State.feedDone_held (s : State) : (s.feedDone).held = s.held := by
  unfold State.feedDone <;> (try dsimp only) <;> (repeat' split) <;> first | (simp; done) | simp [State.held]

@[simp] theorem State.printerResponseLimit_core (s : State) : (s.printerResponseLimit).core = s.core := by
  unfold State.printerResponseLimit <;> (try dsimp only) <;> (repeat' split) <;> first | (simp; done) | simp [State.core]

@[simp] theorem State.printerResponseLimit_log (s : State) : (s.printerResponseLimit).log = s.log := by
  unfold State.printerResponseLimit <;> (try dsimp only) <;> (repeat' split) <;> first | (simp; done) | simp [State.log]

@[simp] theorem State.printerResponseLimit_tapeState (s : State) : (s.printerResponseLimit).tapeState = s.tapeState := by
  unfold State.printerResponseLimit <;> (try dsimp only) <;> (repeat' split) <;> first | (simp; done) | simp [State.tapeState]

@[simp] theorem State.printerResponseLimit_held (s : State) : (s.printerResponseLimit).held = s.held := by
  unfold State.printerResponseLimit <;> (try dsimp only) <;> (repeat' split) <;> first | (simp; done) | simp [State.held]

@[simp] theorem State.slewDone_core (thenStrike : Option IChar) (rest : List PrinterPart) (s : State) : (s.slewDone thenStrike rest).core = s.core := by
  unfold State.slewDone <;> (try dsimp only) <;> (repeat' split) <;> first | (simp; done) | simp [State.core]

@[simp] theorem State.slewDone_log (thenStrike : Option IChar) (rest : List PrinterPart) (s : State) : (s.slewDone thenStrike rest).log = s.log := by
  unfold State.slewDone <;> (try dsimp only) <;> (repeat' split) <;> first | (simp; done) | simp [State.log]

@[simp] theorem State.slewDone_tapeState (thenStrike : Option IChar) (rest : List PrinterPart) (s : State) : (s.slewDone thenStrike rest).tapeState = s.tapeState := by
  unfold State.slewDone <;> (try dsimp only) <;> (repeat' split) <;> first | (simp; done) | simp [State.tapeState]

@[simp] theorem State.slewDone_held (thenStrike : Option IChar) (rest : List PrinterPart) (s : State) : (s.slewDone thenStrike rest).held = s.held := by
  unfold State.slewDone <;> (try dsimp only) <;> (repeat' split) <;> first | (simp; done) | simp [State.held]

@[simp] theorem State.slewStep_core (w : Slew) (thenStrike : Option IChar) (rest : List PrinterPart) (s : State) : (s.slewStep w thenStrike rest).core = s.core := by
  unfold State.slewStep <;> (try dsimp only) <;> (repeat' split) <;> first | (simp; done) | simp [State.core]

@[simp] theorem State.slewStep_log (w : Slew) (thenStrike : Option IChar) (rest : List PrinterPart) (s : State) : (s.slewStep w thenStrike rest).log = s.log := by
  unfold State.slewStep <;> (try dsimp only) <;> (repeat' split) <;> first | (simp; done) | simp [State.log]

@[simp] theorem State.slewStep_tapeState (w : Slew) (thenStrike : Option IChar) (rest : List PrinterPart) (s : State) : (s.slewStep w thenStrike rest).tapeState = s.tapeState := by
  unfold State.slewStep <;> (try dsimp only) <;> (repeat' split) <;> first | (simp; done) | simp [State.tapeState]

@[simp] theorem State.slewStep_held (w : Slew) (thenStrike : Option IChar) (rest : List PrinterPart) (s : State) : (s.slewStep w thenStrike rest).held = s.held := by
  unfold State.slewStep <;> (try dsimp only) <;> (repeat' split) <;> first | (simp; done) | simp [State.held]

@[simp] theorem State.carriageStepEnd_core (home : Bool) (s : State) : (s.carriageStepEnd home).core = s.core := by
  unfold State.carriageStepEnd <;> (try dsimp only) <;> (repeat' split) <;> first | (simp; done) | simp [State.core]

@[simp] theorem State.carriageStepEnd_log (home : Bool) (s : State) : (s.carriageStepEnd home).log = s.log := by
  unfold State.carriageStepEnd <;> (try dsimp only) <;> (repeat' split) <;> first | (simp; done) | simp [State.log]

@[simp] theorem State.carriageStepEnd_tapeState (home : Bool) (s : State) : (s.carriageStepEnd home).tapeState = s.tapeState := by
  unfold State.carriageStepEnd <;> (try dsimp only) <;> (repeat' split) <;> first | (simp; done) | simp [State.tapeState]

@[simp] theorem State.carriageStepEnd_held (home : Bool) (s : State) : (s.carriageStepEnd home).held = s.held := by
  unfold State.carriageStepEnd <;> (try dsimp only) <;> (repeat' split) <;> first | (simp; done) | simp [State.held]

@[simp] theorem State.haltTest_core (s : State) : (s.haltTest).core = s.core := by
  unfold State.haltTest <;> (try dsimp only) <;> (repeat' split) <;> first | (simp; done) | simp [State.core]

@[simp] theorem State.haltTest_log (s : State) : (s.haltTest).log = s.log := by
  unfold State.haltTest <;> (try dsimp only) <;> (repeat' split) <;> first | (simp; done) | simp [State.log]

@[simp] theorem State.haltTest_tapeState (s : State) : (s.haltTest).tapeState = s.tapeState := by
  unfold State.haltTest <;> (try dsimp only) <;> (repeat' split) <;> first | (simp; done) | simp [State.tapeState]

@[simp] theorem State.haltTest_held (s : State) : (s.haltTest).held = s.held := by
  unfold State.haltTest <;> (try dsimp only) <;> (repeat' split) <;> first | (simp; done) | simp [State.held]

@[simp] theorem State.haltCauseChange_core (paperOut headHot : Bool) (s : State) : (s.haltCauseChange paperOut headHot).core = s.core := by
  unfold State.haltCauseChange <;> (try dsimp only) <;> (repeat' split) <;> first | (simp; done) | simp [State.core]

@[simp] theorem State.haltCauseChange_log (paperOut headHot : Bool) (s : State) : (s.haltCauseChange paperOut headHot).log = s.log := by
  unfold State.haltCauseChange <;> (try dsimp only) <;> (repeat' split) <;> first | (simp; done) | simp [State.log]

@[simp] theorem State.haltCauseChange_tapeState (paperOut headHot : Bool) (s : State) : (s.haltCauseChange paperOut headHot).tapeState = s.tapeState := by
  unfold State.haltCauseChange <;> (try dsimp only) <;> (repeat' split) <;> first | (simp; done) | simp [State.tapeState]

@[simp] theorem State.haltCauseChange_held (paperOut headHot : Bool) (s : State) : (s.haltCauseChange paperOut headHot).held = s.held := by
  unfold State.haltCauseChange <;> (try dsimp only) <;> (repeat' split) <;> first | (simp; done) | simp [State.held]

@[simp] theorem State.haltGraceExpiry_core (s : State) : (s.haltGraceExpiry).core = s.core := by
  unfold State.haltGraceExpiry <;> (try dsimp only) <;> (repeat' split) <;> first | (simp; done) | simp [State.core]

@[simp] theorem State.haltGraceExpiry_log (s : State) : (s.haltGraceExpiry).log = s.log := by
  unfold State.haltGraceExpiry <;> (try dsimp only) <;> (repeat' split) <;> first | (simp; done) | simp [State.log]

@[simp] theorem State.haltGraceExpiry_tapeState (s : State) : (s.haltGraceExpiry).tapeState = s.tapeState := by
  unfold State.haltGraceExpiry <;> (try dsimp only) <;> (repeat' split) <;> first | (simp; done) | simp [State.tapeState]

@[simp] theorem State.haltGraceExpiry_held (s : State) : (s.haltGraceExpiry).held = s.held := by
  unfold State.haltGraceExpiry <;> (try dsimp only) <;> (repeat' split) <;> first | (simp; done) | simp [State.held]

@[simp] theorem State.headWarmChange_core (warm : Bool) (s : State) : (s.headWarmChange warm).core = s.core := by
  unfold State.headWarmChange <;> (try dsimp only) <;> (repeat' split) <;> first | (simp; done) | simp [State.core]

@[simp] theorem State.headWarmChange_log (warm : Bool) (s : State) : (s.headWarmChange warm).log = s.log := by
  unfold State.headWarmChange <;> (try dsimp only) <;> (repeat' split) <;> first | (simp; done) | simp [State.log]

@[simp] theorem State.headWarmChange_shelf (warm : Bool) (s : State) : (s.headWarmChange warm).shelf = s.shelf := by
  unfold State.headWarmChange <;> (try dsimp only) <;> (repeat' split) <;> first | (simp; done) | simp [State.shelf]

@[simp] theorem State.headWarmChange_tapeState (warm : Bool) (s : State) : (s.headWarmChange warm).tapeState = s.tapeState := by
  unfold State.headWarmChange <;> (try dsimp only) <;> (repeat' split) <;> first | (simp; done) | simp [State.tapeState]

@[simp] theorem State.headWarmChange_held (warm : Bool) (s : State) : (s.headWarmChange warm).held = s.held := by
  unfold State.headWarmChange <;> (try dsimp only) <;> (repeat' split) <;> first | (simp; done) | simp [State.held]

@[simp] theorem State.printerOffNow_core (s : State) : (s.printerOffNow).core = s.core := by
  unfold State.printerOffNow <;> (try dsimp only) <;> (repeat' split) <;> first | (simp; done) | simp [State.core]

@[simp] theorem State.printerOffNow_log (s : State) : (s.printerOffNow).log = s.log := by
  unfold State.printerOffNow <;> (try dsimp only) <;> (repeat' split) <;> first | (simp; done) | simp [State.log]

@[simp] theorem State.printerOffNow_tapeState (s : State) : (s.printerOffNow).tapeState = s.tapeState := by
  unfold State.printerOffNow <;> (try dsimp only) <;> (repeat' split) <;> first | (simp; done) | simp [State.tapeState]

@[simp] theorem State.printerOffNow_held (s : State) : (s.printerOffNow).held = s.held := by
  unfold State.printerOffNow <;> (try dsimp only) <;> (repeat' split) <;> first | (simp; done) | simp [State.held]

@[simp] theorem State.abortSlew_core (w : Slew) (s : State) : (s.abortSlew w).core = s.core := by
  unfold State.abortSlew <;> (try dsimp only) <;> (repeat' split) <;> first | (simp; done) | simp [State.core]

@[simp] theorem State.abortSlew_log (w : Slew) (s : State) : (s.abortSlew w).log = s.log := by
  unfold State.abortSlew <;> (try dsimp only) <;> (repeat' split) <;> first | (simp; done) | simp [State.log]

@[simp] theorem State.abortSlew_tapeState (w : Slew) (s : State) : (s.abortSlew w).tapeState = s.tapeState := by
  unfold State.abortSlew <;> (try dsimp only) <;> (repeat' split) <;> first | (simp; done) | simp [State.tapeState]

@[simp] theorem State.abortSlew_held (w : Slew) (s : State) : (s.abortSlew w).held = s.held := by
  unfold State.abortSlew <;> (try dsimp only) <;> (repeat' split) <;> first | (simp; done) | simp [State.held]

@[simp] theorem State.printerOff_core (s : State) : (s.printerOff).core = s.core := by
  unfold State.printerOff <;> (try dsimp only) <;> (repeat' split) <;> first | (simp; done) | simp [State.core]

@[simp] theorem State.printerOff_log (s : State) : (s.printerOff).log = s.log := by
  unfold State.printerOff <;> (try dsimp only) <;> (repeat' split) <;> first | (simp; done) | simp [State.log]

@[simp] theorem State.printerOff_tapeState (s : State) : (s.printerOff).tapeState = s.tapeState := by
  unfold State.printerOff <;> (try dsimp only) <;> (repeat' split) <;> first | (simp; done) | simp [State.tapeState]

@[simp] theorem State.printerOff_held (s : State) : (s.printerOff).held = s.held := by
  unfold State.printerOff <;> (try dsimp only) <;> (repeat' split) <;> first | (simp; done) | simp [State.held]

@[simp] theorem State.printerBack_core (s : State) : (s.printerBack).core = s.core := by
  unfold State.printerBack <;> (try dsimp only) <;> (repeat' split) <;> first | (simp; done) | simp [State.core]

@[simp] theorem State.printerBack_log (s : State) : (s.printerBack).log = s.log := by
  unfold State.printerBack <;> (try dsimp only) <;> (repeat' split) <;> first | (simp; done) | simp [State.log]

@[simp] theorem State.printerBack_tapeState (s : State) : (s.printerBack).tapeState = s.tapeState := by
  unfold State.printerBack <;> (try dsimp only) <;> (repeat' split) <;> first | (simp; done) | simp [State.tapeState]

@[simp] theorem State.printerBack_held (s : State) : (s.printerBack).held = s.held := by
  unfold State.printerBack <;> (try dsimp only) <;> (repeat' split) <;> first | (simp; done) | simp [State.held]

theorem State.printerOn_core (s t : State) (h : s.printerOn = some t) : t.core = s.core := by
  revert h; unfold State.printerOn; (repeat' split) <;> intro h <;> cases h <;> simp

@[simp] theorem State.printerOn_getD_core (s : State) : ((s.printerOn).getD s).core = s.core := by
  cases h : s.printerOn with
  | none => rfl
  | some t => exact State.printerOn_core _ _ h

theorem State.printerOn_log (s t : State) (h : s.printerOn = some t) : t.log = s.log := by
  revert h; unfold State.printerOn; (repeat' split) <;> intro h <;> cases h <;> simp

@[simp] theorem State.printerOn_getD_log (s : State) : ((s.printerOn).getD s).log = s.log := by
  cases h : s.printerOn with
  | none => rfl
  | some t => exact State.printerOn_log _ _ h

theorem State.printerOn_tapeState (s t : State) (h : s.printerOn = some t) : t.tapeState = s.tapeState := by
  revert h; unfold State.printerOn; (repeat' split) <;> intro h <;> cases h <;> simp

@[simp] theorem State.printerOn_getD_tapeState (s : State) : ((s.printerOn).getD s).tapeState = s.tapeState := by
  cases h : s.printerOn with
  | none => rfl
  | some t => exact State.printerOn_tapeState _ _ h

theorem State.printerOn_held (s t : State) (h : s.printerOn = some t) : t.held = s.held := by
  revert h; unfold State.printerOn; (repeat' split) <;> intro h <;> cases h <;> simp

@[simp] theorem State.printerOn_getD_held (s : State) : ((s.printerOn).getD s).held = s.held := by
  cases h : s.printerOn with
  | none => rfl
  | some t => exact State.printerOn_held _ _ h

@[simp] theorem State.beginPunch_core (op : PunchOp) (s : State) : (s.beginPunch op).core = s.core := by
  unfold State.beginPunch <;> (try dsimp only) <;> (repeat' split) <;> first | (simp; done) | simp [State.core]

@[simp] theorem State.beginPunch_log (op : PunchOp) (s : State) : (s.beginPunch op).log = s.log := by
  unfold State.beginPunch <;> (try dsimp only) <;> (repeat' split) <;> first | (simp; done) | simp [State.log]

@[simp] theorem State.beginPunch_shelf (op : PunchOp) (s : State) : (s.beginPunch op).shelf = s.shelf := by
  unfold State.beginPunch <;> (try dsimp only) <;> (repeat' split) <;> first | (simp; done) | simp [State.shelf]

@[simp] theorem State.beginPunch_held (op : PunchOp) (s : State) : (s.beginPunch op).held = s.held := by
  unfold State.beginPunch <;> (try dsimp only) <;> (repeat' split) <;> first | (simp; done) | simp [State.held]

theorem State.punchTake_core (s t : State) (h : s.punchTake = some t) : t.core = s.core := by
  unfold State.punchTake at h; dsimp only at h
  (repeat' split at h) <;> first | (cases h; done) | (cases h; simp)

@[simp] theorem State.punchTake_getD_core (s : State) : ((s.punchTake).getD s).core = s.core := by
  cases h : s.punchTake with
  | none => rfl
  | some t => exact State.punchTake_core _ _ h

theorem State.punchTake_log (s t : State) (h : s.punchTake = some t) : t.log = s.log := by
  unfold State.punchTake at h; dsimp only at h
  (repeat' split at h) <;> first | (cases h; done) | (cases h; simp)

@[simp] theorem State.punchTake_getD_log (s : State) : ((s.punchTake).getD s).log = s.log := by
  cases h : s.punchTake with
  | none => rfl
  | some t => exact State.punchTake_log _ _ h

theorem State.punchTake_held (s t : State) (h : s.punchTake = some t) : t.held = s.held := by
  unfold State.punchTake at h; dsimp only at h
  (repeat' split at h) <;> first | (cases h; done) | (cases h; simp)

@[simp] theorem State.punchTake_getD_held (s : State) : ((s.punchTake).getD s).held = s.held := by
  cases h : s.punchTake with
  | none => rfl
  | some t => exact State.punchTake_held _ _ h

@[simp] theorem State.countPunched_core (s : State) : (s.countPunched).core = s.core := by
  unfold State.countPunched <;> (try dsimp only) <;> (repeat' split) <;> first | (simp; done) | simp [State.core]

@[simp] theorem State.countPunched_log (s : State) : (s.countPunched).log = s.log := by
  unfold State.countPunched <;> (try dsimp only) <;> (repeat' split) <;> first | (simp; done) | simp [State.log]

@[simp] theorem State.countPunched_shelf (s : State) : (s.countPunched).shelf = s.shelf := by
  unfold State.countPunched <;> (try dsimp only) <;> (repeat' split) <;> first | (simp; done) | simp [State.shelf]

@[simp] theorem State.countPunched_held (s : State) : (s.countPunched).held = s.held := by
  unfold State.countPunched <;> (try dsimp only) <;> (repeat' split) <;> first | (simp; done) | simp [State.held]

@[simp] theorem State.punchOffNow_core (s : State) : (s.punchOffNow).core = s.core := by
  unfold State.punchOffNow <;> (try dsimp only) <;> (repeat' split) <;> first | (simp; done) | simp [State.core]

@[simp] theorem State.punchOffNow_log (s : State) : (s.punchOffNow).log = s.log := by
  unfold State.punchOffNow <;> (try dsimp only) <;> (repeat' split) <;> first | (simp; done) | simp [State.log]

@[simp] theorem State.punchOffNow_held (s : State) : (s.punchOffNow).held = s.held := by
  unfold State.punchOffNow <;> (try dsimp only) <;> (repeat' split) <;> first | (simp; done) | simp [State.held]

@[simp] theorem State.punchIdle_core (s : State) : (s.punchIdle).core = s.core := by
  unfold State.punchIdle <;> (try dsimp only) <;> (repeat' split) <;> first | (simp; done) | simp [State.core]

@[simp] theorem State.punchIdle_log (s : State) : (s.punchIdle).log = s.log := by
  unfold State.punchIdle <;> (try dsimp only) <;> (repeat' split) <;> first | (simp; done) | simp [State.log]

@[simp] theorem State.punchIdle_shelf (s : State) : (s.punchIdle).shelf = s.shelf := by
  unfold State.punchIdle <;> (try dsimp only) <;> (repeat' split) <;> first | (simp; done) | simp [State.shelf]

@[simp] theorem State.punchIdle_held (s : State) : (s.punchIdle).held = s.held := by
  unfold State.punchIdle <;> (try dsimp only) <;> (repeat' split) <;> first | (simp; done) | simp [State.held]

@[simp] theorem State.punchOperationDone_core (s : State) : (s.punchOperationDone).core = s.core := by
  unfold State.punchOperationDone <;> (try dsimp only) <;> (repeat' split) <;> first | (simp; done) | simp [State.core]

@[simp] theorem State.punchOperationDone_log (s : State) : (s.punchOperationDone).log = s.log := by
  unfold State.punchOperationDone <;> (try dsimp only) <;> (repeat' split) <;> first | (simp; done) | simp [State.log]

@[simp] theorem State.punchOperationDone_held (s : State) : (s.punchOperationDone).held = s.held := by
  unfold State.punchOperationDone <;> (try dsimp only) <;> (repeat' split) <;> first | (simp; done) | simp [State.held]

@[simp] theorem State.punchDone_core (s : State) : (s.punchDone).core = s.core := by
  unfold State.punchDone <;> (try dsimp only) <;> (repeat' split) <;> first | (simp; done) | simp [State.core]

@[simp] theorem State.punchDone_log (s : State) : (s.punchDone).log = s.log := by
  unfold State.punchDone <;> (try dsimp only) <;> (repeat' split) <;> first | (simp; done) | simp [State.log]

@[simp] theorem State.punchDone_held (s : State) : (s.punchDone).held = s.held := by
  unfold State.punchDone <;> (try dsimp only) <;> (repeat' split) <;> first | (simp; done) | simp [State.held]

@[simp] theorem State.punchResponseLimit_core (s : State) : (s.punchResponseLimit).core = s.core := by
  unfold State.punchResponseLimit <;> (try dsimp only) <;> (repeat' split) <;> first | (simp; done) | simp [State.core]

@[simp] theorem State.punchResponseLimit_log (s : State) : (s.punchResponseLimit).log = s.log := by
  unfold State.punchResponseLimit <;> (try dsimp only) <;> (repeat' split) <;> first | (simp; done) | simp [State.log]

@[simp] theorem State.punchResponseLimit_held (s : State) : (s.punchResponseLimit).held = s.held := by
  unfold State.punchResponseLimit <;> (try dsimp only) <;> (repeat' split) <;> first | (simp; done) | simp [State.held]

@[simp] theorem State.tapeLowChange_core (low : Bool) (s : State) : (s.tapeLowChange low).core = s.core := by
  unfold State.tapeLowChange <;> (try dsimp only) <;> (repeat' split) <;> first | (simp; done) | simp [State.core]

@[simp] theorem State.tapeLowChange_log (low : Bool) (s : State) : (s.tapeLowChange low).log = s.log := by
  unfold State.tapeLowChange <;> (try dsimp only) <;> (repeat' split) <;> first | (simp; done) | simp [State.log]

@[simp] theorem State.tapeLowChange_held (low : Bool) (s : State) : (s.tapeLowChange low).held = s.held := by
  unfold State.tapeLowChange <;> (try dsimp only) <;> (repeat' split) <;> first | (simp; done) | simp [State.held]

@[simp] theorem State.punchBack_core (s : State) : (s.punchBack).core = s.core := by
  unfold State.punchBack <;> (try dsimp only) <;> (repeat' split) <;> first | (simp; done) | simp [State.core]

@[simp] theorem State.punchBack_log (s : State) : (s.punchBack).log = s.log := by
  unfold State.punchBack <;> (try dsimp only) <;> (repeat' split) <;> first | (simp; done) | simp [State.log]

@[simp] theorem State.punchBack_shelf (s : State) : (s.punchBack).shelf = s.shelf := by
  unfold State.punchBack <;> (try dsimp only) <;> (repeat' split) <;> first | (simp; done) | simp [State.shelf]

@[simp] theorem State.punchBack_held (s : State) : (s.punchBack).held = s.held := by
  unfold State.punchBack <;> (try dsimp only) <;> (repeat' split) <;> first | (simp; done) | simp [State.held]

@[simp] theorem State.tapeLoaded_core (n : Nat) (s : State) : (s.tapeLoaded n).core = s.core := by
  unfold State.tapeLoaded <;> (try dsimp only) <;> (repeat' split) <;> first | (simp; done) | simp [State.core]

@[simp] theorem State.tapeLoaded_log (n : Nat) (s : State) : (s.tapeLoaded n).log = s.log := by
  unfold State.tapeLoaded <;> (try dsimp only) <;> (repeat' split) <;> first | (simp; done) | simp [State.log]

@[simp] theorem State.tapeLoaded_held (n : Nat) (s : State) : (s.tapeLoaded n).held = s.held := by
  unfold State.tapeLoaded <;> (try dsimp only) <;> (repeat' split) <;> first | (simp; done) | simp [State.held]

theorem State.punchLeader_core (n : Nat) (s t : State) (h : s.punchLeader n = some t) : t.core = s.core := by
  revert h; unfold State.punchLeader; split <;> intro h <;> cases h; simp

theorem State.punchLeader_log (n : Nat) (s t : State) (h : s.punchLeader n = some t) : t.log = s.log := by
  revert h; unfold State.punchLeader; split <;> intro h <;> cases h; simp

theorem State.punchLeader_shelf (n : Nat) (s t : State) (h : s.punchLeader n = some t) : t.shelf = s.shelf := by
  revert h; unfold State.punchLeader; split <;> intro h <;> cases h; simp

theorem State.punchLeader_held (n : Nat) (s t : State) (h : s.punchLeader n = some t) : t.held = s.held := by
  revert h; unfold State.punchLeader; split <;> intro h <;> cases h; simp

@[simp] theorem State.punchOff_core (s : State) : (s.punchOff).core = s.core := by
  unfold State.punchOff <;> (try dsimp only) <;> (repeat' split) <;> first | (simp; done) | simp [State.core]

@[simp] theorem State.punchOff_log (s : State) : (s.punchOff).log = s.log := by
  unfold State.punchOff <;> (try dsimp only) <;> (repeat' split) <;> first | (simp; done) | simp [State.log]

@[simp] theorem State.punchOff_held (s : State) : (s.punchOff).held = s.held := by
  unfold State.punchOff <;> (try dsimp only) <;> (repeat' split) <;> first | (simp; done) | simp [State.held]

theorem State.punchOn_core (s t : State) (h : s.punchOn = some t) : t.core = s.core := by
  revert h; unfold State.punchOn; (repeat' split) <;> intro h <;> cases h <;> simp

@[simp] theorem State.punchOn_getD_core (s : State) : ((s.punchOn).getD s).core = s.core := by
  cases h : s.punchOn with
  | none => rfl
  | some t => exact State.punchOn_core _ _ h

theorem State.punchOn_log (s t : State) (h : s.punchOn = some t) : t.log = s.log := by
  revert h; unfold State.punchOn; (repeat' split) <;> intro h <;> cases h <;> simp

@[simp] theorem State.punchOn_getD_log (s : State) : ((s.punchOn).getD s).log = s.log := by
  cases h : s.punchOn with
  | none => rfl
  | some t => exact State.punchOn_log _ _ h

theorem State.punchOn_shelf (s t : State) (h : s.punchOn = some t) : t.shelf = s.shelf := by
  revert h; unfold State.punchOn; (repeat' split) <;> intro h <;> cases h <;> simp

@[simp] theorem State.punchOn_getD_shelf (s : State) : ((s.punchOn).getD s).shelf = s.shelf := by
  cases h : s.punchOn with
  | none => rfl
  | some t => exact State.punchOn_shelf _ _ h

theorem State.punchOn_held (s t : State) (h : s.punchOn = some t) : t.held = s.held := by
  revert h; unfold State.punchOn; (repeat' split) <;> intro h <;> cases h <;> simp

@[simp] theorem State.punchOn_getD_held (s : State) : ((s.punchOn).getD s).held = s.held := by
  cases h : s.punchOn with
  | none => rfl
  | some t => exact State.punchOn_held _ _ h

@[simp] theorem State.runUpExpiry_core (s : State) : (s.runUpExpiry).core = s.core := by
  unfold State.runUpExpiry <;> (try dsimp only) <;> (repeat' split) <;> first | (simp; done) | simp [State.core]

@[simp] theorem State.runUpExpiry_log (s : State) : (s.runUpExpiry).log = s.log := by
  unfold State.runUpExpiry <;> (try dsimp only) <;> (repeat' split) <;> first | (simp; done) | simp [State.log]

@[simp] theorem State.runUpExpiry_shelf (s : State) : (s.runUpExpiry).shelf = s.shelf := by
  unfold State.runUpExpiry <;> (try dsimp only) <;> (repeat' split) <;> first | (simp; done) | simp [State.shelf]

@[simp] theorem State.runUpExpiry_tapeState (s : State) : (s.runUpExpiry).tapeState = s.tapeState := by
  unfold State.runUpExpiry <;> (try dsimp only) <;> (repeat' split) <;> first | (simp; done) | simp [State.tapeState]

@[simp] theorem State.runUpExpiry_held (s : State) : (s.runUpExpiry).held = s.held := by
  unfold State.runUpExpiry <;> (try dsimp only) <;> (repeat' split) <;> first | (simp; done) | simp [State.held]

@[simp] theorem State.idleStopExpiry_core (s : State) : (s.idleStopExpiry).core = s.core := by
  unfold State.idleStopExpiry <;> (try dsimp only) <;> (repeat' split) <;> first | (simp; done) | simp [State.core]

@[simp] theorem State.idleStopExpiry_log (s : State) : (s.idleStopExpiry).log = s.log := by
  unfold State.idleStopExpiry <;> (try dsimp only) <;> (repeat' split) <;> first | (simp; done) | simp [State.log]

@[simp] theorem State.idleStopExpiry_shelf (s : State) : (s.idleStopExpiry).shelf = s.shelf := by
  unfold State.idleStopExpiry <;> (try dsimp only) <;> (repeat' split) <;> first | (simp; done) | simp [State.shelf]

@[simp] theorem State.idleStopExpiry_tapeState (s : State) : (s.idleStopExpiry).tapeState = s.tapeState := by
  unfold State.idleStopExpiry <;> (try dsimp only) <;> (repeat' split) <;> first | (simp; done) | simp [State.tapeState]

@[simp] theorem State.idleStopExpiry_held (s : State) : (s.idleStopExpiry).held = s.held := by
  unfold State.idleStopExpiry <;> (try dsimp only) <;> (repeat' split) <;> first | (simp; done) | simp [State.held]

@[simp] theorem State.watchdogExpiry_tapeState (s : State) : (s.watchdogExpiry).tapeState = s.tapeState := by
  unfold State.watchdogExpiry <;> (try dsimp only) <;> (repeat' split) <;> first | (simp; done) | simp [State.tapeState]

@[simp] theorem State.watchdogExpiry_held (s : State) : (s.watchdogExpiry).held = s.held := by
  unfold State.watchdogExpiry <;> (try dsimp only) <;> (repeat' split) <;> first | (simp; done) | simp [State.held]

theorem State.motorStop_core (s t : State) (h : s.motorStop = some t) : t.core = s.core := by
  revert h; unfold State.motorStop; split <;> intro h <;> cases h; simp

@[simp] theorem State.motorStop_getD_core (s : State) : ((s.motorStop).getD s).core = s.core := by
  cases h : s.motorStop with
  | none => rfl
  | some t => exact State.motorStop_core _ _ h

theorem State.motorStop_log (s t : State) (h : s.motorStop = some t) : t.log = s.log := by
  revert h; unfold State.motorStop; split <;> intro h <;> cases h; simp

@[simp] theorem State.motorStop_getD_log (s : State) : ((s.motorStop).getD s).log = s.log := by
  cases h : s.motorStop with
  | none => rfl
  | some t => exact State.motorStop_log _ _ h

theorem State.motorStop_shelf (s t : State) (h : s.motorStop = some t) : t.shelf = s.shelf := by
  revert h; unfold State.motorStop; split <;> intro h <;> cases h; simp

@[simp] theorem State.motorStop_getD_shelf (s : State) : ((s.motorStop).getD s).shelf = s.shelf := by
  cases h : s.motorStop with
  | none => rfl
  | some t => exact State.motorStop_shelf _ _ h

theorem State.motorStop_tapeState (s t : State) (h : s.motorStop = some t) : t.tapeState = s.tapeState := by
  revert h; unfold State.motorStop; split <;> intro h <;> cases h; simp

@[simp] theorem State.motorStop_getD_tapeState (s : State) : ((s.motorStop).getD s).tapeState = s.tapeState := by
  cases h : s.motorStop with
  | none => rfl
  | some t => exact State.motorStop_tapeState _ _ h

theorem State.motorStop_held (s t : State) (h : s.motorStop = some t) : t.held = s.held := by
  revert h; unfold State.motorStop; split <;> intro h <;> cases h; simp

@[simp] theorem State.motorStop_getD_held (s : State) : ((s.motorStop).getD s).held = s.held := by
  cases h : s.motorStop with
  | none => rfl
  | some t => exact State.motorStop_held _ _ h

@[simp] theorem State.writeTranslate_core (first : Byte) (data : List Byte) (s : State) : (s.writeTranslate first data).1.core = s.core := by
  unfold State.writeTranslate <;> (try dsimp only) <;> (repeat' split) <;> first | (simp; done) | simp [State.core]

@[simp] theorem State.writeTranslate_log (first : Byte) (data : List Byte) (s : State) : (s.writeTranslate first data).1.log = s.log := by
  unfold State.writeTranslate <;> (try dsimp only) <;> (repeat' split) <;> first | (simp; done) | simp [State.log]

@[simp] theorem State.writeTranslate_shelf (first : Byte) (data : List Byte) (s : State) : (s.writeTranslate first data).1.shelf = s.shelf := by
  unfold State.writeTranslate <;> (try dsimp only) <;> (repeat' split) <;> first | (simp; done) | simp [State.shelf]

@[simp] theorem State.writeTranslate_tapeState (first : Byte) (data : List Byte) (s : State) : (s.writeTranslate first data).1.tapeState = s.tapeState := by
  unfold State.writeTranslate <;> (try dsimp only) <;> (repeat' split) <;> first | (simp; done) | simp [State.tapeState]

@[simp] theorem State.writeTranslate_held (first : Byte) (data : List Byte) (s : State) : (s.writeTranslate first data).1.held = s.held := by
  unfold State.writeTranslate <;> (try dsimp only) <;> (repeat' split) <;> first | (simp; done) | simp [State.held]

@[simp] theorem State.writeRoute_core (first : Byte) (data : List Byte) (s : State) : (s.writeRoute first data).1.core = s.core := by
  unfold State.writeRoute <;> (try dsimp only) <;> (repeat' split) <;> first | (simp; done) | simp [State.core]

@[simp] theorem State.writeRoute_log (first : Byte) (data : List Byte) (s : State) : (s.writeRoute first data).1.log = s.log := by
  unfold State.writeRoute <;> (try dsimp only) <;> (repeat' split) <;> first | (simp; done) | simp [State.log]

@[simp] theorem State.writeRoute_tapeState (first : Byte) (data : List Byte) (s : State) : (s.writeRoute first data).1.tapeState = s.tapeState := by
  unfold State.writeRoute <;> (try dsimp only) <;> (repeat' split) <;> first | (simp; done) | simp [State.tapeState]

@[simp] theorem State.writeRoute_held (first : Byte) (data : List Byte) (s : State) : (s.writeRoute first data).1.held = s.held := by
  unfold State.writeRoute <;> (try dsimp only) <;> (repeat' split) <;> first | (simp; done) | simp [State.held]

@[simp] theorem State.writeSequence_core (first : Byte) (data : List Byte) (s : State) : (s.writeSequence first data).1.core = s.core := by
  unfold State.writeSequence <;> (try dsimp only) <;> (repeat' split) <;> first | (simp; done) | simp [State.core]

@[simp] theorem State.writeSequence_log (first : Byte) (data : List Byte) (s : State) : (s.writeSequence first data).1.log = s.log := by
  unfold State.writeSequence <;> (try dsimp only) <;> (repeat' split) <;> first | (simp; done) | simp [State.log]

@[simp] theorem State.writeSequence_shelf (first : Byte) (data : List Byte) (s : State) : (s.writeSequence first data).1.shelf = s.shelf := by
  unfold State.writeSequence <;> (try dsimp only) <;> (repeat' split) <;> first | (simp; done) | simp [State.shelf]

@[simp] theorem State.writeSequence_tapeState (first : Byte) (data : List Byte) (s : State) : (s.writeSequence first data).1.tapeState = s.tapeState := by
  unfold State.writeSequence <;> (try dsimp only) <;> (repeat' split) <;> first | (simp; done) | simp [State.tapeState]

@[simp] theorem State.writeSequence_held (first : Byte) (data : List Byte) (s : State) : (s.writeSequence first data).1.held = s.held := by
  unfold State.writeSequence <;> (try dsimp only) <;> (repeat' split) <;> first | (simp; done) | simp [State.held]

@[simp] theorem State.writeKeymap_core (first : Byte) (data : List Byte) (s : State) : (s.writeKeymap first data).1.core = s.core := by
  unfold State.writeKeymap <;> (try dsimp only) <;> (repeat' split) <;> first | (simp; done) | simp [State.core]

@[simp] theorem State.writeKeymap_log (first : Byte) (data : List Byte) (s : State) : (s.writeKeymap first data).1.log = s.log := by
  unfold State.writeKeymap <;> (try dsimp only) <;> (repeat' split) <;> first | (simp; done) | simp [State.log]

@[simp] theorem State.writeKeymap_shelf (first : Byte) (data : List Byte) (s : State) : (s.writeKeymap first data).1.shelf = s.shelf := by
  unfold State.writeKeymap <;> (try dsimp only) <;> (repeat' split) <;> first | (simp; done) | simp [State.shelf]

@[simp] theorem State.writeKeymap_tapeState (first : Byte) (data : List Byte) (s : State) : (s.writeKeymap first data).1.tapeState = s.tapeState := by
  unfold State.writeKeymap <;> (try dsimp only) <;> (repeat' split) <;> first | (simp; done) | simp [State.tapeState]

@[simp] theorem State.writeKeymap_held (first : Byte) (data : List Byte) (s : State) : (s.writeKeymap first data).1.held = s.held := by
  unfold State.writeKeymap <;> (try dsimp only) <;> (repeat' split) <;> first | (simp; done) | simp [State.held]

@[simp] theorem State.writeAnswerback_core (first : Byte) (data : List Byte) (s : State) : (s.writeAnswerback first data).1.core = s.core := by
  unfold State.writeAnswerback <;> (try dsimp only) <;> (repeat' split) <;> first | (simp; done) | simp [State.core]

@[simp] theorem State.writeAnswerback_log (first : Byte) (data : List Byte) (s : State) : (s.writeAnswerback first data).1.log = s.log := by
  unfold State.writeAnswerback <;> (try dsimp only) <;> (repeat' split) <;> first | (simp; done) | simp [State.log]

@[simp] theorem State.writeAnswerback_shelf (first : Byte) (data : List Byte) (s : State) : (s.writeAnswerback first data).1.shelf = s.shelf := by
  unfold State.writeAnswerback <;> (try dsimp only) <;> (repeat' split) <;> first | (simp; done) | simp [State.shelf]

@[simp] theorem State.writeAnswerback_tapeState (first : Byte) (data : List Byte) (s : State) : (s.writeAnswerback first data).1.tapeState = s.tapeState := by
  unfold State.writeAnswerback <;> (try dsimp only) <;> (repeat' split) <;> first | (simp; done) | simp [State.tapeState]

@[simp] theorem State.writeAnswerback_held (first : Byte) (data : List Byte) (s : State) : (s.writeAnswerback first data).1.held = s.held := by
  unfold State.writeAnswerback <;> (try dsimp only) <;> (repeat' split) <;> first | (simp; done) | simp [State.held]

@[simp] theorem State.applySettings_core (first : Byte) (n : Nat) (new : List Nat) (s : State) : (s.applySettings first n new).core = s.core := by
  unfold State.applySettings <;> (try dsimp only) <;> (repeat' split) <;> first | (simp; done) | simp [State.core]

@[simp] theorem State.applySettings_log (first : Byte) (n : Nat) (new : List Nat) (s : State) : (s.applySettings first n new).log = s.log := by
  unfold State.applySettings <;> (try dsimp only) <;> (repeat' split) <;> first | (simp; done) | simp [State.log]

@[simp] theorem State.writeSettings_core (first : Byte) (data : List Byte) (s : State) : (s.writeSettings first data).1.core = s.core := by
  unfold State.writeSettings <;> (try dsimp only) <;> (repeat' split) <;> first | (simp; done) | simp [State.core]

@[simp] theorem State.writeSettings_log (first : Byte) (data : List Byte) (s : State) : (s.writeSettings first data).1.log = s.log := by
  unfold State.writeSettings <;> (try dsimp only) <;> (repeat' split) <;> first | (simp; done) | simp [State.log]

@[simp] theorem State.writeSignals_core (first : Byte) (data : List Byte) (s : State) : (s.writeSignals first data).1.core = s.core := by
  unfold State.writeSignals <;> (try dsimp only) <;> (repeat' split) <;> first | (simp; done) | simp [State.core]

@[simp] theorem State.writeSignals_log (first : Byte) (data : List Byte) (s : State) : (s.writeSignals first data).1.log = s.log := by
  unfold State.writeSignals <;> (try dsimp only) <;> (repeat' split) <;> first | (simp; done) | simp [State.log]

@[simp] theorem State.writeSignals_shelf (first : Byte) (data : List Byte) (s : State) : (s.writeSignals first data).1.shelf = s.shelf := by
  unfold State.writeSignals <;> (try dsimp only) <;> (repeat' split) <;> first | (simp; done) | simp [State.shelf]

@[simp] theorem State.writeSignals_tapeState (first : Byte) (data : List Byte) (s : State) : (s.writeSignals first data).1.tapeState = s.tapeState := by
  unfold State.writeSignals <;> (try dsimp only) <;> (repeat' split) <;> first | (simp; done) | simp [State.tapeState]

@[simp] theorem State.writeSignals_held (first : Byte) (data : List Byte) (s : State) : (s.writeSignals first data).1.held = s.held := by
  unfold State.writeSignals <;> (try dsimp only) <;> (repeat' split) <;> first | (simp; done) | simp [State.held]

@[simp] theorem State.readTable_core (body : List Byte) (s : State) : (s.readTable body).1.core = s.core := by
  unfold State.readTable <;> (try dsimp only) <;> (repeat' split) <;> first | (simp; done) | simp [State.core]

@[simp] theorem State.readTable_log (body : List Byte) (s : State) : (s.readTable body).1.log = s.log := by
  unfold State.readTable <;> (try dsimp only) <;> (repeat' split) <;> first | (simp; done) | simp [State.log]

@[simp] theorem State.readTable_shelf (body : List Byte) (s : State) : (s.readTable body).1.shelf = s.shelf := by
  unfold State.readTable <;> (try dsimp only) <;> (repeat' split) <;> first | (simp; done) | simp [State.shelf]

@[simp] theorem State.readTable_tapeState (body : List Byte) (s : State) : (s.readTable body).1.tapeState = s.tapeState := by
  unfold State.readTable <;> (try dsimp only) <;> (repeat' split) <;> first | (simp; done) | simp [State.tapeState]

@[simp] theorem State.readTable_held (body : List Byte) (s : State) : (s.readTable body).1.held = s.held := by
  unfold State.readTable <;> (try dsimp only) <;> (repeat' split) <;> first | (simp; done) | simp [State.held]

@[simp] theorem State.statusFrame_core (body : List Byte) (s : State) : (s.statusFrame body).1.core = s.core := by
  unfold State.statusFrame <;> (try dsimp only) <;> (repeat' split) <;> first | (simp; done) | simp [State.core]

@[simp] theorem State.statusFrame_log (body : List Byte) (s : State) : (s.statusFrame body).1.log = s.log := by
  unfold State.statusFrame <;> (try dsimp only) <;> (repeat' split) <;> first | (simp; done) | simp [State.log]

@[simp] theorem State.statusFrame_shelf (body : List Byte) (s : State) : (s.statusFrame body).1.shelf = s.shelf := by
  unfold State.statusFrame <;> (try dsimp only) <;> (repeat' split) <;> first | (simp; done) | simp [State.shelf]

@[simp] theorem State.statusFrame_tapeState (body : List Byte) (s : State) : (s.statusFrame body).1.tapeState = s.tapeState := by
  unfold State.statusFrame <;> (try dsimp only) <;> (repeat' split) <;> first | (simp; done) | simp [State.tapeState]

@[simp] theorem State.statusFrame_held (body : List Byte) (s : State) : (s.statusFrame body).1.held = s.held := by
  unfold State.statusFrame <;> (try dsimp only) <;> (repeat' split) <;> first | (simp; done) | simp [State.held]

@[simp] theorem State.textFrame_core (chars : List Byte) (s : State) : (s.textFrame chars).1.core = s.core := by
  unfold State.textFrame <;> (try dsimp only) <;> (repeat' split) <;> first | (simp; done) | simp [State.core]

@[simp] theorem State.textFrame_log (chars : List Byte) (s : State) : (s.textFrame chars).1.log = s.log := by
  unfold State.textFrame <;> (try dsimp only) <;> (repeat' split) <;> first | (simp; done) | simp [State.log]

@[simp] theorem State.textFrame_shelf (chars : List Byte) (s : State) : (s.textFrame chars).1.shelf = s.shelf := by
  unfold State.textFrame <;> (try dsimp only) <;> (repeat' split) <;> first | (simp; done) | simp [State.shelf]

@[simp] theorem State.textFrame_tapeState (chars : List Byte) (s : State) : (s.textFrame chars).1.tapeState = s.tapeState := by
  unfold State.textFrame <;> (try dsimp only) <;> (repeat' split) <;> first | (simp; done) | simp [State.tapeState]

@[simp] theorem State.textFrame_held (chars : List Byte) (s : State) : (s.textFrame chars).1.held = s.held := by
  unfold State.textFrame <;> (try dsimp only) <;> (repeat' split) <;> first | (simp; done) | simp [State.held]

@[simp] theorem State.armSend_core (n : Nat) (s : State) : (s.armSend n).1.core = s.core := by
  unfold State.armSend <;> (try dsimp only) <;> (repeat' split) <;> first | (simp; done) | simp [State.core]

@[simp] theorem State.armSend_log (n : Nat) (s : State) : (s.armSend n).1.log = s.log := by
  unfold State.armSend <;> (try dsimp only) <;> (repeat' split) <;> first | (simp; done) | simp [State.log]

@[simp] theorem State.armSend_shelf (n : Nat) (s : State) : (s.armSend n).1.shelf = s.shelf := by
  unfold State.armSend <;> (try dsimp only) <;> (repeat' split) <;> first | (simp; done) | simp [State.shelf]

@[simp] theorem State.armSend_tapeState (n : Nat) (s : State) : (s.armSend n).1.tapeState = s.tapeState := by
  unfold State.armSend <;> (try dsimp only) <;> (repeat' split) <;> first | (simp; done) | simp [State.tapeState]

@[simp] theorem State.armSend_held (n : Nat) (s : State) : (s.armSend n).1.held = s.held := by
  unfold State.armSend <;> (try dsimp only) <;> (repeat' split) <;> first | (simp; done) | simp [State.held]

@[simp] theorem State.disarmSend_core (s : State) : (s.disarmSend).1.core = s.core := by
  unfold State.disarmSend <;> (try dsimp only) <;> (repeat' split) <;> first | (simp; done) | simp [State.core]

@[simp] theorem State.disarmSend_log (s : State) : (s.disarmSend).1.log = s.log := by
  unfold State.disarmSend <;> (try dsimp only) <;> (repeat' split) <;> first | (simp; done) | simp [State.log]

@[simp] theorem State.disarmSend_tapeState (s : State) : (s.disarmSend).1.tapeState = s.tapeState := by
  unfold State.disarmSend <;> (try dsimp only) <;> (repeat' split) <;> first | (simp; done) | simp [State.tapeState]

@[simp] theorem State.disarmSend_held (s : State) : (s.disarmSend).1.held = s.held := by
  unfold State.disarmSend <;> (try dsimp only) <;> (repeat' split) <;> first | (simp; done) | simp [State.held]

@[simp] theorem State.holdSend_core (on : Byte) (s : State) : (s.holdSend on).1.core = s.core := by
  unfold State.holdSend <;> (try dsimp only) <;> (repeat' split) <;> first | (simp; done) | simp [State.core]

@[simp] theorem State.holdSend_log (on : Byte) (s : State) : (s.holdSend on).1.log = s.log := by
  unfold State.holdSend <;> (try dsimp only) <;> (repeat' split) <;> first | (simp; done) | simp [State.log]

@[simp] theorem State.holdSend_shelf (on : Byte) (s : State) : (s.holdSend on).1.shelf = s.shelf := by
  unfold State.holdSend <;> (try dsimp only) <;> (repeat' split) <;> first | (simp; done) | simp [State.shelf]

@[simp] theorem State.holdSend_tapeState (on : Byte) (s : State) : (s.holdSend on).1.tapeState = s.tapeState := by
  unfold State.holdSend <;> (try dsimp only) <;> (repeat' split) <;> first | (simp; done) | simp [State.tapeState]

@[simp] theorem State.holdSend_held (on : Byte) (s : State) : (s.holdSend on).1.held = s.held := by
  unfold State.holdSend <;> (try dsimp only) <;> (repeat' split) <;> first | (simp; done) | simp [State.held]

@[simp] theorem State.armCapture_core (n f : Nat) (s : State) : (s.armCapture n f).1.core = s.core := by
  unfold State.armCapture <;> (try dsimp only) <;> (repeat' split) <;> first | (simp; done) | simp [State.core]

@[simp] theorem State.armCapture_log (n f : Nat) (s : State) : (s.armCapture n f).1.log = s.log := by
  unfold State.armCapture <;> (try dsimp only) <;> (repeat' split) <;> first | (simp; done) | simp [State.log]

@[simp] theorem State.armCapture_shelf (n f : Nat) (s : State) : (s.armCapture n f).1.shelf = s.shelf := by
  unfold State.armCapture <;> (try dsimp only) <;> (repeat' split) <;> first | (simp; done) | simp [State.shelf]

@[simp] theorem State.armCapture_tapeState (n f : Nat) (s : State) : (s.armCapture n f).1.tapeState = s.tapeState := by
  unfold State.armCapture <;> (try dsimp only) <;> (repeat' split) <;> first | (simp; done) | simp [State.tapeState]

@[simp] theorem State.armCapture_held (n f : Nat) (s : State) : (s.armCapture n f).1.held = s.held := by
  unfold State.armCapture <;> (try dsimp only) <;> (repeat' split) <;> first | (simp; done) | simp [State.held]

@[simp] theorem State.disarmCapture_core (s : State) : (s.disarmCapture).1.core = s.core := by
  unfold State.disarmCapture <;> (try dsimp only) <;> (repeat' split) <;> first | (simp; done) | simp [State.core]

@[simp] theorem State.disarmCapture_log (s : State) : (s.disarmCapture).1.log = s.log := by
  unfold State.disarmCapture <;> (try dsimp only) <;> (repeat' split) <;> first | (simp; done) | simp [State.log]

@[simp] theorem State.disarmCapture_tapeState (s : State) : (s.disarmCapture).1.tapeState = s.tapeState := by
  unfold State.disarmCapture <;> (try dsimp only) <;> (repeat' split) <;> first | (simp; done) | simp [State.tapeState]

@[simp] theorem State.disarmCapture_held (s : State) : (s.disarmCapture).1.held = s.held := by
  unfold State.disarmCapture <;> (try dsimp only) <;> (repeat' split) <;> first | (simp; done) | simp [State.held]

@[simp] theorem State.holdFrame_core (s : State) : (s.holdFrame).core = s.core := by
  unfold State.holdFrame <;> (try dsimp only) <;> (repeat' split) <;> first | (simp; done) | simp [State.core]

@[simp] theorem State.holdFrame_log (s : State) : (s.holdFrame).log = s.log := by
  unfold State.holdFrame <;> (try dsimp only) <;> (repeat' split) <;> first | (simp; done) | simp [State.log]

@[simp] theorem State.holdFrame_shelf (s : State) : (s.holdFrame).shelf = s.shelf := by
  unfold State.holdFrame <;> (try dsimp only) <;> (repeat' split) <;> first | (simp; done) | simp [State.shelf]

@[simp] theorem State.holdFrame_tapeState (s : State) : (s.holdFrame).tapeState = s.tapeState := by
  unfold State.holdFrame <;> (try dsimp only) <;> (repeat' split) <;> first | (simp; done) | simp [State.tapeState]

@[simp] theorem State.holdFrame_held (s : State) : (s.holdFrame).held = s.held := by
  unfold State.holdFrame <;> (try dsimp only) <;> (repeat' split) <;> first | (simp; done) | simp [State.held]

@[simp] theorem State.releaseFrame_core (s : State) : (s.releaseFrame).core = s.core := by
  unfold State.releaseFrame <;> (try dsimp only) <;> (repeat' split) <;> first | (simp; done) | simp [State.core]

@[simp] theorem State.releaseFrame_log (s : State) : (s.releaseFrame).log = s.log := by
  unfold State.releaseFrame <;> (try dsimp only) <;> (repeat' split) <;> first | (simp; done) | simp [State.log]

@[simp] theorem State.releaseFrame_shelf (s : State) : (s.releaseFrame).shelf = s.shelf := by
  unfold State.releaseFrame <;> (try dsimp only) <;> (repeat' split) <;> first | (simp; done) | simp [State.shelf]

@[simp] theorem State.releaseFrame_tapeState (s : State) : (s.releaseFrame).tapeState = s.tapeState := by
  unfold State.releaseFrame <;> (try dsimp only) <;> (repeat' split) <;> first | (simp; done) | simp [State.tapeState]

@[simp] theorem State.releaseFrame_held (s : State) : (s.releaseFrame).held = s.held := by
  unfold State.releaseFrame <;> (try dsimp only) <;> (repeat' split) <;> first | (simp; done) | simp [State.held]

@[simp] theorem State.holdCapture_core (on : Byte) (s : State) : (s.holdCapture on).1.core = s.core := by
  unfold State.holdCapture <;> (try dsimp only) <;> (repeat' split) <;> first | (simp; done) | simp [State.core]

@[simp] theorem State.holdCapture_log (on : Byte) (s : State) : (s.holdCapture on).1.log = s.log := by
  unfold State.holdCapture <;> (try dsimp only) <;> (repeat' split) <;> first | (simp; done) | simp [State.log]

@[simp] theorem State.holdCapture_shelf (on : Byte) (s : State) : (s.holdCapture on).1.shelf = s.shelf := by
  unfold State.holdCapture <;> (try dsimp only) <;> (repeat' split) <;> first | (simp; done) | simp [State.shelf]

@[simp] theorem State.holdCapture_tapeState (on : Byte) (s : State) : (s.holdCapture on).1.tapeState = s.tapeState := by
  unfold State.holdCapture <;> (try dsimp only) <;> (repeat' split) <;> first | (simp; done) | simp [State.tapeState]

@[simp] theorem State.holdCapture_held (on : Byte) (s : State) : (s.holdCapture on).1.held = s.held := by
  unfold State.holdCapture <;> (try dsimp only) <;> (repeat' split) <;> first | (simp; done) | simp [State.held]

@[simp] theorem State.flushExpiry_core (s : State) : (s.flushExpiry).core = s.core := by
  unfold State.flushExpiry <;> (try dsimp only) <;> (repeat' split) <;> first | (simp; done) | simp [State.core]

@[simp] theorem State.flushExpiry_log (s : State) : (s.flushExpiry).log = s.log := by
  unfold State.flushExpiry <;> (try dsimp only) <;> (repeat' split) <;> first | (simp; done) | simp [State.log]

@[simp] theorem State.flushExpiry_shelf (s : State) : (s.flushExpiry).shelf = s.shelf := by
  unfold State.flushExpiry <;> (try dsimp only) <;> (repeat' split) <;> first | (simp; done) | simp [State.shelf]

@[simp] theorem State.flushExpiry_tapeState (s : State) : (s.flushExpiry).tapeState = s.tapeState := by
  unfold State.flushExpiry <;> (try dsimp only) <;> (repeat' split) <;> first | (simp; done) | simp [State.tapeState]

@[simp] theorem State.flushExpiry_held (s : State) : (s.flushExpiry).held = s.held := by
  unfold State.flushExpiry <;> (try dsimp only) <;> (repeat' split) <;> first | (simp; done) | simp [State.held]

@[simp] theorem State.orderMode_tapeState (mode : Byte) (s : State) : (s.orderMode mode).1.tapeState = s.tapeState := by
  unfold State.orderMode <;> (try dsimp only) <;> (repeat' split) <;> first | (simp; done) | simp [State.tapeState]

@[simp] theorem State.orderMode_held (mode : Byte) (s : State) : (s.orderMode mode).1.held = s.held := by
  unfold State.orderMode <;> (try dsimp only) <;> (repeat' split) <;> first | (simp; done) | simp [State.held]

@[simp] theorem State.orderCall_core (chars : List Byte) (s : State) : (s.orderCall chars).1.core = s.core := by
  unfold State.orderCall <;> (try dsimp only) <;> (repeat' split) <;> first | (simp; done) | simp [State.core]

@[simp] theorem State.orderCall_log (chars : List Byte) (s : State) : (s.orderCall chars).1.log = s.log := by
  unfold State.orderCall <;> (try dsimp only) <;> (repeat' split) <;> first | (simp; done) | simp [State.log]

@[simp] theorem State.orderCall_tapeState (chars : List Byte) (s : State) : (s.orderCall chars).1.tapeState = s.tapeState := by
  unfold State.orderCall <;> (try dsimp only) <;> (repeat' split) <;> first | (simp; done) | simp [State.tapeState]

@[simp] theorem State.orderCall_held (chars : List Byte) (s : State) : (s.orderCall chars).1.held = s.held := by
  unfold State.orderCall <;> (try dsimp only) <;> (repeat' split) <;> first | (simp; done) | simp [State.held]

@[simp] theorem State.orderAnswerback_core (s : State) : (s.orderAnswerback).1.core = s.core := by
  unfold State.orderAnswerback <;> (try dsimp only) <;> (repeat' split) <;> first | (simp; done) | simp [State.core]

@[simp] theorem State.orderAnswerback_log (s : State) : (s.orderAnswerback).1.log = s.log := by
  unfold State.orderAnswerback <;> (try dsimp only) <;> (repeat' split) <;> first | (simp; done) | simp [State.log]

@[simp] theorem State.orderAnswerback_shelf (s : State) : (s.orderAnswerback).1.shelf = s.shelf := by
  unfold State.orderAnswerback <;> (try dsimp only) <;> (repeat' split) <;> first | (simp; done) | simp [State.shelf]

@[simp] theorem State.orderAnswerback_tapeState (s : State) : (s.orderAnswerback).1.tapeState = s.tapeState := by
  unfold State.orderAnswerback <;> (try dsimp only) <;> (repeat' split) <;> first | (simp; done) | simp [State.tapeState]

@[simp] theorem State.orderAnswerback_held (s : State) : (s.orderAnswerback).1.held = s.held := by
  unfold State.orderAnswerback <;> (try dsimp only) <;> (repeat' split) <;> first | (simp; done) | simp [State.held]

@[simp] theorem State.orderIdentify_core (s : State) : (s.orderIdentify).1.core = s.core := by
  unfold State.orderIdentify <;> (try dsimp only) <;> (repeat' split) <;> first | (simp; done) | simp [State.core]

@[simp] theorem State.orderIdentify_log (s : State) : (s.orderIdentify).1.log = s.log := by
  unfold State.orderIdentify <;> (try dsimp only) <;> (repeat' split) <;> first | (simp; done) | simp [State.log]

@[simp] theorem State.orderIdentify_shelf (s : State) : (s.orderIdentify).1.shelf = s.shelf := by
  unfold State.orderIdentify <;> (try dsimp only) <;> (repeat' split) <;> first | (simp; done) | simp [State.shelf]

@[simp] theorem State.orderIdentify_tapeState (s : State) : (s.orderIdentify).1.tapeState = s.tapeState := by
  unfold State.orderIdentify <;> (try dsimp only) <;> (repeat' split) <;> first | (simp; done) | simp [State.tapeState]

@[simp] theorem State.orderIdentify_held (s : State) : (s.orderIdentify).1.held = s.held := by
  unfold State.orderIdentify <;> (try dsimp only) <;> (repeat' split) <;> first | (simp; done) | simp [State.held]

@[simp] theorem State.orderPunchLeader_core (n : Byte) (s : State) : (s.orderPunchLeader n).1.core = s.core := by
  unfold State.orderPunchLeader State.grantOr
  (repeat' split) <;> simp <;> (rename_i h; exact State.punchLeader_core _ _ _ h)

@[simp] theorem State.orderPunchLeader_log (n : Byte) (s : State) : (s.orderPunchLeader n).1.log = s.log := by
  unfold State.orderPunchLeader State.grantOr
  (repeat' split) <;> simp <;> (rename_i h; exact State.punchLeader_log _ _ _ h)

@[simp] theorem State.orderPunchLeader_shelf (n : Byte) (s : State) : (s.orderPunchLeader n).1.shelf = s.shelf := by
  unfold State.orderPunchLeader State.grantOr
  (repeat' split) <;> simp <;> (rename_i h; exact State.punchLeader_shelf _ _ _ h)

@[simp] theorem State.orderPunchLeader_held (n : Byte) (s : State) : (s.orderPunchLeader n).1.held = s.held := by
  unfold State.orderPunchLeader State.grantOr
  (repeat' split) <;> simp <;> (rename_i h; exact State.punchLeader_held _ _ _ h)

@[simp] theorem State.orderTapeLoaded_core (n : BitVec 16) (s : State) : (s.orderTapeLoaded n).1.core = s.core := by
  unfold State.orderTapeLoaded <;> (try dsimp only) <;> (repeat' split) <;> first | (simp; done) | simp [State.core]

@[simp] theorem State.orderTapeLoaded_log (n : BitVec 16) (s : State) : (s.orderTapeLoaded n).1.log = s.log := by
  unfold State.orderTapeLoaded <;> (try dsimp only) <;> (repeat' split) <;> first | (simp; done) | simp [State.log]

@[simp] theorem State.orderTapeLoaded_held (n : BitVec 16) (s : State) : (s.orderTapeLoaded n).1.held = s.held := by
  unfold State.orderTapeLoaded <;> (try dsimp only) <;> (repeat' split) <;> first | (simp; done) | simp [State.held]

@[simp] theorem State.orderClearFaults_core (named : CondSet) (s : State) : (s.orderClearFaults named).1.core = s.core := by
  unfold State.orderClearFaults <;> (try dsimp only) <;> (repeat' split) <;> first | (simp; done) | simp [State.core]

@[simp] theorem State.orderClearFaults_log (named : CondSet) (s : State) : (s.orderClearFaults named).1.log = s.log := by
  unfold State.orderClearFaults <;> (try dsimp only) <;> (repeat' split) <;> first | (simp; done) | simp [State.log]

@[simp] theorem State.orderClearFaults_shelf (named : CondSet) (s : State) : (s.orderClearFaults named).1.shelf = s.shelf := by
  unfold State.orderClearFaults <;> (try dsimp only) <;> (repeat' split) <;> first | (simp; done) | simp [State.shelf]

@[simp] theorem State.orderClearFaults_tapeState (named : CondSet) (s : State) : (s.orderClearFaults named).1.tapeState = s.tapeState := by
  unfold State.orderClearFaults <;> (try dsimp only) <;> (repeat' split) <;> first | (simp; done) | simp [State.tapeState]

@[simp] theorem State.orderClearFaults_held (named : CondSet) (s : State) : (s.orderClearFaults named).1.held = s.held := by
  unfold State.orderClearFaults <;> (try dsimp only) <;> (repeat' split) <;> first | (simp; done) | simp [State.held]

@[simp] theorem State.orderNoticeMask_core (mask : BitVec 16) (s : State) : (s.orderNoticeMask mask).1.core = s.core := by
  unfold State.orderNoticeMask <;> (try dsimp only) <;> (repeat' split) <;> first | (simp; done) | simp [State.core]

@[simp] theorem State.orderNoticeMask_log (mask : BitVec 16) (s : State) : (s.orderNoticeMask mask).1.log = s.log := by
  unfold State.orderNoticeMask <;> (try dsimp only) <;> (repeat' split) <;> first | (simp; done) | simp [State.log]

@[simp] theorem State.orderNoticeMask_shelf (mask : BitVec 16) (s : State) : (s.orderNoticeMask mask).1.shelf = s.shelf := by
  unfold State.orderNoticeMask <;> (try dsimp only) <;> (repeat' split) <;> first | (simp; done) | simp [State.shelf]

@[simp] theorem State.orderNoticeMask_tapeState (mask : BitVec 16) (s : State) : (s.orderNoticeMask mask).1.tapeState = s.tapeState := by
  unfold State.orderNoticeMask <;> (try dsimp only) <;> (repeat' split) <;> first | (simp; done) | simp [State.tapeState]

@[simp] theorem State.orderNoticeMask_held (mask : BitVec 16) (s : State) : (s.orderNoticeMask mask).1.held = s.held := by
  unfold State.orderNoticeMask <;> (try dsimp only) <;> (repeat' split) <;> first | (simp; done) | simp [State.held]

@[simp] theorem State.orderCalibrate_core (s : State) : (s.orderCalibrate).1.core = s.core := by
  unfold State.orderCalibrate <;> (try dsimp only) <;> (repeat' split) <;> first | (simp; done) | simp [State.core]

@[simp] theorem State.orderCalibrate_log (s : State) : (s.orderCalibrate).1.log = s.log := by
  unfold State.orderCalibrate <;> (try dsimp only) <;> (repeat' split) <;> first | (simp; done) | simp [State.log]

@[simp] theorem State.orderCalibrate_shelf (s : State) : (s.orderCalibrate).1.shelf = s.shelf := by
  unfold State.orderCalibrate <;> (try dsimp only) <;> (repeat' split) <;> first | (simp; done) | simp [State.shelf]

@[simp] theorem State.orderCalibrate_tapeState (s : State) : (s.orderCalibrate).1.tapeState = s.tapeState := by
  unfold State.orderCalibrate <;> (try dsimp only) <;> (repeat' split) <;> first | (simp; done) | simp [State.tapeState]

@[simp] theorem State.orderCalibrate_held (s : State) : (s.orderCalibrate).1.held = s.held := by
  unfold State.orderCalibrate <;> (try dsimp only) <;> (repeat' split) <;> first | (simp; done) | simp [State.held]

@[simp] theorem State.orderLogDiscard_core (n : Byte) (s : State) : (s.orderLogDiscard n).1.core = s.core := by
  unfold State.orderLogDiscard <;> (try dsimp only) <;> (repeat' split) <;> first | (simp; done) | simp [State.core]

@[simp] theorem State.orderLogDiscard_shelf (n : Byte) (s : State) : (s.orderLogDiscard n).1.shelf = s.shelf := by
  unfold State.orderLogDiscard <;> (try dsimp only) <;> (repeat' split) <;> first | (simp; done) | simp [State.shelf]

@[simp] theorem State.orderLogDiscard_tapeState (n : Byte) (s : State) : (s.orderLogDiscard n).1.tapeState = s.tapeState := by
  unfold State.orderLogDiscard <;> (try dsimp only) <;> (repeat' split) <;> first | (simp; done) | simp [State.tapeState]

@[simp] theorem State.orderLogDiscard_held (n : Byte) (s : State) : (s.orderLogDiscard n).1.held = s.held := by
  unfold State.orderLogDiscard <;> (try dsimp only) <;> (repeat' split) <;> first | (simp; done) | simp [State.held]

@[simp] theorem State.refillFaults_core (s : State) : (s.refillFaults).core = s.core := by
  unfold State.refillFaults <;> (try dsimp only) <;> (repeat' split) <;> first | (simp; done) | simp [State.core]

@[simp] theorem State.refillFaults_log (s : State) : (s.refillFaults).log = s.log := by
  unfold State.refillFaults <;> (try dsimp only) <;> (repeat' split) <;> first | (simp; done) | simp [State.log]

@[simp] theorem State.refillFaults_shelf (s : State) : (s.refillFaults).shelf = s.shelf := by
  unfold State.refillFaults <;> (try dsimp only) <;> (repeat' split) <;> first | (simp; done) | simp [State.shelf]

@[simp] theorem State.refillFaults_tapeState (s : State) : (s.refillFaults).tapeState = s.tapeState := by
  unfold State.refillFaults <;> (try dsimp only) <;> (repeat' split) <;> first | (simp; done) | simp [State.tapeState]

@[simp] theorem State.refillFaults_held (s : State) : (s.refillFaults).held = s.held := by
  unfold State.refillFaults <;> (try dsimp only) <;> (repeat' split) <;> first | (simp; done) | simp [State.held]

@[simp] theorem State.noteRefill_core (s : State) : (s.noteRefill).core = s.core := by
  unfold State.noteRefill <;> (try dsimp only) <;> (repeat' split) <;> first | (simp; done) | simp [State.core]

@[simp] theorem State.noteRefill_log (s : State) : (s.noteRefill).log = s.log := by
  unfold State.noteRefill <;> (try dsimp only) <;> (repeat' split) <;> first | (simp; done) | simp [State.log]

@[simp] theorem State.noteRefill_shelf (s : State) : (s.noteRefill).shelf = s.shelf := by
  unfold State.noteRefill <;> (try dsimp only) <;> (repeat' split) <;> first | (simp; done) | simp [State.shelf]

@[simp] theorem State.noteRefill_tapeState (s : State) : (s.noteRefill).tapeState = s.tapeState := by
  unfold State.noteRefill <;> (try dsimp only) <;> (repeat' split) <;> first | (simp; done) | simp [State.tapeState]

@[simp] theorem State.noteRefill_held (s : State) : (s.noteRefill).held = s.held := by
  unfold State.noteRefill <;> (try dsimp only) <;> (repeat' split) <;> first | (simp; done) | simp [State.held]

@[simp] theorem State.offerIfCalled_core (s : State) : (s.offerIfCalled).core = s.core := by
  unfold State.offerIfCalled <;> (try dsimp only) <;> (repeat' split) <;> first | (simp; done) | simp [State.core]

@[simp] theorem State.offerIfCalled_log (s : State) : (s.offerIfCalled).log = s.log := by
  unfold State.offerIfCalled <;> (try dsimp only) <;> (repeat' split) <;> first | (simp; done) | simp [State.log]

@[simp] theorem State.offerIfCalled_tapeState (s : State) : (s.offerIfCalled).tapeState = s.tapeState := by
  unfold State.offerIfCalled <;> (try dsimp only) <;> (repeat' split) <;> first | (simp; done) | simp [State.tapeState]

@[simp] theorem State.offerIfCalled_held (s : State) : (s.offerIfCalled).held = s.held := by
  unfold State.offerIfCalled <;> (try dsimp only) <;> (repeat' split) <;> first | (simp; done) | simp [State.held]

@[simp] theorem State.endReset_core (warm : Bool) (closed : Option CallRecord) (s : State) : (s.endReset warm closed).core = s.core := by
  unfold State.endReset <;> (try dsimp only) <;> (repeat' split) <;> first | (simp; done) | simp [State.core]

@[simp] theorem State.endReset_log (warm : Bool) (closed : Option CallRecord) (s : State) : (s.endReset warm closed).log = s.log := by
  unfold State.endReset <;> (try dsimp only) <;> (repeat' split) <;> first | (simp; done) | simp [State.log]

@[simp] theorem State.endReset_tapeState (warm : Bool) (closed : Option CallRecord) (s : State) : (s.endReset warm closed).tapeState = s.tapeState := by
  unfold State.endReset <;> (try dsimp only) <;> (repeat' split) <;> first | (simp; done) | simp [State.tapeState]

@[simp] theorem State.endReset_held (warm : Bool) (closed : Option CallRecord) (s : State) : (s.endReset warm closed).held = s.held := by
  unfold State.endReset <;> (try dsimp only) <;> (repeat' split) <;> first | (simp; done) | simp [State.held]

@[simp] theorem State.printerAtReset_core (s : State) : (s.printerAtReset).core = s.core := by
  unfold State.printerAtReset <;> (try dsimp only) <;> (repeat' split) <;> first | (simp; done) | simp [State.core]

@[simp] theorem State.printerAtReset_log (s : State) : (s.printerAtReset).log = s.log := by
  unfold State.printerAtReset <;> (try dsimp only) <;> (repeat' split) <;> first | (simp; done) | simp [State.log]

@[simp] theorem State.printerAtReset_tapeState (s : State) : (s.printerAtReset).tapeState = s.tapeState := by
  unfold State.printerAtReset <;> (try dsimp only) <;> (repeat' split) <;> first | (simp; done) | simp [State.tapeState]

@[simp] theorem State.printerAtReset_held (s : State) : (s.printerAtReset).held = s.held := by
  unfold State.printerAtReset <;> (try dsimp only) <;> (repeat' split) <;> first | (simp; done) | simp [State.held]

@[simp] theorem State.warmLine_core (s : State) : (s.warmLine).core = s.core := by
  unfold State.warmLine <;> (try dsimp only) <;> (repeat' split) <;> first | (simp; done) | simp [State.core]

@[simp] theorem State.warmLine_log (s : State) : (s.warmLine).log = s.log := by
  unfold State.warmLine <;> (try dsimp only) <;> (repeat' split) <;> first | (simp; done) | simp [State.log]

@[simp] theorem State.warmLine_tapeState (s : State) : (s.warmLine).tapeState = s.tapeState := by
  unfold State.warmLine <;> (try dsimp only) <;> (repeat' split) <;> first | (simp; done) | simp [State.tapeState]

@[simp] theorem State.warmLine_held (s : State) : (s.warmLine).held = s.held := by
  unfold State.warmLine <;> (try dsimp only) <;> (repeat' split) <;> first | (simp; done) | simp [State.held]

@[simp] theorem State.warmTraffic_core (s : State) : (s.warmTraffic).core = s.core := by
  unfold State.warmTraffic <;> (try dsimp only) <;> (repeat' split) <;> first | (simp; done) | simp [State.core]

@[simp] theorem State.warmTraffic_log (s : State) : (s.warmTraffic).log = s.log := by
  unfold State.warmTraffic <;> (try dsimp only) <;> (repeat' split) <;> first | (simp; done) | simp [State.log]

@[simp] theorem State.warmTraffic_tapeState (s : State) : (s.warmTraffic).tapeState = s.tapeState := by
  unfold State.warmTraffic <;> (try dsimp only) <;> (repeat' split) <;> first | (simp; done) | simp [State.tapeState]

@[simp] theorem State.warmTraffic_held (s : State) : (s.warmTraffic).held = s.held := by
  unfold State.warmTraffic <;> (try dsimp only) <;> (repeat' split) <;> first | (simp; done) | simp [State.held]

@[simp] theorem State.warmKeys_core (s : State) : (s.warmKeys).core = s.core := by
  unfold State.warmKeys <;> (try dsimp only) <;> (repeat' split) <;> first | (simp; done) | simp [State.core]

@[simp] theorem State.warmKeys_log (s : State) : (s.warmKeys).log = s.log := by
  unfold State.warmKeys <;> (try dsimp only) <;> (repeat' split) <;> first | (simp; done) | simp [State.log]

@[simp] theorem State.warmKeys_shelf (s : State) : (s.warmKeys).shelf = s.shelf := by
  unfold State.warmKeys <;> (try dsimp only) <;> (repeat' split) <;> first | (simp; done) | simp [State.shelf]

@[simp] theorem State.warmKeys_tapeState (s : State) : (s.warmKeys).tapeState = s.tapeState := by
  unfold State.warmKeys <;> (try dsimp only) <;> (repeat' split) <;> first | (simp; done) | simp [State.tapeState]

@[simp] theorem State.warmKeys_held (s : State) : (s.warmKeys).held = s.held := by
  unfold State.warmKeys <;> (try dsimp only) <;> (repeat' split) <;> first | (simp; done) | simp [State.held]

@[simp] theorem State.warmMechanism_core (s : State) : (s.warmMechanism).core = s.core := by
  unfold State.warmMechanism <;> (try dsimp only) <;> (repeat' split) <;> first | (simp; done) | simp [State.core]

@[simp] theorem State.warmMechanism_log (s : State) : (s.warmMechanism).log = s.log := by
  unfold State.warmMechanism <;> (try dsimp only) <;> (repeat' split) <;> first | (simp; done) | simp [State.log]

@[simp] theorem State.warmMechanism_shelf (s : State) : (s.warmMechanism).shelf = s.shelf := by
  unfold State.warmMechanism <;> (try dsimp only) <;> (repeat' split) <;> first | (simp; done) | simp [State.shelf]

@[simp] theorem State.warmMechanism_held (s : State) : (s.warmMechanism).held = s.held := by
  unfold State.warmMechanism <;> (try dsimp only) <;> (repeat' split) <;> first | (simp; done) | simp [State.held]

@[simp] theorem State.warmStation_shelf (closed : Option CallRecord) (s : State) : (s.warmStation closed).shelf = s.shelf := by
  unfold State.warmStation <;> (try dsimp only) <;> (repeat' split) <;> first | (simp; done) | simp [State.shelf]

@[simp] theorem State.warmStation_tapeState (closed : Option CallRecord) (s : State) : (s.warmStation closed).tapeState = s.tapeState := by
  unfold State.warmStation <;> (try dsimp only) <;> (repeat' split) <;> first | (simp; done) | simp [State.tapeState]

@[simp] theorem State.warmStation_held (closed : Option CallRecord) (s : State) : (s.warmStation closed).held = s.held := by
  unfold State.warmStation <;> (try dsimp only) <;> (repeat' split) <;> first | (simp; done) | simp [State.held]

@[simp] theorem State.warmLink_core (s : State) : (s.warmLink).core = s.core := by
  unfold State.warmLink <;> (try dsimp only) <;> (repeat' split) <;> first | (simp; done) | simp [State.core]

@[simp] theorem State.warmLink_log (s : State) : (s.warmLink).log = s.log := by
  unfold State.warmLink <;> (try dsimp only) <;> (repeat' split) <;> first | (simp; done) | simp [State.log]

@[simp] theorem State.warmLink_shelf (s : State) : (s.warmLink).shelf = s.shelf := by
  unfold State.warmLink <;> (try dsimp only) <;> (repeat' split) <;> first | (simp; done) | simp [State.shelf]

@[simp] theorem State.warmLink_tapeState (s : State) : (s.warmLink).tapeState = s.tapeState := by
  unfold State.warmLink <;> (try dsimp only) <;> (repeat' split) <;> first | (simp; done) | simp [State.tapeState]

@[simp] theorem State.warmLink_held (s : State) : (s.warmLink).held = s.held := by
  unfold State.warmLink <;> (try dsimp only) <;> (repeat' split) <;> first | (simp; done) | simp [State.held]

@[simp] theorem State.warmReset_held (s : State) : (s.warmReset).held = s.held := by
  unfold State.warmReset <;> (try dsimp only) <;> (repeat' split) <;> first | (simp; done) | simp [State.held]

@[simp] theorem State.beginFrame_core (f : OutFrame) (s : State) : (s.beginFrame f).core = s.core := by
  unfold State.beginFrame <;> (try dsimp only) <;> (repeat' split) <;> first | (simp; done) | simp [State.core]

@[simp] theorem State.beginFrame_log (f : OutFrame) (s : State) : (s.beginFrame f).log = s.log := by
  unfold State.beginFrame <;> (try dsimp only) <;> (repeat' split) <;> first | (simp; done) | simp [State.log]

@[simp] theorem State.beginFrame_shelf (f : OutFrame) (s : State) : (s.beginFrame f).shelf = s.shelf := by
  unfold State.beginFrame <;> (try dsimp only) <;> (repeat' split) <;> first | (simp; done) | simp [State.shelf]

@[simp] theorem State.beginFrame_tapeState (f : OutFrame) (s : State) : (s.beginFrame f).tapeState = s.tapeState := by
  unfold State.beginFrame <;> (try dsimp only) <;> (repeat' split) <;> first | (simp; done) | simp [State.tapeState]

@[simp] theorem State.beginFrame_held (f : OutFrame) (s : State) : (s.beginFrame f).held = s.held := by
  unfold State.beginFrame <;> (try dsimp only) <;> (repeat' split) <;> first | (simp; done) | simp [State.held]

@[simp] theorem State.sendData_core (s : State) : (s.sendData).core = s.core := by
  unfold State.sendData <;> (try dsimp only) <;> (repeat' split) <;> first | (simp; done) | simp [State.core]

@[simp] theorem State.sendData_log (s : State) : (s.sendData).log = s.log := by
  unfold State.sendData <;> (try dsimp only) <;> (repeat' split) <;> first | (simp; done) | simp [State.log]

@[simp] theorem State.sendData_tapeState (s : State) : (s.sendData).tapeState = s.tapeState := by
  unfold State.sendData <;> (try dsimp only) <;> (repeat' split) <;> first | (simp; done) | simp [State.tapeState]

@[simp] theorem State.sendData_held (s : State) : (s.sendData).held = s.held := by
  unfold State.sendData <;> (try dsimp only) <;> (repeat' split) <;> first | (simp; done) | simp [State.held]

@[simp] theorem State.sendNotice_core (n : Notice) (s : State) : (s.sendNotice n).core = s.core := by
  unfold State.sendNotice <;> (try dsimp only) <;> (repeat' split) <;> first | (simp; done) | simp [State.core]

@[simp] theorem State.sendNotice_log (n : Notice) (s : State) : (s.sendNotice n).log = s.log := by
  unfold State.sendNotice <;> (try dsimp only) <;> (repeat' split) <;> first | (simp; done) | simp [State.log]

@[simp] theorem State.sendNotice_shelf (n : Notice) (s : State) : (s.sendNotice n).shelf = s.shelf := by
  unfold State.sendNotice <;> (try dsimp only) <;> (repeat' split) <;> first | (simp; done) | simp [State.shelf]

@[simp] theorem State.sendNotice_tapeState (n : Notice) (s : State) : (s.sendNotice n).tapeState = s.tapeState := by
  unfold State.sendNotice <;> (try dsimp only) <;> (repeat' split) <;> first | (simp; done) | simp [State.tapeState]

@[simp] theorem State.sendNotice_held (n : Notice) (s : State) : (s.sendNotice n).held = s.held := by
  unfold State.sendNotice <;> (try dsimp only) <;> (repeat' split) <;> first | (simp; done) | simp [State.held]

theorem State.linkTake_core (s t : State) (h : s.linkTake = some t) : t.core = s.core := by
  unfold State.linkTake at h; (try dsimp only at h)
  (repeat' split at h) <;> first
    | (cases h; done)
    | (cases h; simp; done)
    | (obtain ⟨a, ha, rfl⟩ := Option.map_eq_some_iff.mp h; simp)

@[simp] theorem State.linkTake_getD_core (s : State) : ((s.linkTake).getD s).core = s.core := by
  cases h : s.linkTake with
  | none => rfl
  | some t => exact State.linkTake_core _ _ h

theorem State.linkTake_log (s t : State) (h : s.linkTake = some t) : t.log = s.log := by
  unfold State.linkTake at h; (try dsimp only at h)
  (repeat' split at h) <;> first
    | (cases h; done)
    | (cases h; simp; done)
    | (obtain ⟨a, ha, rfl⟩ := Option.map_eq_some_iff.mp h; simp)

@[simp] theorem State.linkTake_getD_log (s : State) : ((s.linkTake).getD s).log = s.log := by
  cases h : s.linkTake with
  | none => rfl
  | some t => exact State.linkTake_log _ _ h

theorem State.linkTake_tapeState (s t : State) (h : s.linkTake = some t) : t.tapeState = s.tapeState := by
  unfold State.linkTake at h; (try dsimp only at h)
  (repeat' split at h) <;> first
    | (cases h; done)
    | (cases h; simp; done)
    | (obtain ⟨a, ha, rfl⟩ := Option.map_eq_some_iff.mp h; simp)

@[simp] theorem State.linkTake_getD_tapeState (s : State) : ((s.linkTake).getD s).tapeState = s.tapeState := by
  cases h : s.linkTake with
  | none => rfl
  | some t => exact State.linkTake_tapeState _ _ h

theorem State.linkTake_held (s t : State) (h : s.linkTake = some t) : t.held = s.held := by
  unfold State.linkTake at h; (try dsimp only at h)
  (repeat' split at h) <;> first
    | (cases h; done)
    | (cases h; simp; done)
    | (obtain ⟨a, ha, rfl⟩ := Option.map_eq_some_iff.mp h; simp)

@[simp] theorem State.linkTake_getD_held (s : State) : ((s.linkTake).getD s).held = s.held := by
  cases h : s.linkTake with
  | none => rfl
  | some t => exact State.linkTake_held _ _ h

@[simp] theorem State.frameSent_held (rate : BitVec 2) (s : State) : (s.frameSent rate).held = s.held := by
  unfold State.frameSent <;> (try dsimp only) <;> (repeat' split) <;> first | (simp; done) | simp [State.held]

/-- One unit of time on HOST_RX touches the frame receiver, the wire and the queue alone (R189). -/
theorem State.hostRxTick_frame (s : State) :
    s.hostRxTick = { s with
      link := { s.link with rx := s.hostRxTick.link.rx, gap := s.hostRxTick.link.gap }
      hostRx := s.hostRxTick.hostRx
      pending := s.hostRxTick.pending } := by
  unfold State.hostRxTick State.receiveByte
  (repeat' split) <;> rfl

@[simp] theorem State.hostRxTick_core (s : State) : (s.hostRxTick).core = s.core := by
  rw [State.hostRxTick_frame]; rfl

@[simp] theorem State.hostRxTick_log (s : State) : (s.hostRxTick).log = s.log := by
  rw [State.hostRxTick_frame]; rfl

@[simp] theorem State.hostRxTick_shelf (s : State) : (s.hostRxTick).shelf = s.shelf := by
  rw [State.hostRxTick_frame]; rfl

@[simp] theorem State.hostRxTick_tapeState (s : State) : (s.hostRxTick).tapeState = s.tapeState := by
  rw [State.hostRxTick_frame]; rfl

@[simp] theorem State.hostRxTick_settings (s : State) : (s.hostRxTick).settings = s.settings := by
  rw [State.hostRxTick_frame]

@[simp] theorem State.timersTick_core (s : State) : (s.timersTick).core = s.core := by
  unfold State.timersTick <;> (try dsimp only) <;> first | (simp; done) | simp [State.core]

@[simp] theorem State.timersTick_log (s : State) : (s.timersTick).log = s.log := by
  unfold State.timersTick <;> (try dsimp only) <;> first | (simp; done) | simp [State.log]

@[simp] theorem State.timersTick_shelf (s : State) : (s.timersTick).shelf = s.shelf := by
  unfold State.timersTick <;> (try dsimp only) <;> first | (simp; done) | simp [State.shelf]

@[simp] theorem State.timersTick_tapeState (s : State) : (s.timersTick).tapeState = s.tapeState := by
  unfold State.timersTick <;> (try dsimp only) <;> first | (simp; done) | simp [State.tapeState]

@[simp] theorem State.timersTick_held (s : State) : (s.timersTick).held = s.held := by
  unfold State.timersTick <;> (try dsimp only) <;> first | (simp; done) | simp [State.held]

@[simp] theorem State.tick_core (s : State) : (s.tick).core = s.core := by
  unfold State.tick; split <;> simp

@[simp] theorem State.tick_log (s : State) : (s.tick).log = s.log := by
  unfold State.tick; split <;> simp

@[simp] theorem State.tick_shelf (s : State) : (s.tick).shelf = s.shelf := by
  unfold State.tick; split <;> simp

@[simp] theorem State.tick_tapeState (s : State) : (s.tick).tapeState = s.tapeState := by
  unfold State.tick; split <;> simp

/-- Time changes no setting; the queue it may lengthen, by the command of a frame that ends on HOST_RX (R189). -/
@[simp] theorem State.tick_settings (s : State) : (s.tick).settings = s.settings := by
  unfold State.tick
  split
  · rfl
  · rw [State.hostRxTick_settings]
    exact congrArg Prod.fst (State.timersTick_held s)

/-! ## Where the modes do change -/

theorem State.changeMode_core (new : Mode) (byWatchdog : Bool) (s : State) :
    (s.changeMode new byWatchdog).core = (new, s.station.restartPending, s.station.hostSilent) := by
  unfold State.changeMode; dsimp only
  split
  · rename_i h; rw [h]; rfl
  · (repeat' split) <;> simp <;> simp [State.core, State.note]

theorem State.coldReset_core (inputs : Inputs) (s : State) : (s.coldReset inputs).core = (.unattended, true, false) := by
  unfold State.coldReset State.coldState; split <;> simp <;> rfl

theorem State.warmStation_core (closed : Option CallRecord) (s : State) :
    (s.warmStation closed).core = (.unattended, true, false) := rfl

theorem State.warmReset_core (s : State) : s.warmReset.core = (.unattended, true, false) := by
  unfold State.warmReset; simp [State.warmStation_core]

theorem State.watchdogExpiry_core (s : State) :
    s.watchdogExpiry.core =
      if s.station.watchdog = none then s.core else (.unattended, s.station.restartPending, true) := by
  unfold State.watchdogExpiry
  cases s.station.watchdog with
  | none => rfl
  | some n =>
    simp [State.changeMode_core]
    unfold State.latch
    split <;> simp [State.note]

end Sys2Proof.Machine
end

