-- ==== Sys2Proof/Laws/Store.lean ====
section
/-! SUPPORT. The places of the traffic store: what can append an entry, and why the bound of R36 stands after every operation. -/

set_option linter.all false

namespace Sys2Proof.Machine

@[simp] theorem Bool.and_le_fst (a b : Bool) : (a && b) ≤ a := by cases a <;> cases b <;> decide

theorem State.storeBound_congr {s t : State} (e : t.shelf = s.shelf) (h : s.storeBound) : t.storeBound := by
  simp only [State.shelf, Prod.mk.injEq] at e
  simp only [State.storeBound, State.reserved] at *
  rw [e.1, e.2]; exact h

theorem foldl_bound {α : Type} (f : State → α → State) (hf : ∀ s x, s.storeBound → (f s x).storeBound) :
    ∀ (l : List α) (s : State), s.storeBound → (l.foldl f s).storeBound
  | [], _, h => h
  | x :: l, s, h => foldl_bound f hf l (f s x) (hf s x h)

@[simp] theorem releaseHeld_length (k : Sink) : ∀ (n : Nat) (es : List Entry), (releaseHeld k n es).length = es.length
  | 0, _ => by simp [releaseHeld]
  | _ + 1, [] => rfl
  | n + 1, e :: es => by
    unfold releaseHeld
    split <;> simp [releaseHeld_length k]

theorem State.sinkSet_congr {s t : State} (src : Source) (hm : t.station.mode = s.station.mode) (hr : t.route = s.route)
    (hp : t.printer.state = s.printer.state) (hu : t.punch.state = s.punch.state)
    (hc : t.link.capture.state = s.link.capture.state) (hs : t.settings = s.settings) : t.sinkSet src = s.sinkSet src := by
  simp [State.sinkSet, State.routeEntry, State.diversionApplies, State.attached, State.cfg, hm, hr, hp, hu, hc, hs]

@[simp] theorem State.modPins_bound (f) (s : State) : (s.modPins f).storeBound ↔ s.storeBound := Iff.rfl

@[simp] theorem State.modTranslate_bound (f) (s : State) : (s.modTranslate f).storeBound ↔ s.storeBound := Iff.rfl

@[simp] theorem State.modSettings_bound (f) (s : State) : (s.modSettings f).storeBound ↔ s.storeBound := Iff.rfl

@[simp] theorem State.modRx_bound (f) (s : State) : (s.modRx f).storeBound ↔ s.storeBound := Iff.rfl

@[simp] theorem State.modCal_bound (f) (s : State) : (s.modCal f).storeBound ↔ s.storeBound := Iff.rfl

@[simp] theorem State.modTx_bound (f) (s : State) (h : s.storeBound) (hf : ∀ t, (f t).reservation ≤ t.reservation) :
    (s.modTx f).storeBound := by
  simp only [State.storeBound, State.reserved, State.modTx_store, State.modTx_tx] at *
  have hf := hf s.tx
  revert h hf; cases (f s.tx).reservation <;> cases s.tx.reservation <;> simp <;> omega

@[simp] theorem State.modCall_bound (f) (s : State) : (s.modCall f).storeBound ↔ s.storeBound := Iff.rfl

@[simp] theorem State.modStore_bound (f) (s : State) (h : s.storeBound) (hf : ∀ t, (f t).entries.length ≤ t.entries.length) :
    (s.modStore f).storeBound := by
  simp only [State.storeBound, State.reserved, State.modStore_store, State.modStore_tx] at *
  have hf := hf s.store
  omega

@[simp] theorem State.modRoute_bound (f) (s : State) : (s.modRoute f).storeBound ↔ s.storeBound := Iff.rfl

@[simp] theorem State.modMatcher_bound (f) (s : State) : (s.modMatcher f).storeBound ↔ s.storeBound := Iff.rfl

@[simp] theorem State.modAnswer_bound (f) (s : State) : (s.modAnswer f).storeBound ↔ s.storeBound := Iff.rfl

@[simp] theorem State.modKb_bound (f) (s : State) : (s.modKb f).storeBound ↔ s.storeBound := Iff.rfl

@[simp] theorem State.modPrinter_bound (f) (s : State) : (s.modPrinter f).storeBound ↔ s.storeBound := Iff.rfl

@[simp] theorem State.modBell_bound (f) (s : State) : (s.modBell f).storeBound ↔ s.storeBound := Iff.rfl

@[simp] theorem State.modPunch_bound (f) (s : State) : (s.modPunch f).storeBound ↔ s.storeBound := Iff.rfl

@[simp] theorem State.modMotor_bound (f) (s : State) : (s.modMotor f).storeBound ↔ s.storeBound := Iff.rfl

@[simp] theorem State.modStation_bound (f) (s : State) : (s.modStation f).storeBound ↔ s.storeBound := Iff.rfl

@[simp] theorem State.modLink_bound (f) (s : State) : (s.modLink f).storeBound ↔ s.storeBound := Iff.rfl

@[simp] theorem State.modCond_bound (f) (s : State) : (s.modCond f).storeBound ↔ s.storeBound := Iff.rfl

@[simp] theorem State.modFreeCount_bound (f) (s : State) : (s.modFreeCount f).storeBound ↔ s.storeBound := Iff.rfl

@[simp] theorem State.modHostRx_bound (f) (s : State) : (s.modHostRx f).storeBound ↔ s.storeBound := Iff.rfl

@[simp] theorem State.modPending_bound (f) (s : State) : (s.modPending f).storeBound ↔ s.storeBound := Iff.rfl

@[simp] theorem State.modSend_bound (f) (s : State) : (s.modSend f).storeBound ↔ s.storeBound := Iff.rfl

@[simp] theorem State.modCapture_bound (f) (s : State) : (s.modCapture f).storeBound ↔ s.storeBound := Iff.rfl

@[simp] theorem State.modRecord_bound (f) (s : State) : (s.modRecord f).storeBound ↔ s.storeBound := Iff.rfl

@[simp] theorem State.note_bound (n : Notice) (s : State) (h : s.storeBound) : (s.note n).storeBound := 
  State.storeBound_congr (State.note_shelf _ _) h

@[simp] theorem State.latch_bound (k : Nat) (s : State) (h : s.storeBound) : (s.latch k).storeBound := 
  State.storeBound_congr (State.latch_shelf _ _) h

@[simp] theorem State.latchIf_bound (b : Bool) (k : Nat) (s : State) (h : s.storeBound) : (s.latchIf b k).storeBound := 
  State.storeBound_congr (State.latchIf_shelf _ _ _) h

@[simp] theorem State.setOutcome_bound (o : CallOutcome) (s : State) (h : s.storeBound) : (s.setOutcome o).storeBound := 
  State.storeBound_congr (State.setOutcome_shelf _ _) h

@[simp] theorem State.flagRecord_bound (f : RecordFlags → RecordFlags) (s : State) (h : s.storeBound) : (s.flagRecord f).storeBound := 
  State.storeBound_congr (State.flagRecord_shelf _ _) h

@[simp] theorem State.countStored_bound (src : Source) (s : State) (h : s.storeBound) : (s.countStored src).storeBound := 
  State.storeBound_congr (State.countStored_shelf _ _) h

@[simp] theorem State.countUnrouted_bound (src : Source) (s : State) (h : s.storeBound) : (s.countUnrouted src).storeBound := 
  State.storeBound_congr (State.countUnrouted_shelf _ _) h

@[simp] theorem State.startCause_bound (s : State) (h : s.storeBound) : (s.startCause).storeBound := 
  State.storeBound_congr (State.startCause_shelf _) h

@[simp] theorem State.bellPulse_bound (s : State) (h : s.storeBound) : (s.bellPulse).storeBound := 
  State.storeBound_congr (State.bellPulse_shelf _) h

@[simp] theorem State.moveSendShift_bound (c : Code) (s : State) (h : s.storeBound) : (s.moveSendShift c).storeBound := 
  State.storeBound_congr (State.moveSendShift_shelf _ _) h

@[simp] theorem State.trim_bound (s : State) (h : s.storeBound) : (s.trim).storeBound := by
  unfold State.trim; dsimp only; split
  · exact h
  · exact State.modStore_bound _ _ h (by simp)

@[simp] theorem State.consume_bound (k : Sink) (n : Nat) (s : State) (h : s.storeBound) : (s.consume k n).storeBound := by
  unfold State.consume
  exact State.trim_bound _ (State.modStore_bound _ _ h (fun t => by simp; omega))

@[simp] theorem State.gather_bound (s : State) (h : s.storeBound) : (s.gather).storeBound := 
  State.storeBound_congr (State.gather_shelf _) h

@[simp] theorem State.storeNotice_bound (s : State) (h : s.storeBound) : (s.storeNotice).storeBound := by
  unfold State.storeNotice <;> (try dsimp only) <;> (repeat' split) <;> simp (maxDischargeDepth := 30) [h]

theorem State.append_bound (e : Entry) (s : State) (h : s.store.entries.length + s.reserved < 256) : (s.append e).storeBound := by
  unfold State.append; dsimp only
  have : (s.modStore fun t => { t with entries := t.entries ++ [{ e with gapBefore := t.gap != 0 }], gap := 0 }).storeBound := by
    simp only [State.storeBound, State.reserved, State.modStore_store, State.modStore_tx, List.length_append, List.length_singleton] at *
    omega
  split <;> simp (maxDischargeDepth := 30) [this]

@[simp] theorem State.routeLine_bound (code : Code) (sh : Shift) (e : TransEntry) (mutilated : Bool) (s : State) (h : s.storeBound) : (s.routeLine code sh e mutilated).storeBound := by
  unfold State.routeLine; dsimp only
  (repeat' split)
  · simp (maxDischargeDepth := 30) [h]
  · simp (maxDischargeDepth := 30) [h]
  · apply State.append_bound
    cases h2 : s.tx.reservation <;> simp_all [State.storeBound, State.reserved, State.freeEntries, storeSize] <;> omega

@[simp] theorem State.countSend_bound (s : State) (h : s.storeBound) : (s.countSend).storeBound := 
  State.storeBound_congr (State.countSend_shelf _) h

@[simp] theorem State.endSend_bound (why : EndReason) (s : State) (h : s.storeBound) : (s.endSend why).storeBound := by
  unfold State.endSend <;> (try dsimp only) <;> (repeat' split) <;> simp (maxDischargeDepth := 30) [h]

@[simp] theorem State.discardWork_bound (s : State) (h : s.storeBound) : (s.discardWork).storeBound := by
  unfold State.discardWork <;> (try dsimp only) <;> (repeat' split) <;> simp (maxDischargeDepth := 30) [h]

@[simp] theorem State.receiverOff_bound (s : State) (h : s.storeBound) : (s.receiverOff).storeBound := 
  State.storeBound_congr (State.receiverOff_shelf _) h

@[simp] theorem State.receiverOn_bound (s : State) (h : s.storeBound) : (s.receiverOn).storeBound := 
  State.storeBound_congr (State.receiverOn_shelf _) h

@[simp] theorem State.closeWindow_bound (s : State) (h : s.storeBound) : (s.closeWindow).storeBound := 
  State.storeBound_congr (State.closeWindow_shelf _) h

@[simp] theorem State.leaveConnected_bound (s : State) (h : s.storeBound) : (s.leaveConnected).storeBound := 
  State.storeBound_congr (State.leaveConnected_shelf _) h

@[simp] theorem State.enterClearing_bound (s : State) (h : s.storeBound) : (s.enterClearing).storeBound := by
  unfold State.enterClearing <;> (try dsimp only) <;> (repeat' split) <;> simp (maxDischargeDepth := 30) [h]

@[simp] theorem State.emptyQueues_bound (s : State) (h : s.storeBound) : (s.emptyQueues).storeBound := by
  unfold State.emptyQueues <;> (try dsimp only) <;> (repeat' split) <;> simp (maxDischargeDepth := 30) [h]

@[simp] theorem State.beginLocalClear_bound (o : CallOutcome) (s : State) (h : s.storeBound) : (s.beginLocalClear o).storeBound := by
  unfold State.beginLocalClear <;> (try dsimp only) <;> (repeat' split) <;> simp (maxDischargeDepth := 30) [h]

@[simp] theorem State.beginSelectionClear_bound (s : State) (h : s.storeBound) : (s.beginSelectionClear).storeBound := by
  unfold State.beginSelectionClear <;> (try dsimp only) <;> (repeat' split) <;> simp (maxDischargeDepth := 30) [h]

@[simp] theorem State.recorderTest_bound (s : State) (h : s.storeBound) : (s.recorderTest).storeBound := by
  unfold State.recorderTest <;> (try dsimp only) <;> (repeat' split) <;> simp (maxDischargeDepth := 30) [h]

@[simp] theorem State.detach_bound (k : Sink) (s : State) (h : s.storeBound) : (s.detach k).storeBound := by
  unfold State.detach <;> (try dsimp only) <;> (repeat' split) <;> simp (maxDischargeDepth := 30) [h]

@[simp] theorem State.attach_bound (k : Sink) (s : State) (h : s.storeBound) : (s.attach k).storeBound := 
  State.storeBound_congr (State.attach_shelf _ _) h

@[simp] theorem State.endCapture_bound (why : EndReason) (s : State) (h : s.storeBound) : (s.endCapture why).storeBound := by
  unfold State.endCapture <;> (try dsimp only) <;> (repeat' split) <;> simp (maxDischargeDepth := 30) [h]

@[simp] theorem State.answerbackRequest_bound (s : State) (h : s.storeBound) : (s.answerbackRequest).storeBound := 
  State.storeBound_congr (State.answerbackRequest_shelf _) h

@[simp] theorem State.restartIdle_bound (s : State) (h : s.storeBound) : (s.restartIdle).storeBound := 
  State.storeBound_congr (State.restartIdle_shelf _) h

@[simp] theorem State.startCalibration_bound (s : State) (h : s.storeBound) : (s.startCalibration).storeBound := 
  State.storeBound_congr (State.startCalibration_shelf _) h

@[simp] theorem State.switchesAtConnect_bound (s : State) (h : s.storeBound) : (s.switchesAtConnect).storeBound := 
  State.storeBound_congr (State.switchesAtConnect_shelf _) h

@[simp] theorem State.clearProgress_bound (s : State) (h : s.storeBound) : (s.clearProgress).storeBound := 
  State.storeBound_congr (State.clearProgress_shelf _) h

@[simp] theorem State.beginIdentity_bound (dir : Direction) (s : State) (h : s.storeBound) : (s.beginIdentity dir).storeBound := 
  State.storeBound_congr (State.beginIdentity_shelf _ _) h

@[simp] theorem State.enterConnected_bound (s : State) (h : s.storeBound) : (s.enterConnected).storeBound := by
  unfold State.enterConnected <;> (try dsimp only) <;> (repeat' split) <;> simp (maxDischargeDepth := 30) [h]

@[simp] theorem State.enterAnswering_bound (s : State) (h : s.storeBound) : (s.enterAnswering).storeBound := by
  unfold State.enterAnswering <;> (try dsimp only) <;> (repeat' split) <;> simp (maxDischargeDepth := 30) [h]

@[simp] theorem State.enterSelecting_bound (s : State) (h : s.storeBound) : (s.enterSelecting).storeBound := 
  State.storeBound_congr (State.enterSelecting_shelf _) h

@[simp] theorem State.enterCalling_bound (chars : List IChar) (s : State) (h : s.storeBound) : (s.enterCalling chars).storeBound := by
  unfold State.enterCalling <;> (try dsimp only) <;> (repeat' split) <;> simp (maxDischargeDepth := 30) [h]

@[simp] theorem State.enterRefused_bound (s : State) (h : s.storeBound) : (s.enterRefused).storeBound := 
  State.storeBound_congr (State.enterRefused_shelf _) h

@[simp] theorem State.acceptanceTest_bound (s : State) (h : s.storeBound) : (s.acceptanceTest).storeBound := by
  unfold State.acceptanceTest <;> (try dsimp only) <;> (repeat' split) <;> simp (maxDischargeDepth := 30) [h]

@[simp] theorem State.createRecord_bound (dir : Direction) (selection : List IChar) (s : State) (h : s.storeBound) : (s.createRecord dir selection).storeBound := 
  State.storeBound_congr (State.createRecord_shelf _ _ _) h

@[simp] theorem State.offer_bound (s : State) (h : s.storeBound) : (s.offer).storeBound := by
  unfold State.offer <;> (try dsimp only) <;> (repeat' split) <;> simp (maxDischargeDepth := 30) [h]

@[simp] theorem State.noteMaybe_bound (n : Option Notice) (s : State) (h : s.storeBound) : (s.noteMaybe n).storeBound := 
  State.storeBound_congr (State.noteMaybe_shelf _ _) h

@[simp] theorem State.closeRecord_bound (s : State) (h : s.storeBound) : (s.closeRecord).storeBound := 
  State.storeBound_congr (State.closeRecord_shelf _) h

@[simp] theorem State.returnToFree_bound (s : State) (h : s.storeBound) : (s.returnToFree).storeBound := by
  unfold State.returnToFree <;> (try dsimp only) <;> (repeat' split) <;> simp (maxDischargeDepth := 30) [h]

@[simp] theorem State.endUnanswered_bound (o : CallOutcome) (s : State) (h : s.storeBound) : (s.endUnanswered o).storeBound := by
  unfold State.endUnanswered <;> (try dsimp only) <;> (repeat' split) <;> simp (maxDischargeDepth := 30) [h]

@[simp] theorem State.collide_bound (s : State) (h : s.storeBound) : (s.collide).storeBound := by
  unfold State.collide <;> (try dsimp only) <;> (repeat' split) <;> simp (maxDischargeDepth := 30) [h]

theorem State.clearRequest_bound (s t : State) (e : s.clearRequest = some t) (h : s.storeBound) : t.storeBound := by
  revert e; unfold State.clearRequest; (repeat' split) <;> intro e <;> cases e <;> simp (maxDischargeDepth := 30) [h]

@[simp] theorem State.clearRequest_getD_bound (s : State) (h : s.storeBound) : ((s.clearRequest).getD s).storeBound := by
  cases e : s.clearRequest with
  | none => exact h
  | some t => exact State.clearRequest_bound _ _ e h

theorem State.answerRequest_bound (s t : State) (e : s.answerRequest = some t) (h : s.storeBound) : t.storeBound := by
  revert e; unfold State.answerRequest; (repeat' split) <;> intro e <;> cases e <;> simp (maxDischargeDepth := 30) [h]

@[simp] theorem State.answerRequest_getD_bound (s : State) (h : s.storeBound) : ((s.answerRequest).getD s).storeBound := by
  cases e : s.answerRequest with
  | none => exact h
  | some t => exact State.answerRequest_bound _ _ e h

theorem State.breakRequest_bound (s t : State) (e : s.breakRequest = some t) (h : s.storeBound) : t.storeBound := by
  revert e; unfold State.breakRequest; (repeat' split) <;> intro e <;> cases e <;> simp (maxDischargeDepth := 30) [h]

@[simp] theorem State.breakRequest_getD_bound (s : State) (h : s.storeBound) : ((s.breakRequest).getD s).storeBound := by
  cases e : s.breakRequest with
  | none => exact h
  | some t => exact State.breakRequest_bound _ _ e h

@[simp] theorem State.changeMode_bound (new : Mode) (byWatchdog : Bool) (s : State) (h : s.storeBound) : (s.changeMode new byWatchdog).storeBound := by
  unfold State.changeMode <;> (try dsimp only) <;> (repeat' split) <;> simp (maxDischargeDepth := 30) [h]

@[simp] theorem State.divert_bound (s : State) (h : s.storeBound) : (s.divert).storeBound := by
  unfold State.divert; split
  · exact State.modStore_bound _ _ h (fun t => by simp; omega)
  · exact h

@[simp] theorem State.printerOut_bound (jam : Bool) (s : State) (h : s.storeBound) : (s.printerOut jam).storeBound := by
  unfold State.printerOut <;> (try dsimp only) <;> (repeat' split) <;> simp (maxDischargeDepth := 30) [h]

@[simp] theorem State.printerJam_bound (s : State) (h : s.storeBound) : (s.printerJam).storeBound := by
  unfold State.printerJam <;> (try dsimp only) <;> (repeat' split) <;> simp (maxDischargeDepth := 30) [h]

@[simp] theorem State.enterHalted_bound (s : State) (h : s.storeBound) : (s.enterHalted).storeBound := by
  unfold State.enterHalted <;> (try dsimp only) <;> (repeat' split) <;> simp (maxDischargeDepth := 30) [h]

@[simp] theorem State.punchOut_bound (jam : Bool) (s : State) (h : s.storeBound) : (s.punchOut jam).storeBound := by
  unfold State.punchOut <;> (try dsimp only) <;> (repeat' split) <;> simp (maxDischargeDepth := 30) [h]

@[simp] theorem State.setTape_bound (n : Nat) (s : State) (h : s.storeBound) : (s.setTape n).storeBound := by
  unfold State.setTape <;> (try dsimp only) <;> (repeat' split) <;> simp (maxDischargeDepth := 30) [h]

@[simp] theorem State.cutTape_bound (s : State) (h : s.storeBound) : (s.cutTape).storeBound := by
  unfold State.cutTape <;> (try dsimp only) <;> (repeat' split) <;> simp (maxDischargeDepth := 30) [h]

@[simp] theorem State.pushReply_bound (r : Reply) (s : State) (h : s.storeBound) : (s.pushReply r).storeBound := 
  State.storeBound_congr (State.pushReply_shelf _ _) h

@[simp] theorem State.rejectBusy_bound (s : State) (h : s.storeBound) : (s.rejectBusy).storeBound := 
  State.storeBound_congr (State.rejectBusy_shelf _) h

@[simp] theorem State.frameHunt_bound (s : State) (h : s.storeBound) : (s.frameHunt).storeBound := 
  State.storeBound_congr (State.frameHunt_shelf _) h

@[simp] theorem State.endSilence_bound (s : State) (h : s.storeBound) : (s.endSilence).storeBound := 
  State.storeBound_congr (State.endSilence_shelf _) h

@[simp] theorem State.refuseFrame_bound (why : RejectReason) (s : State) (h : s.storeBound) : (s.refuseFrame why).storeBound := by
  unfold State.refuseFrame State.answerFrame
  (repeat' split) <;> simp (maxDischargeDepth := 30) [h]

@[simp] theorem State.reject_bound (why : RejectReason) (s : State) (h : s.storeBound) : (s.reject why).1.storeBound := 
  State.storeBound_congr (State.reject_shelf _ _) h

@[simp] theorem State.windowError_bound (s : State) (h : s.storeBound) : (s.windowError).storeBound := 
  State.storeBound_congr (State.windowError_shelf _) h

@[simp] theorem State.windowGood_bound (candidate bias : Int) (s : State) (h : s.storeBound) : (s.windowGood candidate bias).storeBound := 
  State.storeBound_congr (State.windowGood_shelf _ _ _) h

@[simp] theorem State.windowEnd_bound (s : State) (h : s.storeBound) : (s.windowEnd).storeBound := 
  State.storeBound_congr (State.windowEnd_shelf _) h

@[simp] theorem State.calibrate_bound (ds : List Int) (s : State) (h : s.storeBound) : (s.calibrate ds).storeBound := 
  State.storeBound_congr (State.calibrate_shelf _ _) h

@[simp] theorem State.actOn_bound (a : SeqAction) (s : State) (h : s.storeBound) : (s.actOn a).storeBound := by
  unfold State.actOn <;> (try dsimp only) <;> (repeat' split) <;> simp (maxDischargeDepth := 30) [h]

@[simp] theorem State.complete1_bound (x : Nat × SeqEntry) (s : State) (h : s.storeBound) : (s.complete1 x).storeBound := by
  unfold State.complete1 <;> (try dsimp only) <;> (repeat' split) <;> simp (maxDischargeDepth := 30) [h]

@[simp] theorem State.appendIdentity_bound (c : IChar) (n : Nat) (s : State) (h : s.storeBound) : (s.appendIdentity c n).storeBound := 
  State.storeBound_congr (State.appendIdentity_shelf _ _ _) h

@[simp] theorem State.captureIdentity_bound (good : Bool) (e : TransEntry) (s : State) (h : s.storeBound) : (s.captureIdentity good e).storeBound := 
  State.storeBound_congr (State.captureIdentity_shelf _ _ _) h

@[simp] theorem State.receiverHunt_bound (s : State) (h : s.storeBound) : (s.receiverHunt).storeBound := 
  State.storeBound_congr (State.receiverHunt_shelf _) h

@[simp] theorem State.matchProgress_bound (good : Bool) (e : TransEntry) (s : State) (h : s.storeBound) : (s.matchProgress good e).storeBound := 
  State.storeBound_congr (State.matchProgress_shelf _ _ _) h

@[simp] theorem State.deliver_bound (code : Code) (good : Bool) (ds : List Int) (s : State) (h : s.storeBound) : (s.deliver code good ds).storeBound := by
  unfold State.deliver; dsimp only
  apply foldl_bound _ (fun s x h => State.complete1_bound x s h)
  (repeat' split) <;> simp (maxDischargeDepth := 30) [h]

@[simp] theorem State.characterDelivered_bound (line : List Level) (s : State) (h : s.storeBound) : (s.characterDelivered line).storeBound := by
  unfold State.characterDelivered <;> (try dsimp only) <;> (repeat' split) <;> simp (maxDischargeDepth := 30) [h]

@[simp] theorem State.receiveBreak_bound (s : State) (h : s.storeBound) : (s.receiveBreak).storeBound := by
  unfold State.receiveBreak <;> (try dsimp only) <;> (repeat' split) <;> simp (maxDischargeDepth := 30) [h]

@[simp] theorem State.startEdge_bound (s : State) (h : s.storeBound) : (s.startEdge).storeBound := 
  State.storeBound_congr (State.startEdge_shelf _) h

@[simp] theorem State.stopSampleAtSpace_bound (line : List Level) (s : State) (h : s.storeBound) : (s.stopSampleAtSpace line).storeBound := by
  unfold State.stopSampleAtSpace <;> (try dsimp only) <;> (repeat' split) <;> simp (maxDischargeDepth := 30) [h]

@[simp] theorem State.holdoffExpiry_bound (s : State) (h : s.storeBound) : (s.holdoffExpiry).storeBound := 
  State.storeBound_congr (State.holdoffExpiry_shelf _) h

theorem State.reserve_bound (u : TxUnit) (s t : State) (e : s.reserve u = some t) (h : s.storeBound) : t.storeBound := by
  unfold State.reserve at e
  (repeat' split at e) <;> cases e <;> cases h2 : s.tx.reservation <;> simp_all [State.storeBound, State.reserved, State.freeEntries, storeSize] <;> omega

@[simp] theorem State.beginCode_bound (code : Code) (u : TxUnit) (f : Follow) (s : State) (h : s.storeBound) : (s.beginCode code u f).storeBound := 
  State.storeBound_congr (State.beginCode_shelf _ _ _ _) h

theorem State.takeUnit_bound (codes : List Code) (u : TxUnit) (s t : State) (e : s.takeUnit codes u = some t) (h : s.storeBound) : t.storeBound := by
  unfold State.takeUnit at e
  split at e
  · cases e
  · obtain ⟨a, ha, rfl⟩ := Option.map_eq_some_iff.mp e
    simp (maxDischargeDepth := 30) [State.reserve_bound _ _ _ ha h]

@[simp] theorem State.beginBreak_bound (s : State) (h : s.storeBound) : (s.beginBreak).storeBound := 
  State.storeBound_congr (State.beginBreak_shelf _) h

theorem State.takeIdent_bound (r : IdentRequest) (s t : State) (e : s.takeIdent r = some t) (h : s.storeBound) : t.storeBound := by
  unfold State.takeIdent at e; dsimp only at e
  split at e
  · cases e; simp (maxDischargeDepth := 30) [h]
  · obtain ⟨a, ha, rfl⟩ := Option.map_eq_some_iff.mp e
    simp (maxDischargeDepth := 30) [State.takeUnit_bound _ _ _ _ ha h]

theorem State.arbiter_bound (s t : State) (e : s.arbiter = some t) (h : s.storeBound) : t.storeBound := by
  unfold State.arbiter at e; dsimp only at e
  (repeat' split at e) <;> first
    | (cases e; done)
    | (cases e; simp (maxDischargeDepth := 30) [h]; done)
    | exact State.takeIdent_bound _ _ _ e h
    | (obtain ⟨a, ha, rfl⟩ := Option.map_eq_some_iff.mp e; simp (maxDischargeDepth := 30) [State.takeUnit_bound _ _ _ _ ha h])

@[simp] theorem State.goOn_bound (may : Bool) (code : Code) (u : TxUnit) (s : State) (h : s.storeBound) : (s.goOn may code u).storeBound :=
  State.storeBound_congr (State.goOn_shelf _ _ _ _) h

theorem State.txTake_bound (s t : State) (e : s.txTake = some t) (h : s.storeBound) : t.storeBound := by
  unfold State.txTake at e
  (repeat' split at e) <;> first
    | (cases e; done)
    | exact State.arbiter_bound _ _ e h
    | (cases e; simp (maxDischargeDepth := 30) [h]; done)
    | (obtain ⟨a, ha, rfl⟩ := Option.map_eq_some_iff.mp e; simp (maxDischargeDepth := 30) [State.reserve_bound _ _ _ ha h])

@[simp] theorem State.txTake_getD_bound (s : State) (h : s.storeBound) : ((s.txTake).getD s).storeBound := by
  cases e : s.txTake with
  | none => exact h
  | some t => exact State.txTake_bound _ _ e h

@[simp] theorem State.makeCopy_bound (code : Code) (sh : Shift) (u : TxUnit) (s : State) (h : s.storeBound) : (s.makeCopy code sh u).storeBound := by
  unfold State.makeCopy; dsimp only
  have h0 : (s.modTx fun t => { t with reservation := false }).storeBound := by simp (maxDischargeDepth := 30) [h]
  (repeat' split)
  · exact h
  · simp (maxDischargeDepth := 30) [h0]
  · apply State.append_bound
    cases h2 : s.tx.reservation <;> simp_all [State.storeBound, State.reserved, State.freeEntries, storeSize] <;> omega
  · simp (maxDischargeDepth := 30) [h0]

@[simp] theorem State.openWindow_bound (s : State) (h : s.storeBound) : (s.openWindow).storeBound := 
  State.storeBound_congr (State.openWindow_shelf _) h

@[simp] theorem State.endRun_bound (s : State) (h : s.storeBound) : (s.endRun).storeBound := 
  State.storeBound_congr (State.endRun_shelf _) h

@[simp] theorem State.unitDone_bound (u : TxUnit) (s : State) (h : s.storeBound) : (s.unitDone u).storeBound := by
  unfold State.unitDone <;> (try dsimp only) <;> (repeat' split) <;> simp (maxDischargeDepth := 30) [h]

@[simp] theorem State.beginSecond_bound (code : Code) (u : TxUnit) (s : State) (h : s.storeBound) : (s.beginSecond code u).storeBound := by
  unfold State.beginSecond
  split
  · exact h
  · split
    · rename_i t ht
      simp (maxDischargeDepth := 30) [State.reserve_bound _ _ _ ht h]
    · simp (maxDischargeDepth := 30) [h]

@[simp] theorem State.settleClear_bound (s : State) (h : s.storeBound) : (s.settleClear).storeBound := by
  unfold State.settleClear <;> (try dsimp only) <;> (repeat' split) <;> simp (maxDischargeDepth := 30) [h]

@[simp] theorem State.codeCompletion_bound (s : State) (h : s.storeBound) : (s.codeCompletion).storeBound := by
  unfold State.codeCompletion <;> (try dsimp only) <;> (repeat' split) <;> simp (maxDischargeDepth := 30) [h]

theorem State.gather_capture (s : State) : s.gather.link.capture.state = s.link.capture.state := by
  unfold State.gather; dsimp only; (repeat' split) <;> simp

theorem State.gather_frame (s : State) :
    s.gather.station = s.station ∧ s.gather.route = s.route ∧ s.gather.printer = s.printer ∧ s.gather.punch = s.punch := by
  unfold State.gather; dsimp only; (repeat' split) <;> simp

theorem State.append_sinkSet (src : Source) (e : Entry) (s : State) : (s.append e).sinkSet src = s.sinkSet src := by
  apply State.sinkSet_congr
  · exact congrArg (·.1) (State.append_core e s)
  · unfold State.append State.storeNotice State.startCause State.countStored; dsimp only
    rw [(State.gather_frame _).2.1]; (repeat' split) <;> simp [State.note]
  · unfold State.append State.storeNotice State.startCause State.countStored; dsimp only
    rw [(State.gather_frame _).2.2.1]; (repeat' split) <;> simp [State.note]
  · exact congrArg (·.1) (State.append_tapeState e s)
  · unfold State.append State.storeNotice State.startCause State.countStored; dsimp only
    rw [State.gather_capture]; (repeat' split) <;> simp [State.note]
  · exact congrArg (·.1) (State.append_held e s)

theorem State.append_length (e : Entry) (s : State) : (s.append e).store.entries.length = s.store.entries.length + 1 := by
  have h : (s.append e).store.entries = s.store.entries ++ [{ e with gapBefore := s.store.gap != 0 }] := by
    unfold State.append; dsimp only
    have g (t : State) : t.gather.store.entries = t.store.entries := congrArg (·.1) (State.gather_shelf t)
    have n (t : State) : t.storeNotice.store.entries = t.store.entries := by
      unfold State.storeNotice; split <;> simp [State.note]
    have c (t : State) : t.startCause.store.entries = t.store.entries := congrArg (·.1) (State.startCause_shelf t)
    rw [g, n]; split <;> simp [c, State.countStored]
  simp [h]

theorem State.append_reservation (e : Entry) (s : State) : (s.append e).tx.reservation = s.tx.reservation := by
  unfold State.append; dsimp only
  have g (t : State) : t.gather.tx.reservation = t.tx.reservation := congrArg (·.2) (State.gather_shelf t)
  have n (t : State) : t.storeNotice.tx.reservation = t.tx.reservation := by
    unfold State.storeNotice; split <;> simp [State.note]
  have c (t : State) : t.startCause.tx.reservation = t.tx.reservation := congrArg (·.2) (State.startCause_shelf t)
  rw [g, n]; split <;> simp [c, State.countStored]

/-- One entry of a resolution takes at most one place, and none where its source has no sink. -/
theorem State.placeLocal_places (src : Source) (x : Code × TransEntry) (s : State) :
    (s.placeLocal src x).sinkSet src = s.sinkSet src ∧
      (s.placeLocal src x).tx.reservation = s.tx.reservation ∧
      (s.placeLocal src x).store.entries.length =
        s.store.entries.length + (if (s.sinkSet src).isEmpty then 0 else 1) := by
  have m (c : Code) (t : State) : (t.moveSendShift c).sinkSet src = t.sinkSet src ∧
      (t.moveSendShift c).tx.reservation = t.tx.reservation ∧
      (t.moveSendShift c).store.entries = t.store.entries := by
    unfold State.moveSendShift; split
    · exact ⟨State.sinkSet_congr _ rfl rfl rfl rfl rfl rfl, rfl, rfl⟩
    · exact ⟨rfl, rfl, rfl⟩
  unfold State.placeLocal; dsimp only
  obtain ⟨m1, m2, m3⟩ := m x.1 (if (s.sinkSet src).isEmpty then s.countUnrouted src
    else s.append (newEntry x.1 s.tx.shift x.2 src false (s.sinkSet src)))
  rw [m1, m2, m3]
  split
  · exact ⟨State.sinkSet_congr _ rfl rfl rfl rfl rfl rfl, rfl, rfl⟩
  · exact ⟨State.append_sinkSet _ _ _, State.append_reservation _ _, State.append_length _ _⟩

/-- The local path places no more entries than are free. -/
theorem State.placeFold_bound (src : Source) :
    ∀ (xs : List (Code × TransEntry)) (s : State), s.storeBound →
      ((s.sinkSet src).isEmpty || decide (xs.length ≤ s.freeEntries)) = true →
      (xs.foldl (fun s x => s.placeLocal src x) s).storeBound
  | [], _, h, _ => h
  | x :: xs, s, h, hx => by
    obtain ⟨e1, e2, e3⟩ := State.placeLocal_places src x s
    apply State.placeFold_bound src xs
    · simp only [State.storeBound, State.reserved, State.freeEntries, storeSize, e2, e3, Bool.or_eq_true,
        decide_eq_true_eq, List.length_cons] at *
      cases h2 : s.tx.reservation <;> cases h3 : (s.sinkSet src).isEmpty <;> simp_all <;> omega
    · simp only [State.storeBound, State.reserved, State.freeEntries, storeSize, e1, e2, e3, Bool.or_eq_true,
        decide_eq_true_eq, List.length_cons] at *
      rcases hx with hx | hx
      · exact Or.inl hx
      · right; cases h2 : s.tx.reservation <;> cases h3 : (s.sinkSet src).isEmpty <;> simp_all <;> omega



theorem State.placeAll_bound (src : Source) (xs : List (Code × TransEntry)) (s t : State) (e : s.placeAll src xs = some t) (h : s.storeBound) : t.storeBound := by
  unfold State.placeAll at e
  split at e
  · cases e; exact State.placeFold_bound src xs s h (by assumption)
  · cases e

theorem State.localTake_bound (q : TextQueue) (s t : State) (e : s.localTake q = some t) (h : s.storeBound) : t.storeBound := by
  unfold State.localTake at e
  (repeat' split at e) <;> first
    | (cases e; done)
    | (obtain ⟨a, ha, rfl⟩ := Option.map_eq_some_iff.mp e; simp (maxDischargeDepth := 30) [State.placeAll_bound _ _ _ _ ha, h])

@[simp] theorem State.localTake_getD_bound (q) (s : State) (h : s.storeBound) : ((s.localTake q).getD s).storeBound := by
  cases e : s.localTake q with
  | none => exact h
  | some t => exact State.localTake_bound _ _ _ e h

@[simp] theorem State.callInAsserted_bound (s : State) (h : s.storeBound) : (s.callInAsserted).storeBound := by
  unfold State.callInAsserted <;> (try dsimp only) <;> (repeat' split) <;> simp (maxDischargeDepth := 30) [h]

@[simp] theorem State.callInDeasserted_bound (s : State) (h : s.storeBound) : (s.callInDeasserted).storeBound := by
  unfold State.callInDeasserted <;> (try dsimp only) <;> (repeat' split) <;> simp (maxDischargeDepth := 30) [h]

@[simp] theorem State.loopOkAsserted_bound (s : State) (h : s.storeBound) : (s.loopOkAsserted).storeBound := by
  unfold State.loopOkAsserted <;> (try dsimp only) <;> (repeat' split) <;> simp (maxDischargeDepth := 30) [h]

@[simp] theorem State.loopOkDeasserted_bound (s : State) (h : s.storeBound) : (s.loopOkDeasserted).storeBound := 
  State.storeBound_congr (State.loopOkDeasserted_shelf _) h

@[simp] theorem State.lossExpiry_bound (s : State) (h : s.storeBound) : (s.lossExpiry).storeBound := by
  unfold State.lossExpiry <;> (try dsimp only) <;> (repeat' split) <;> simp (maxDischargeDepth := 30) [h]

@[simp] theorem State.answerDelayExpiry_bound (s : State) (h : s.storeBound) : (s.answerDelayExpiry).storeBound := by
  unfold State.answerDelayExpiry <;> (try dsimp only) <;> (repeat' split) <;> simp (maxDischargeDepth := 30) [h]

@[simp] theorem State.connectExpiry_bound (s : State) (h : s.storeBound) : (s.connectExpiry).storeBound := by
  unfold State.connectExpiry <;> (try dsimp only) <;> (repeat' split) <;> simp (maxDischargeDepth := 30) [h]

@[simp] theorem State.proceedExpiry_bound (s : State) (h : s.storeBound) : (s.proceedExpiry).storeBound := by
  unfold State.proceedExpiry <;> (try dsimp only) <;> (repeat' split) <;> simp (maxDischargeDepth := 30) [h]

@[simp] theorem State.identityExpiry_bound (s : State) (h : s.storeBound) : (s.identityExpiry).storeBound := 
  State.storeBound_congr (State.identityExpiry_shelf _) h

@[simp] theorem State.idleClearExpiry_bound (s : State) (h : s.storeBound) : (s.idleClearExpiry).storeBound := by
  unfold State.idleClearExpiry <;> (try dsimp only) <;> (repeat' split) <;> simp (maxDischargeDepth := 30) [h]

@[simp] theorem State.guardExpiry_bound (s : State) (h : s.storeBound) : (s.guardExpiry).storeBound := by
  unfold State.guardExpiry <;> (try dsimp only) <;> (repeat' split) <;> simp (maxDischargeDepth := 30) [h]

@[simp] theorem State.charPress_bound (c : IChar) (s : State) (h : s.storeBound) : (s.charPress c).storeBound := 
  State.storeBound_congr (State.charPress_shelf _ _) h

@[simp] theorem State.functionPress_bound (f : KeyFunction) (pos : Nat) (s : State) (h : s.storeBound) : (s.functionPress f pos).storeBound := by
  unfold State.functionPress <;> (try dsimp only) <;> (repeat' split) <;> simp (maxDischargeDepth := 30) [h]

@[simp] theorem State.operatorPress_bound (pos : Nat) (e : KeyEntry) (s : State) (h : s.storeBound) : (s.operatorPress pos e).storeBound := 
  State.storeBound_congr (State.operatorPress_shelf _ _ _) h

@[simp] theorem State.press_bound (pos : Nat) (s : State) (h : s.storeBound) : (s.press pos).storeBound := by
  unfold State.press <;> (try dsimp only) <;> (repeat' split) <;> simp (maxDischargeDepth := 30) [h]

@[simp] theorem State.keyboardScan_bound (closed : BitVec 64) (s : State) (h : s.storeBound) : (s.keyboardScan closed).storeBound := by
  unfold State.keyboardScan; dsimp only
  apply foldl_bound _ (fun s x h => State.press_bound x s h)
  simp (maxDischargeDepth := 30) [h]

@[simp] theorem State.beginAction_bound (a : PrinterAction) (rest : List PrinterPart) (t : Timer) (s : State) (h : s.storeBound) : (s.beginAction a rest t).storeBound := 
  State.storeBound_congr (State.beginAction_shelf _ _ _ _) h

@[simp] theorem State.beginStrike_bound (c : IChar) (rest : List PrinterPart) (s : State) (h : s.storeBound) : (s.beginStrike c rest).storeBound := 
  State.storeBound_congr (State.beginStrike_shelf _ _ _) h

@[simp] theorem State.beginFeed_bound (thenStrike : Option IChar) (rest : List PrinterPart) (s : State) (h : s.storeBound) : (s.beginFeed thenStrike rest).storeBound := 
  State.storeBound_congr (State.beginFeed_shelf _ _ _) h

@[simp] theorem State.beginStep_bound (w : Slew) (thenStrike : Option IChar) (rest : List PrinterPart) (s : State) (h : s.storeBound) : (s.beginStep w thenStrike rest).storeBound := 
  State.storeBound_congr (State.beginStep_shelf _ _ _ _) h

@[simp] theorem State.operationDone_bound (s : State) (h : s.storeBound) : (s.operationDone).storeBound := by
  unfold State.operationDone <;> (try dsimp only) <;> (repeat' split) <;> simp (maxDischargeDepth := 30) [h]

@[simp] theorem State.runParts_bound (parts : List PrinterPart) (s : State) (h : s.storeBound) : (State.runParts parts s).storeBound := by
  induction parts generalizing s with
  | nil => simp (maxDischargeDepth := 30) [State.runParts, h]
  | cons p ps ih => cases p <;> simp only [State.runParts] <;> (repeat' split) <;> simp (maxDischargeDepth := 30) [ih, h]

theorem State.printerTake_bound (home : Bool) (s t : State) (e : s.printerTake home = some t) (h : s.storeBound) : t.storeBound := by
  revert e; unfold State.printerTake; (repeat' split) <;> intro e <;> cases e <;> simp (maxDischargeDepth := 30) [h]

@[simp] theorem State.printerTake_getD_bound (home) (s : State) (h : s.storeBound) : ((s.printerTake home).getD s).storeBound := by
  cases e : s.printerTake home with
  | none => exact h
  | some t => exact State.printerTake_bound _ _ _ e h

@[simp] theorem State.strikeLands_bound (s : State) (h : s.storeBound) : (s.strikeLands).storeBound := 
  State.storeBound_congr (State.strikeLands_shelf _) h

@[simp] theorem State.strikeDone_bound (s : State) (h : s.storeBound) : (s.strikeDone).storeBound := by
  unfold State.strikeDone <;> (try dsimp only) <;> (repeat' split) <;> simp (maxDischargeDepth := 30) [h]

@[simp] theorem State.coolingEnd_bound (s : State) (h : s.storeBound) : (s.coolingEnd).storeBound := by
  unfold State.coolingEnd <;> (try dsimp only) <;> (repeat' split) <;> simp (maxDischargeDepth := 30) [h]

@[simp] theorem State.feedDone_bound (s : State) (h : s.storeBound) : (s.feedDone).storeBound := by
  unfold State.feedDone <;> (try dsimp only) <;> (repeat' split) <;> simp (maxDischargeDepth := 30) [h]

@[simp] theorem State.printerResponseLimit_bound (s : State) (h : s.storeBound) : (s.printerResponseLimit).storeBound := by
  unfold State.printerResponseLimit <;> (try dsimp only) <;> (repeat' split) <;> simp (maxDischargeDepth := 30) [h]

@[simp] theorem State.slewDone_bound (thenStrike : Option IChar) (rest : List PrinterPart) (s : State) (h : s.storeBound) : (s.slewDone thenStrike rest).storeBound := by
  unfold State.slewDone <;> (try dsimp only) <;> (repeat' split) <;> simp (maxDischargeDepth := 30) [h]

@[simp] theorem State.slewStep_bound (w : Slew) (thenStrike : Option IChar) (rest : List PrinterPart) (s : State) (h : s.storeBound) : (s.slewStep w thenStrike rest).storeBound := by
  unfold State.slewStep <;> (try dsimp only) <;> (repeat' split) <;> simp (maxDischargeDepth := 30) [h]

@[simp] theorem State.carriageStepEnd_bound (home : Bool) (s : State) (h : s.storeBound) : (s.carriageStepEnd home).storeBound := by
  unfold State.carriageStepEnd <;> (try dsimp only) <;> (repeat' split) <;> simp (maxDischargeDepth := 30) [h]

@[simp] theorem State.haltTest_bound (s : State) (h : s.storeBound) : (s.haltTest).storeBound := by
  unfold State.haltTest <;> (try dsimp only) <;> (repeat' split) <;> simp (maxDischargeDepth := 30) [h]

@[simp] theorem State.haltCauseChange_bound (paperOut headHot : Bool) (s : State) (h : s.storeBound) : (s.haltCauseChange paperOut headHot).storeBound := by
  unfold State.haltCauseChange <;> (try dsimp only) <;> (repeat' split) <;> simp (maxDischargeDepth := 30) [h]

@[simp] theorem State.haltGraceExpiry_bound (s : State) (h : s.storeBound) : (s.haltGraceExpiry).storeBound := by
  unfold State.haltGraceExpiry <;> (try dsimp only) <;> (repeat' split) <;> simp (maxDischargeDepth := 30) [h]

@[simp] theorem State.headWarmChange_bound (warm : Bool) (s : State) (h : s.storeBound) : (s.headWarmChange warm).storeBound := 
  State.storeBound_congr (State.headWarmChange_shelf _ _) h

@[simp] theorem State.printerOffNow_bound (s : State) (h : s.storeBound) : (s.printerOffNow).storeBound := by
  unfold State.printerOffNow <;> (try dsimp only) <;> (repeat' split) <;> simp (maxDischargeDepth := 30) [h]

@[simp] theorem State.abortSlew_bound (w : Slew) (s : State) (h : s.storeBound) : (s.abortSlew w).storeBound := by
  unfold State.abortSlew <;> (try dsimp only) <;> (repeat' split) <;> simp (maxDischargeDepth := 30) [h]

@[simp] theorem State.printerOff_bound (s : State) (h : s.storeBound) : (s.printerOff).storeBound := by
  unfold State.printerOff <;> (try dsimp only) <;> (repeat' split) <;> simp (maxDischargeDepth := 30) [h]

@[simp] theorem State.printerBack_bound (s : State) (h : s.storeBound) : (s.printerBack).storeBound := by
  unfold State.printerBack <;> (try dsimp only) <;> (repeat' split) <;> simp (maxDischargeDepth := 30) [h]

theorem State.printerOn_bound (s t : State) (e : s.printerOn = some t) (h : s.storeBound) : t.storeBound := by
  revert e; unfold State.printerOn; (repeat' split) <;> intro e <;> cases e <;> simp (maxDischargeDepth := 30) [h]

@[simp] theorem State.printerOn_getD_bound (s : State) (h : s.storeBound) : ((s.printerOn).getD s).storeBound := by
  cases e : s.printerOn with
  | none => exact h
  | some t => exact State.printerOn_bound _ _ e h

@[simp] theorem State.beginPunch_bound (op : PunchOp) (s : State) (h : s.storeBound) : (s.beginPunch op).storeBound := 
  State.storeBound_congr (State.beginPunch_shelf _ _) h

theorem State.punchTake_bound (s t : State) (e : s.punchTake = some t) (h : s.storeBound) : t.storeBound := by
  revert e; unfold State.punchTake; (repeat' split) <;> intro e <;> cases e <;> simp (maxDischargeDepth := 30) [h]

@[simp] theorem State.punchTake_getD_bound (s : State) (h : s.storeBound) : ((s.punchTake).getD s).storeBound := by
  cases e : s.punchTake with
  | none => exact h
  | some t => exact State.punchTake_bound _ _ e h

@[simp] theorem State.countPunched_bound (s : State) (h : s.storeBound) : (s.countPunched).storeBound := 
  State.storeBound_congr (State.countPunched_shelf _) h

@[simp] theorem State.punchOffNow_bound (s : State) (h : s.storeBound) : (s.punchOffNow).storeBound := by
  unfold State.punchOffNow <;> (try dsimp only) <;> (repeat' split) <;> simp (maxDischargeDepth := 30) [h]

@[simp] theorem State.punchIdle_bound (s : State) (h : s.storeBound) : (s.punchIdle).storeBound := 
  State.storeBound_congr (State.punchIdle_shelf _) h

@[simp] theorem State.punchOperationDone_bound (s : State) (h : s.storeBound) : (s.punchOperationDone).storeBound := by
  unfold State.punchOperationDone <;> (try dsimp only) <;> (repeat' split) <;> simp (maxDischargeDepth := 30) [h]

@[simp] theorem State.punchDone_bound (s : State) (h : s.storeBound) : (s.punchDone).storeBound := by
  unfold State.punchDone <;> (try dsimp only) <;> (repeat' split) <;> simp (maxDischargeDepth := 30) [h]

@[simp] theorem State.punchResponseLimit_bound (s : State) (h : s.storeBound) : (s.punchResponseLimit).storeBound := by
  unfold State.punchResponseLimit <;> (try dsimp only) <;> (repeat' split) <;> simp (maxDischargeDepth := 30) [h]

@[simp] theorem State.tapeLowChange_bound (low : Bool) (s : State) (h : s.storeBound) : (s.tapeLowChange low).storeBound := by
  unfold State.tapeLowChange <;> (try dsimp only) <;> (repeat' split) <;> simp (maxDischargeDepth := 30) [h]

@[simp] theorem State.punchBack_bound (s : State) (h : s.storeBound) : (s.punchBack).storeBound := 
  State.storeBound_congr (State.punchBack_shelf _) h

@[simp] theorem State.tapeLoaded_bound (n : Nat) (s : State) (h : s.storeBound) : (s.tapeLoaded n).storeBound := by
  unfold State.tapeLoaded <;> (try dsimp only) <;> (repeat' split) <;> simp (maxDischargeDepth := 30) [h]

theorem State.punchLeader_bound (n : Nat) (s t : State) (e : s.punchLeader n = some t) (h : s.storeBound) : t.storeBound := 
  State.storeBound_congr (State.punchLeader_shelf _ _ _ e) h

@[simp] theorem State.punchOff_bound (s : State) (h : s.storeBound) : (s.punchOff).storeBound := by
  unfold State.punchOff <;> (try dsimp only) <;> (repeat' split) <;> simp (maxDischargeDepth := 30) [h]

theorem State.punchOn_bound (s t : State) (e : s.punchOn = some t) (h : s.storeBound) : t.storeBound := 
  State.storeBound_congr (State.punchOn_shelf _ _ e) h

@[simp] theorem State.punchOn_getD_bound (s : State) (h : s.storeBound) : ((s.punchOn).getD s).storeBound := by
  cases e : s.punchOn with
  | none => exact h
  | some t => exact State.punchOn_bound _ _ e h

@[simp] theorem State.runUpExpiry_bound (s : State) (h : s.storeBound) : (s.runUpExpiry).storeBound := 
  State.storeBound_congr (State.runUpExpiry_shelf _) h

@[simp] theorem State.idleStopExpiry_bound (s : State) (h : s.storeBound) : (s.idleStopExpiry).storeBound := 
  State.storeBound_congr (State.idleStopExpiry_shelf _) h

@[simp] theorem State.watchdogExpiry_bound (s : State) (h : s.storeBound) : (s.watchdogExpiry).storeBound := by
  unfold State.watchdogExpiry <;> (try dsimp only) <;> (repeat' split) <;> simp (maxDischargeDepth := 30) [h]

theorem State.motorStop_bound (s t : State) (e : s.motorStop = some t) (h : s.storeBound) : t.storeBound := 
  State.storeBound_congr (State.motorStop_shelf _ _ e) h

@[simp] theorem State.motorStop_getD_bound (s : State) (h : s.storeBound) : ((s.motorStop).getD s).storeBound := by
  cases e : s.motorStop with
  | none => exact h
  | some t => exact State.motorStop_bound _ _ e h

@[simp] theorem State.writeTranslate_bound (first : Byte) (data : List Byte) (s : State) (h : s.storeBound) : (s.writeTranslate first data).1.storeBound := 
  State.storeBound_congr (State.writeTranslate_shelf _ _ _) h

@[simp] theorem State.writeRoute_bound (first : Byte) (data : List Byte) (s : State) (h : s.storeBound) : (s.writeRoute first data).1.storeBound := by
  unfold State.writeRoute <;> (try dsimp only) <;> (repeat' split) <;> simp (maxDischargeDepth := 30) [h]

@[simp] theorem State.writeSequence_bound (first : Byte) (data : List Byte) (s : State) (h : s.storeBound) : (s.writeSequence first data).1.storeBound := 
  State.storeBound_congr (State.writeSequence_shelf _ _ _) h

@[simp] theorem State.writeKeymap_bound (first : Byte) (data : List Byte) (s : State) (h : s.storeBound) : (s.writeKeymap first data).1.storeBound := 
  State.storeBound_congr (State.writeKeymap_shelf _ _ _) h

@[simp] theorem State.writeAnswerback_bound (first : Byte) (data : List Byte) (s : State) (h : s.storeBound) : (s.writeAnswerback first data).1.storeBound := 
  State.storeBound_congr (State.writeAnswerback_shelf _ _ _) h

@[simp] theorem State.applySettings_bound (first : Byte) (n : Nat) (new : List Nat) (s : State) (h : s.storeBound) : (s.applySettings first n new).storeBound := by
  unfold State.applySettings <;> (try dsimp only) <;> (repeat' split) <;> simp (maxDischargeDepth := 30) [h]

@[simp] theorem State.writeSettings_bound (first : Byte) (data : List Byte) (s : State) (h : s.storeBound) : (s.writeSettings first data).1.storeBound := by
  unfold State.writeSettings <;> (try dsimp only) <;> (repeat' split) <;> simp (maxDischargeDepth := 30) [h]

@[simp] theorem State.writeSignals_bound (first : Byte) (data : List Byte) (s : State) (h : s.storeBound) : (s.writeSignals first data).1.storeBound := 
  State.storeBound_congr (State.writeSignals_shelf _ _ _) h

@[simp] theorem State.readTable_bound (body : List Byte) (s : State) (h : s.storeBound) : (s.readTable body).1.storeBound := 
  State.storeBound_congr (State.readTable_shelf _ _) h

@[simp] theorem State.statusFrame_bound (body : List Byte) (s : State) (h : s.storeBound) : (s.statusFrame body).1.storeBound := 
  State.storeBound_congr (State.statusFrame_shelf _ _) h

@[simp] theorem State.textFrame_bound (chars : List Byte) (s : State) (h : s.storeBound) : (s.textFrame chars).1.storeBound := 
  State.storeBound_congr (State.textFrame_shelf _ _) h

@[simp] theorem State.armSend_bound (n : Nat) (s : State) (h : s.storeBound) : (s.armSend n).1.storeBound := 
  State.storeBound_congr (State.armSend_shelf _ _) h

@[simp] theorem State.disarmSend_bound (s : State) (h : s.storeBound) : (s.disarmSend).1.storeBound := by
  unfold State.disarmSend <;> (try dsimp only) <;> (repeat' split) <;> simp (maxDischargeDepth := 30) [h]

@[simp] theorem State.holdSend_bound (on : Byte) (s : State) (h : s.storeBound) : (s.holdSend on).1.storeBound := 
  State.storeBound_congr (State.holdSend_shelf _ _) h

@[simp] theorem State.armCapture_bound (n f : Nat) (s : State) (h : s.storeBound) : (s.armCapture n f).1.storeBound := 
  State.storeBound_congr (State.armCapture_shelf _ _ _) h

@[simp] theorem State.disarmCapture_bound (s : State) (h : s.storeBound) : (s.disarmCapture).1.storeBound := by
  unfold State.disarmCapture <;> (try dsimp only) <;> (repeat' split) <;> simp (maxDischargeDepth := 30) [h]

@[simp] theorem State.holdFrame_bound (s : State) (h : s.storeBound) : (s.holdFrame).storeBound := 
  State.storeBound_congr (State.holdFrame_shelf _) h

@[simp] theorem State.releaseFrame_bound (s : State) (h : s.storeBound) : (s.releaseFrame).storeBound := 
  State.storeBound_congr (State.releaseFrame_shelf _) h

@[simp] theorem State.holdCapture_bound (on : Byte) (s : State) (h : s.storeBound) : (s.holdCapture on).1.storeBound := 
  State.storeBound_congr (State.holdCapture_shelf _ _) h

@[simp] theorem State.flushExpiry_bound (s : State) (h : s.storeBound) : (s.flushExpiry).storeBound := 
  State.storeBound_congr (State.flushExpiry_shelf _) h

@[simp] theorem State.orderMode_bound (mode : Byte) (s : State) (h : s.storeBound) : (s.orderMode mode).1.storeBound := by
  unfold State.orderMode <;> (try dsimp only) <;> (repeat' split) <;> simp (maxDischargeDepth := 30) [h]

@[simp] theorem State.orderCall_bound (chars : List Byte) (s : State) (h : s.storeBound) : (s.orderCall chars).1.storeBound := by
  unfold State.orderCall <;> (try dsimp only) <;> (repeat' split) <;> simp (maxDischargeDepth := 30) [h]

@[simp] theorem State.orderAnswerback_bound (s : State) (h : s.storeBound) : (s.orderAnswerback).1.storeBound := 
  State.storeBound_congr (State.orderAnswerback_shelf _) h

@[simp] theorem State.orderIdentify_bound (s : State) (h : s.storeBound) : (s.orderIdentify).1.storeBound := 
  State.storeBound_congr (State.orderIdentify_shelf _) h

@[simp] theorem State.orderPunchLeader_bound (n : Byte) (s : State) (h : s.storeBound) : (s.orderPunchLeader n).1.storeBound := by
  unfold State.orderPunchLeader State.grantOr
  (repeat' split) <;> simp (maxDischargeDepth := 30) [h] <;> (rename_i e; exact State.punchLeader_bound _ _ _ e h)

@[simp] theorem State.orderTapeLoaded_bound (n : BitVec 16) (s : State) (h : s.storeBound) : (s.orderTapeLoaded n).1.storeBound := by
  unfold State.orderTapeLoaded <;> (try dsimp only) <;> (repeat' split) <;> simp (maxDischargeDepth := 30) [h]

@[simp] theorem State.orderClearFaults_bound (named : CondSet) (s : State) (h : s.storeBound) : (s.orderClearFaults named).1.storeBound := 
  State.storeBound_congr (State.orderClearFaults_shelf _ _) h

@[simp] theorem State.orderNoticeMask_bound (mask : BitVec 16) (s : State) (h : s.storeBound) : (s.orderNoticeMask mask).1.storeBound := 
  State.storeBound_congr (State.orderNoticeMask_shelf _ _) h

@[simp] theorem State.orderCalibrate_bound (s : State) (h : s.storeBound) : (s.orderCalibrate).1.storeBound := 
  State.storeBound_congr (State.orderCalibrate_shelf _) h

@[simp] theorem State.orderLogDiscard_bound (n : Byte) (s : State) (h : s.storeBound) : (s.orderLogDiscard n).1.storeBound := 
  State.storeBound_congr (State.orderLogDiscard_shelf _ _) h

@[simp] theorem State.refillFaults_bound (s : State) (h : s.storeBound) : (s.refillFaults).storeBound := 
  State.storeBound_congr (State.refillFaults_shelf _) h

@[simp] theorem State.noteRefill_bound (s : State) (h : s.storeBound) : (s.noteRefill).storeBound := 
  State.storeBound_congr (State.noteRefill_shelf _) h

@[simp] theorem State.offerIfCalled_bound (s : State) (h : s.storeBound) : (s.offerIfCalled).storeBound := by
  unfold State.offerIfCalled <;> (try dsimp only) <;> (repeat' split) <;> simp (maxDischargeDepth := 30) [h]

@[simp] theorem State.endReset_bound (warm : Bool) (closed : Option CallRecord) (s : State) (h : s.storeBound) : (s.endReset warm closed).storeBound := by
  unfold State.endReset <;> (try dsimp only) <;> (repeat' split) <;> simp (maxDischargeDepth := 30) [h]

@[simp] theorem State.printerAtReset_bound (s : State) (h : s.storeBound) : (s.printerAtReset).storeBound := by
  unfold State.printerAtReset <;> (try dsimp only) <;> (repeat' split) <;> simp (maxDischargeDepth := 30) [h]

@[simp] theorem State.coldReset_bound (inputs : Inputs) (s : State) : (s.coldReset inputs).storeBound := by
  have h : (s.coldState inputs).storeBound := by
    simp [State.storeBound, State.reserved, State.coldState, State.reset]
  unfold State.coldReset; split <;> simp (maxDischargeDepth := 30) [h]

@[simp] theorem State.warmLine_bound (s : State) (h : s.storeBound) : (s.warmLine).storeBound := by
  unfold State.warmLine; simp (maxDischargeDepth := 30) [h]
  exact State.modTx_bound _ _ (by simp (maxDischargeDepth := 30) [h]) (by simp [State.reset])

@[simp] theorem State.warmTraffic_bound (s : State) (h : s.storeBound) : (s.warmTraffic).storeBound := by
  have h0 : (s.modStore fun _ => State.reset.store).storeBound := State.modStore_bound _ _ h (by simp [State.reset])
  unfold State.warmTraffic; simp (maxDischargeDepth := 30) [h0]

@[simp] theorem State.warmKeys_bound (s : State) (h : s.storeBound) : (s.warmKeys).storeBound := 
  State.storeBound_congr (State.warmKeys_shelf _) h

@[simp] theorem State.warmMechanism_bound (s : State) (h : s.storeBound) : (s.warmMechanism).storeBound := 
  State.storeBound_congr (State.warmMechanism_shelf _) h

@[simp] theorem State.warmStation_bound (closed : Option CallRecord) (s : State) (h : s.storeBound) : (s.warmStation closed).storeBound := 
  State.storeBound_congr (State.warmStation_shelf _ _) h

@[simp] theorem State.warmLink_bound (s : State) (h : s.storeBound) : (s.warmLink).storeBound := 
  State.storeBound_congr (State.warmLink_shelf _) h

@[simp] theorem State.warmReset_bound (s : State) (h : s.storeBound) : (s.warmReset).storeBound := by
  unfold State.warmReset; simp (maxDischargeDepth := 30) [h]

@[simp] theorem State.beginFrame_bound (f : OutFrame) (s : State) (h : s.storeBound) : (s.beginFrame f).storeBound := 
  State.storeBound_congr (State.beginFrame_shelf _ _) h

@[simp] theorem State.sendData_bound (s : State) (h : s.storeBound) : (s.sendData).storeBound := by
  unfold State.sendData <;> (try dsimp only) <;> (repeat' split) <;> simp (maxDischargeDepth := 30) [h]

@[simp] theorem State.sendNotice_bound (n : Notice) (s : State) (h : s.storeBound) : (s.sendNotice n).storeBound := 
  State.storeBound_congr (State.sendNotice_shelf _ _) h

theorem State.linkTake_bound (s t : State) (e : s.linkTake = some t) (h : s.storeBound) : t.storeBound := by
  unfold State.linkTake at e; (try dsimp only at e)
  (repeat' split at e) <;> first
    | (cases e; done)
    | (cases e; simp (maxDischargeDepth := 30) [h]; done)
    | (obtain ⟨a, ha, rfl⟩ := Option.map_eq_some_iff.mp e; simp (maxDischargeDepth := 30) [h])

@[simp] theorem State.linkTake_getD_bound (s : State) (h : s.storeBound) : ((s.linkTake).getD s).storeBound := by
  cases e : s.linkTake with
  | none => exact h
  | some t => exact State.linkTake_bound _ _ e h

@[simp] theorem State.frameSent_bound (rate : BitVec 2) (s : State) (h : s.storeBound) : (s.frameSent rate).storeBound := by
  unfold State.frameSent <;> (try dsimp only) <;> (repeat' split) <;> simp (maxDischargeDepth := 30) [h]

@[simp] theorem State.tick_bound (s : State) (h : s.storeBound) : (s.tick).storeBound := 
  State.storeBound_congr (State.tick_shelf _) h

end Sys2Proof.Machine
end

