-- ==== Sys2Proof/Laws/Commands.lean ====
section
/-! SUPPORT. The two operations that wrap every command: the idle-stop timer after it, and the taking of a good frame. -/

namespace Sys2Proof.Machine

/-! ## complete and motorWatch -/

/-- A command's outcome is its effect with the idle-stop timer watched: always a next state. -/
theorem complete_next (f : State → State) (s t : State) : complete f s = .next t ↔ s.motorWatch (f s) = t := by
  simp [complete]

/-- motorWatch touches the idle-stop timer alone. -/
theorem State.motorWatch_frame (s t : State) :
    s.motorWatch t = { t with motor := { t.motor with idleStop := (s.motorWatch t).motor.idleStop } } := by
  unfold State.motorWatch
  (repeat' split) <;> rfl

/-- motorWatch is the rule of R160. -/
theorem State.motorWatch_eq_idleWatched (s t : State) : s.motorWatch t = s.idleWatched t := by
  rw [State.motorWatch_frame]
  have h : (s.motorWatch t).motor.idleStop = (s.idleWatched t).motor.idleStop := by
    unfold State.motorWatch State.idleWatched State.modMotor startSecOrOff startSec secUnits
    cases hm : t.motor.state <;> cases ht : t.idleConditions <;> cases hs : s.idleConditions <;>
      cases hr : s.motor.state <;> simp
  rw [h]; rfl

@[simp] theorem State.motorWatch_core (s t : State) : (s.motorWatch t).core = t.core := by
  rw [State.motorWatch_frame]; rfl

@[simp] theorem State.motorWatch_log (s t : State) : (s.motorWatch t).log = t.log := by
  rw [State.motorWatch_frame]; rfl

@[simp] theorem State.motorWatch_shelf (s t : State) : (s.motorWatch t).shelf = t.shelf := by
  rw [State.motorWatch_frame]; rfl

@[simp] theorem State.motorWatch_tapeState (s t : State) : (s.motorWatch t).tapeState = t.tapeState := by
  rw [State.motorWatch_frame]; rfl

@[simp] theorem State.motorWatch_held (s t : State) : (s.motorWatch t).held = t.held := by
  rw [State.motorWatch_frame]; rfl

@[simp] theorem State.motorWatch_bound (s t : State) : (s.motorWatch t).storeBound ↔ t.storeBound := by
  rw [State.motorWatch_frame]; rfl

/-! ## Frames -/

/-- A good frame that is taken and gets its own reply (R191). -/
theorem State.takeFrame_ready (f : State → State × Reply) (s : State) (h : s.ready) :
    s.takeFrame f = State.answered (f s).1 (f s).2 := by
  obtain ⟨h1, h2, h3⟩ := h
  have hd : s.deaf = false := by simp [State.deaf, h1, h2]
  have hr : s.replyRoom = true := by simp [State.replyRoom, h2, h3]
  simp only [State.takeFrame, hd, State.answerFrame, hr, if_true, Bool.false_eq_true, if_false]
  rfl

/-- What a law of the state needs to stand after a good frame: that it stands after the frame's effect, and that neither the
reply queue nor the end of the silence disturbs it. -/
theorem State.takeFrame_keeps (P : State → Prop) (f : State → State × Reply) (s : State) (h : P s)
    (hf : P (f s).1) (hl : ∀ t g, P t → P (State.modLink g t)) (hs : ∀ t, P t → P (State.endSilence t)) :
    P (s.takeFrame f) := by
  unfold State.takeFrame State.answerFrame State.pushReply State.rejectBusy State.frameHunt
  (repeat' split)
  · exact h
  · exact hl _ _ (hs _ (hl _ _ hf))
  · exact hl _ _ (hs _ (hl _ _ h))

/-! ## Steps -/

/-- A law that the queue does not touch, that every command keeps and that the clock keeps is kept by every step. -/
theorem step_keeps (P : State → Prop) (hq : ∀ s l, P s → P (State.modPending (fun _ => l) s))
    (he : ∀ c s t, P s → exec c s = .next t → P t) (ht : ∀ s, P s → P (State.tick s)) (s t : State) (h : P s)
    (e : step s = .next t) : P t := by
  unfold step at e
  split at e
  · exact he _ _ _ (hq s _ h) e
  · split at e
    · exact he _ _ _ h e
    · injection e with e
      rw [← e]
      exact ht s h

end Sys2Proof.Machine
end

