-- ==== Sys2Proof/Laws/Outcomes.lean ====
section
/-! SUPPORT. The shared operations as the outcomes that Safety.lean names: what each one does, said once and whole. -/

set_option linter.all false

namespace Sys2Proof.Machine

/-- Two states are one when every field is. -/
theorem State.eq_of_fields (a b : State) (pins : a.pins = b.pins) (translate : a.translate = b.translate)
    (settings : a.settings = b.settings) (rx : a.rx = b.rx) (cal : a.cal = b.cal) (tx : a.tx = b.tx) (call :
    a.call = b.call) (store : a.store = b.store) (route : a.route = b.route) (matcher : a.matcher = b.matcher)
    (answer : a.answer = b.answer) (kb : a.kb = b.kb) (printer : a.printer = b.printer) (bell : a.bell = b.bell)
    (punch : a.punch = b.punch) (motor : a.motor = b.motor) (station : a.station = b.station) (link : a.link =
    b.link) (cond : a.cond = b.cond) (hostRx : a.hostRx = b.hostRx) (freeCount : a.freeCount = b.freeCount)
    (pending : a.pending = b.pending) : a = b := by
  cases a; cases b; simp_all

/-! ## Commands -/

/-- A command whose effect is known. -/
theorem complete_of_effect (f : State → State) (s t : State) (h : f s = t) :
    complete f s = .next (s.idleWatched t) := by
  unfold complete; rw [State.motorWatch_eq_idleWatched, h]

/-- A command of which something is known. -/
theorem complete_exists (f : State → State) (s : State) (P : State → Prop) (h : P (s.idleWatched (f s))) :
    ∃ t, complete f s = .next t ∧ P t :=
  ⟨_, complete_of_effect f s _ rfl, h⟩

/-- A good frame whose effect and reply are known (R191). -/
theorem complete_frame (f : State → State × Reply) (s t : State) (r : Reply) (h : s.ready) (e : f s = (t, r)) :
    complete (fun s => s.takeFrame f) s = .next (s.idleWatched (t.answered r)) := by
  rw [complete_of_effect _ _ _ rfl, State.takeFrame_ready f s h, e]

/-! ## Small operations -/

theorem bump_eq_counted (n : Nat) : bump n = counted n := by unfold bump counted; split <;> omega

theorem numberAfter_eq (s : State) : numberAfter s.station.nextNumber = s.followingNumber := rfl

/-- R184: the log with one more record. -/
theorem logWith_eq_logAfter (l : List CallRecord) (r : CallRecord) : logWith l r = logAfter l r := by
  unfold logWith logAfter; split
  · have : l.length - 15 = 0 := by omega
    simp [this]
  · rfl

/-- R12: a code's effect on the send shift. -/
theorem State.moveSendShift_eq (s : State) (c : Code) :
    s.moveSendShift c = { s with tx := { s.tx with shift := s.sendShiftAfter c } } := by
  unfold State.moveSendShift State.sendShiftAfter
  cases h : (s.entryAt s.tx.shift c).cls <;> simp [CharClass.names, State.modTx]

/-- A start cause touches the motor alone (R158). -/
theorem State.startCause_frame (s : State) : s.startCause = { s with motor := s.startCause.motor } := by
  unfold State.startCause; split <;> rfl

/-- A latched fault touches the fault store and the notices alone (R206). -/
theorem State.latch_frame (k : Nat) (s : State) :
    s.latch k = { s with cond := (s.latch k).cond, link := { s.link with notices := (s.latch k).link.notices } } := by
  unfold State.latch; split <;> rfl

/-- The bit that is latched stands in the fault store. -/
theorem State.latch_bit (k : Nat) (s : State) (h : k < 24) : (s.latch k).cond.faults.getLsbD k = true := by
  unfold State.latch
  split
  · assumption
  · have : (BitVec.ofNat 24 (2 ^ k)).getLsbD k = true := by
      rw [BitVec.getLsbD_ofNat, decide_eq_true h, Nat.testBit_two_pow_self]; rfl
    simp only [State.note, State.modLink, State.modCond, BitVec.getLsbD_or, this, Bool.or_true]

/-! ## The traffic store -/

theorem emptyHeads_dropWhile (es : List Entry) :
    es.drop (emptyHeads es) = es.dropWhile (fun e => e.pending.isEmpty) ∧
      emptyHeads es = es.length - (es.dropWhile fun e => e.pending.isEmpty).length := by
  induction es with
  | nil => simp [emptyHeads]
  | cons e es ih =>
    by_cases h : e.pending.isEmpty = true
    · have hl : (es.dropWhile fun e => e.pending.isEmpty).length ≤ es.length := by
        rw [← ih.1]; simp
      simp [emptyHeads, h, List.dropWhile, ih.1]
      omega
    · simp [emptyHeads, h, List.dropWhile]

/-- The removal of the empty heads (R71, R75, R81). -/
theorem State.trim_eq (s : State) :
    s.trim = { s with store := s.store.headsRemoved (s.cfg .storeHighWater) } := by
  obtain ⟨h1, h2⟩ := emptyHeads_dropWhile s.store.entries
  have hl : (s.store.entries.dropWhile fun e => e.pending.isEmpty).length
      = s.store.entries.length - emptyHeads s.store.entries := by rw [← h1]; simp
  unfold State.trim Store.headsRemoved
  dsimp only
  split
  · rename_i h
    rw [h] at h1 hl
    simp only [List.drop_zero] at h1
    rw [← h1]
    simp
  · rename_i h
    have hb : (emptyHeads s.store.entries != 0) = true := by simpa using h
    rw [← h2, ← h1]
    simp [State.modStore, Cursors.back, hb]

theorem nextHeld_getD (k : Sink) (i : Nat) (es : List Entry) (h : i ≤ es.length) :
    (nextHeld k i es).getD es.length = i + ((es.drop i).takeWhile fun e => !e.holds k).length := by
  have key : ∀ l : List Entry, ((l.findIdx? fun e => e.holds k).getD l.length)
      = (l.takeWhile fun e => !e.holds k).length := by
    intro l
    induction l with
    | nil => rfl
    | cons a l ih =>
      simp only [List.findIdx?_cons]
      by_cases ha : a.holds k = true
      · simp [ha]
      · simp only [ha, List.takeWhile]
        simp only [Bool.not_false, List.length_cons, ← ih]
        cases hh : l.findIdx? fun e => e.holds k <;> simp [hh]
  unfold nextHeld
  rw [← key]
  cases hh : (es.drop i).findIdx? fun e => e.holds k
  · simp; omega
  · simp

theorem releaseHeld_one (k : Sink) (es : List Entry) (e : Entry) (h : es[0]? = some e) (hk : e.holds k = true) :
    releaseHeld k 1 es = es.modify 0 fun e => { e with pending := e.pending.without k } := by
  cases es with
  | nil => simp at h
  | cons a l =>
    simp at h; subst h
    cases l <;> simp [releaseHeld, hk]

/-- The consumption of the entry at a sink's cursor (R74). -/
theorem State.consume_one (k : Sink) (s : State) (h : s.owes k) :
    s.consume k 1 = { s with store := s.storeAfter k } := by
  obtain ⟨e, he, hk⟩ := h
  have hi : s.store.cursors.get k < s.store.entries.length := by
    rcases Nat.lt_or_ge (s.store.cursors.get k) s.store.entries.length with h | h
    · exact h
    · rw [List.getElem?_eq_none h] at he; cases he
  have hm : s.store.entries.take (s.store.cursors.get k) ++ releaseHeld k 1 (s.store.entries.drop (s.store.cursors.get k))
      = s.store.entries.modify (s.store.cursors.get k) fun e => { e with pending := e.pending.without k } := by
    rw [releaseHeld_one k _ e (by simpa using he) hk,
      List.modify_eq_take_drop _ s.store.entries (s.store.cursors.get k)]
    cases s.store.entries.drop (s.store.cursors.get k) <;> rfl
  unfold State.consume State.storeAfter
  rw [State.trim_eq]
  simp only [State.modStore]
  rw [hm, nextHeld_getD]
  · rfl
  · simp; omega

/-- The release of the first n entries that hold CAPTURE (R74). -/
theorem releaseHeld_mapIdx (n : Nat) (l : List Entry) : releaseHeld .capture n l = l.mapIdx fun j e =>
      if ((l.take j).countP fun e => e.holds .capture) < n then { e with pending := e.pending.without .capture } else e := by
  induction l generalizing n with
  | nil => cases n <;> rfl
  | cons a l ih =>
    cases n with
    | zero =>
      apply List.ext_getElem?; intro i
      rw [List.getElem?_mapIdx]; simp [releaseHeld]
    | succ n =>
      rw [releaseHeld]
      by_cases ha : a.holds .capture = true
      · rw [if_pos ha, ih]; simp [List.mapIdx_cons, ha]
      · rw [if_neg ha, ih]
        have hw : { a with pending := a.pending.without .capture } = a := by
          simp [Entry.holds, SinkSet.has] at ha
          cases a with | mk _ _ _ _ _ _ _ p => cases p; simp_all [SinkSet.without]
        simp [List.mapIdx_cons, ha, hw]

/-- The consumption of a DATA frame's entries (R74, R203). -/
theorem State.consume_capture (n : Nat) (s : State) (h : s.store.cursors.capture ≤ s.store.entries.length) :
    s.consume .capture n = { s with store := s.storeTaken n } := by
  have hm : s.store.entries.take (s.store.cursors.get .capture)
        ++ releaseHeld .capture n (s.store.entries.drop (s.store.cursors.get .capture))
      = s.store.entries.mapIdx fun j e =>
        if s.store.cursors.capture ≤ j ∧
            (((s.store.entries.take j).drop s.store.cursors.capture).countP fun e => e.holds .capture) < n then
          { e with pending := e.pending.without .capture }
        else e := by
    have hg : s.store.cursors.get .capture = s.store.cursors.capture := rfl
    rw [releaseHeld_mapIdx, hg]
    generalize s.store.cursors.capture = i at *
    apply List.ext_getElem?
    intro j
    rw [List.getElem?_append, List.getElem?_mapIdx, List.getElem?_mapIdx, List.getElem?_drop]
    have hl : (s.store.entries.take i).length = i := by simp; omega
    rw [hl]
    by_cases hj : j < i
    · rw [if_pos hj, List.getElem?_take_of_lt hj]
      cases s.store.entries[j]? with
      | none => rfl
      | some e => simp; intro h; omega
    · rw [if_neg hj]
      have h1 : i ≤ j := by omega
      rw [show i + (j - i) = j by omega]
      cases s.store.entries[j]? <;> simp [h1, List.drop_take]
  unfold State.consume State.storeTaken
  rw [State.trim_eq]
  simp only [State.modStore]
  rw [hm, nextHeld_getD]
  · rfl
  · simp only [List.length_mapIdx]; exact h

/-! ## The course of a call -/

/-- R182: an outcome is set once. -/
theorem State.setOutcome_eq (o : CallOutcome) (s : State) : s.setOutcome o = s.ending o := by
  unfold State.setOutcome State.ending State.modRecord State.modStation
  cases h : s.station.record with
  | none => simp [h]
  | some r =>
    cases h' : r.outcome with
    | none => simp [h, h']
    | some x => cases r; simp_all

theorem State.endSend_eq (why : EndReason) (s : State) : (s.modKb fun k => { k with queue := [] }).endSend why
    = s.queuesEmptied why := by
  unfold State.queuesEmptied State.endSend
  cases h : s.link.send.armed <;> simp [State.modKb, State.modSend, State.modLink, State.modTx, State.note, h]

/-- R61, R64: the queues emptied, the SEND arming ended as CLEARED. -/
theorem State.emptyQueues_eq (s : State) : s.emptyQueues = s.queuesEmptied .cleared := State.endSend_eq _ s

/-- R65: the entry to CLEARING. -/
theorem State.enterClearing_eq (t : State) : t.enterClearing = t.cleared := by
  unfold State.enterClearing State.cleared
  by_cases hc : t.call.state = .connected
  · simp [hc, State.leaveConnected, State.modCal, State.modAnswer, State.modRecord, State.modStation,
      State.receiverOff, State.discardWork, State.modRx, State.modTx, State.modCall, secondsOf,
      Calibrator.measures, Calibrator.fresh, Call.quiet, startMs, msUnits, State.cfg]
  · simp [hc, State.leaveConnected, State.modCal, State.modAnswer, State.modRecord, State.modStation,
      State.receiverOff, State.discardWork, State.modRx, State.modTx, State.modCall, secondsOf,
      Calibrator.measures, Calibrator.fresh, Call.quiet, startMs, msUnits, State.cfg]

/-- R61, R62: a local clear taken in CONNECTED; a recorder loss also latches RECORDER_LOST. -/
theorem State.beginLocalClear_eq (o : CallOutcome) (s : State) (h : s.call.state = .connected)
    (hl : s.call.localClear = false) :
    s.beginLocalClear o = (s.latchIf (o == .recorderLost) Cond.recorderLost).localClearTaken o := by
  have hf : ∀ (u : State) (f : Call → Call),
      State.inFlight (State.modCall f ((u.ending o).queuesEmptied .cleared)) = u.inFlight := by
    intro u f
    cases ha : u.link.send.armed <;> cases hp : u.tx.phase <;>
      simp [State.inFlight, State.modCall, State.queuesEmptied, State.ending, TxPhase.uncounted, ha, hp]
  have hs : ∀ b, ((s.setOutcome o).latchIf b Cond.recorderLost) = (s.latchIf b Cond.recorderLost).ending o := by
    intro b
    rw [State.setOutcome_eq]
    unfold State.latchIf
    cases b
    · rfl
    · simp only [if_true]
      unfold State.latch
      by_cases g : s.cond.faults.getLsbD Cond.recorderLost = true
      · rw [if_pos (by exact g), if_pos g]
      · rw [if_neg (by exact g), if_neg g]; rfl
  have hc : (s.latchIf (o == .recorderLost) Cond.recorderLost).call.localClear = false := by
    unfold State.latchIf State.latch; (repeat' split) <;> exact hl
  unfold State.beginLocalClear State.localClearTaken
  simp only [h, hl, hc, hs, State.emptyQueues_eq, State.enterClearing_eq, bne_self_eq_false, Bool.or_false,
    Bool.false_eq_true, if_false, hf]
  rfl

/-- R62: with a local clear in progress a further cause is absorbed. -/
theorem State.beginLocalClear_absorbed (o : CallOutcome) (s : State) (hl : s.call.localClear = true) :
    s.beginLocalClear o = s := by
  unfold State.beginLocalClear; simp [hl]

/-- R92: the recorder test. -/
theorem State.recorderTest_eq (s : State) : s.recorderTest = s.recorderTested := by
  unfold State.recorderTest State.recorderTested State.recorderCondition
  by_cases h : s.recorderGone
  · obtain ⟨h1, h2, h3⟩ := h
    cases hl : s.call.localClear
    · rw [State.beginLocalClear_eq _ _ h2 hl]
      simp [h1, h2, h3, State.recorderGone, State.latchIf]
    · rw [State.beginLocalClear_absorbed _ _ hl]; simp
  · rw [if_neg (fun g => h (by simpa [State.recorderGone, and_assoc] using g)), if_neg (fun g => h g.1)]

/-- R89: a detachment. -/
theorem State.detach_eq (k : Sink) (s : State) :
    s.detach k = State.recorderTested { s with store := s.storeWithout k } := by
  unfold State.detach State.storeWithout
  rw [State.recorderTest_eq, State.trim_eq]
  rfl

/-- R181: the creation of a record. -/
theorem State.createRecord_eq (dir : Direction) (cs : List IChar) (s : State) :
    s.createRecord dir cs = s.recorded dir cs := rfl

/-- The progress counts that stay at a change of mode (R96, R101). -/
theorem SeqEntry.active_iff (e : SeqEntry) (m : Mode) : e.active m = true ↔ e.length ≠ 0 ∧ e.inMode m = true := by
  simp [SeqEntry.active]

/-- R57, R58, R92: the entry to CONNECTED. -/
theorem State.enterConnected_eq (s : State) : s.enterConnected = s.connectionBegun.recorderTested := by
  unfold State.enterConnected
  dsimp only
  rw [State.recorderTest_eq]
  congr 1
  have hrx : (if s.call.state = .selecting then s else s.receiverOn) =
      { s with rx := { s.rx with framing := if s.call.state = .selecting then s.rx.framing else .awaitMark } } := by
    split <;> rfl
  rw [hrx]
  have hd : ∀ t : State, t.station = s.station → t.direction = s.direction := by
    intro t ht; unfold State.direction; rw [ht]
  rw [hd _ (by rfl)]
  unfold State.connectionBegun
  have hdir : s.direction = .incoming ∨ s.direction = .outgoing := by cases s.direction <;> simp
  rcases hdir with hdir | hdir <;>
    simp only [hdir, State.beginIdentity, State.startCalibration, State.switchesAtConnect, State.clearProgress, State.modCal,
      State.modRoute, State.modMatcher, State.modRx, State.modTx, State.modCall, State.note, State.modLink, Calibrator.fresh,
      State.answerbackRequest, State.cfg, startSecOrOff, secondsOrOff, startMs, msUnits, startSec, secUnits,
      State.recordNumber, State.modAnswer]
  · by_cases h1 : s.settings[Setting.identityOnAnswer.index]?.getD 0 = 0
    · simp [h1]
    · by_cases h2 : s.settings[Setting.answerIdentityDelay.index]?.getD 0 = 0
      · cases hmm : s.answer.memory with
        | nil => simp [h1, h2]
        | cons a l => cases hr : s.answer.run <;> simp [h1, h2, hr]
      · simp [h1, h2]
  · by_cases h1 : s.settings[Setting.identityRequestAfterSelection.index]?.getD 0 = 0 <;> simp [h1]

/-- R52: the entry to ANSWERING. -/
theorem State.enterAnswering_eq (s : State) : s.enterAnswering = s.answerBegun := by
  unfold State.enterAnswering State.answerBegun
  dsimp only
  have hl : s.startCause.pins.loopOk = s.pins.loopOk := by rw [State.startCause_frame]
  have hc : s.startCause.call = s.call := by rw [State.startCause_frame]
  have hg : s.startCause.cfg .connectTimeout = s.cfg .connectTimeout := by rw [State.startCause_frame]; rfl
  simp only [State.enterConnected_eq, State.modCall, hl, hc, hg, startSec, secUnits]

/-- R48: the acceptance test. -/
theorem State.acceptanceTest_eq (s : State) : s.acceptanceTest = s.acceptanceTested := by
  unfold State.acceptanceTest State.acceptanceTested
  have ha : (s.latch Cond.answerbackEmpty).answer = s.answer := by rw [State.latch_frame]
  cases hm : s.answer.memory with
  | nil => simp [State.latchIf, State.enterRefused, State.modCall, State.refused, ha, hm]
  | cons c cs =>
    cases hn : s.namedSinkAttached (s.routeEntry .line .unattended) <;>
      simp [State.latchIf, hn, hm, State.enterRefused, State.modCall, State.refused, State.enterAnswering_eq]

/-- R45 to R48: an offer. -/
theorem State.offer_eq (s : State) : s.offer = s.offered := by
  unfold State.offer State.offered
  dsimp only
  rw [State.createRecord_eq]
  have hm : (s.recorded .incoming []).station.mode = s.station.mode := rfl
  rw [hm]
  cases s.station.mode
  · rfl
  · rfl
  · exact State.acceptanceTest_eq _

/-- R176: a change of the station mode. -/
theorem State.changeMode_eq (new : Mode) (dog : Bool) (s : State) : s.changeMode new dog = s.modeMoved new dog := by
  unfold State.changeMode State.modeMoved
  simp only [State.modStation, State.note, State.modLink, State.modMatcher, State.modKb, Matcher.keepActive,
    SeqEntry.active_iff, operatorFlagAfter, bne_iff_ne]
  split
  · rfl
  · split
    · rfl
    · cases hc : s.call.state <;> simp only []
      · exact State.acceptanceTest_eq _
      · rw [State.recorderTest_eq]
        congr 1
        unfold State.restartIdle State.modCall
        by_cases hl : s.call.localClear = true
        · rw [if_neg (fun g => by simp [hl] at g)]; simp only [if_pos hl]; rw [← hc]
        · rw [if_pos ⟨hc, by simpa using hl⟩]; simp only [if_neg hl, ← hc]; rfl

/-- R65, R184: the return to FREE. -/
theorem State.returnToFree_eq (s : State) (r : CallRecord) (o : CallOutcome) (h : s.station.record = some r)
    (ho : r.outcome = some o) :
    s.returnToFree = if s.pins.callIn = true then (s.freed r o).offered else s.freed r o := by
  have e : ((s.closeRecord.modStore fun t => { t with gap := 0 }).clearProgress).modCall (fun c => c.quiet .free)
      = s.freed r o := by
    unfold State.closeRecord State.freed
    simp [h, closedNotice, ho, State.noteMaybe, State.modStation, State.note, State.modLink, State.modStore,
      State.clearProgress, State.modMatcher, State.modCall, Call.quiet, logWith_eq_logAfter]
    rw [← ho]
  unfold State.returnToFree
  dsimp only
  rw [e, State.offer_eq]
  rfl

/-- R49, R51: the end of a call that was never answered. -/
theorem State.endUnanswered_eq (s : State) (r : CallRecord) (o : CallOutcome) (h : s.station.record = some r)
    (ho : r.outcome = none) (hc : s.pins.callIn = false) : s.endUnanswered o = s.freed r o := by
  have hp : (s.setOutcome o).pins = s.pins := by rw [State.setOutcome_eq]; rfl
  unfold State.endUnanswered
  rw [State.returnToFree_eq (s.setOutcome o) { r with outcome := some o } o
    (by simp [State.setOutcome, State.modRecord, State.modStation, h, ho]) rfl, hp, hc]
  unfold State.freed; simp [State.setOutcome, State.modRecord, State.modStation, h, ho]

/-! ## The transmitter -/

/-- R34 to R36: the take of a unit's first code, for an update `g` of what the transmitter's own fields do not reach. -/
theorem State.takeUnit_eq (s : State) (c : Code) (cs : List Code) (u : TxUnit) (g : State → State) (copy : SinkSet)
    (hc : copy = match u.source with | none => SinkSet.nowhere | some x => s.sinkSet x)
    (h : ∀ p t r, g (State.modTx (fun x => { x with phase := p, timer := t, reservation := x.reservation || r }) s)
      = { (g s) with tx := { (g s).tx with phase := p, timer := t, reservation := s.tx.reservation || r } }) :
    (((s.takeUnit (c :: cs) u).map g).getD s) = s.codeTaken (g s) copy c u (followed cs) := by
  have fo : followOf cs = followed cs := by cases cs <;> rfl
  unfold State.takeUnit State.codeTaken State.reserve
  simp only [fo]
  cases hs : u.source with
  | none =>
    simp only [hs] at hc
    subst hc
    have := h (.code c u (followed cs) s.elementUnits s.stopUnits) (some (6 * s.elementUnits + s.stopUnits)) false
    simp only [Bool.or_false] at this
    simp [SinkSet.nowhere, SinkSet.isEmpty, State.beginCode]
    exact this
  | some x =>
    simp only [hs] at hc
    subst hc
    have := h (.code c u (followed cs) s.elementUnits s.stopUnits) (some (6 * s.elementUnits + s.stopUnits))
      (!(s.sinkSet x).isEmpty)
    by_cases e : (s.sinkSet x).isEmpty = true
    · simp only [e, Bool.not_true, Bool.or_false] at this
      simp [e, State.beginCode]
      exact this
    · by_cases f : s.freeEntries = 0
      · simp [e, f]
      · simp only [e, Bool.not_false, Bool.or_true] at this
        simp [e, f, State.beginCode]
        exact this

/-! ## The printer -/

/-- R138, R140: a strike lands. -/
theorem State.strikeLands_eq (s : State) :
    s.strikeLands = State.modPrinter (fun p => { p with timer := none }) s.struck := by
  have hc : s.columnAfterStrike s.printer.column = s.columnStruck := rfl
  unfold State.strikeLands State.struck
  dsimp only
  rw [hc]
  split
  · rename_i h
    rw [if_pos (by exact h)]; rfl
  · rename_i h
    rw [if_neg (by exact h)]; rfl

theorem divert_entries (b : Bool) (n : Nat) (es : List Entry) :
    es.take n ++ (es.drop n).map (fun e =>
      if e.pending.print = true then { e with pending := { e.pending with punch := true } } else e)
    = es.mapIdx fun i e =>
        if n ≤ i ∧ e.pending.print = true then { e with pending := { e.pending with punch := true } } else e := by
  apply List.ext_getElem?
  intro i
  rw [List.getElem?_append, List.getElem?_mapIdx]
  by_cases hi : i < (es.take n).length
  · rw [if_pos hi]
    have h1 : i < n := by simp at hi; omega
    rw [List.getElem?_take_of_lt h1]
    cases es[i]? with
    | none => rfl
    | some e => simp; intro h; omega
  · rw [if_neg hi]
    simp only [List.getElem?_map, List.getElem?_drop, List.length_take] at *
    by_cases hn : n ≤ es.length
    · have h2 : n + (i - min n es.length) = i := by omega
      rw [h2]
      cases es[i]? with
      | none => rfl
      | some e =>
        have : n ≤ i := by omega
        simp [this]
    · have h1 : es[i]? = none := List.getElem?_eq_none (by omega)
      have h2 : es[n + (i - min n es.length)]? = none := List.getElem?_eq_none (by omega)
      rw [h1, h2]; rfl

/-- R91, R145, R150: the printer enters OUT from an attached state. -/
theorem State.printerOut_eq (jam : Bool) (s : State) : s.printerOut jam = s.printerLost jam := by
  unfold State.printerOut
  rw [State.detach_eq]
  unfold State.printerLost State.divert
  congr 1
  by_cases h : s.cfg .divertOnPrinterLoss = 1 ∧ s.station.mode = .unattended ∧ s.attached .punch = true
  · rw [if_pos (by exact h)]
    simp only [if_pos h]
    rw [← divert_entries true]
    rfl
  · rw [if_neg (by exact h)]
    simp only [if_neg h]
    rfl

/-- An entry to OUT keeps of the printer its column, and the last step of an aborted slew, alone. -/
theorem State.printerLost_printer (s : State) (p : Printer) (jam : Bool) (hc : p.column = s.printer.column)
    (ha : p.aborted = s.printer.aborted) (ht : p.stepTimer = s.printer.stepTimer) :
    State.printerLost jam { s with printer := p } = s.printerLost jam := by
  have e : ∀ q : Printer,
      ({ q with
          state := .out, jamHold := jam, op := none, timer := q.stepTimer, haltGrace := none, offRequest := false } : Printer)
        = { state := .out, jamHold := jam, column := q.column, op := none, timer := q.stepTimer, haltGrace := none
            offRequest := false, aborted := q.aborted } := fun _ => rfl
  unfold State.printerLost
  simp only [e, hc, ha, ht]
  rfl

/-- R149: the entry to HALTED. -/
theorem State.enterHalted_eq (s : State) : s.enterHalted = s.haltBegun := by
  unfold State.enterHalted State.haltBegun
  by_cases h : s.cfg .haltGrace = 0
  · rw [if_pos h]
    refine (if_pos h).trans ?_
    rw [State.printerOut_eq]
    refine State.printerLost_printer s
      { s.printer with
        state := .halted, op := none, timer := s.printer.stepTimer
        haltGrace := startSec (s.cfg .haltGrace) } false rfl rfl ?_
    simp only [Printer.stepTimer]
    cases s.printer.aborted <;> rfl
  · rw [if_neg h]
    exact if_neg h

/-- R144: the completion of an operation with no off request. -/
theorem State.operationDone_eq (s : State) (h : s.owes .print) (ho : s.printer.offRequest = false) :
    s.operationDone = s.printed := by
  unfold State.operationDone
  have hw : State.owes (s.modPrinter fun p => { p with op := none, timer := none }) .print := h
  rw [State.consume_one _ _ hw]
  have hs : State.storeAfter .print (s.modPrinter fun p => { p with op := none, timer := none }) = s.storeAfter .print := rfl
  rw [hs]
  unfold State.printed
  simp only [State.enterHalted_eq]
  have hb : ∀ u : State, State.haltBegun { u with printer := { u.printer with state := .idle } } = u.haltBegun := by
    intro u
    unfold State.haltBegun
    split
    · rename_i g
      rw [if_pos (by exact g)]
      exact State.printerLost_printer u { u.printer with state := .idle } false rfl rfl rfl
    · rename_i g
      rw [if_neg (by exact g)]; rfl
  simp only [State.modPrinter, ho, Bool.false_eq_true, if_false]
  by_cases h : s.pins.paperOut = true ∨ s.pins.headHot = true
  · rw [if_pos h]
    exact (if_pos (Bool.or_eq_true _ _ ▸ h)).trans (hb _).symm
  · rw [if_neg h]
    exact if_neg fun g => h ((Bool.or_eq_true _ _).mp g)

/-- R144: the completion of an operation, with or without the off request. -/
theorem State.operationDone_ended (s : State) (h : s.owes .print) :
    s.operationDone = s.operationEnded := by
  unfold State.operationEnded
  cases ho : s.printer.offRequest
  · rw [State.operationDone_eq s h ho]; rfl
  · rw [if_pos rfl]
    unfold State.operationDone State.printedOff
    have hw : State.owes (s.modPrinter fun p => { p with op := none, timer := none }) .print := h
    rw [State.consume_one _ _ hw]
    simp only [State.modPrinter, ho, if_true]
    rw [State.detach_eq]
    rfl

/-- R135 to R147: the last part of an operation. -/
theorem State.runParts_one (p : PrinterPart) (s : State) (h : s.owes .print) :
    s.runParts [p] = s.partBegun p := by
  have key : ∀ t : State, t.store = s.store → t.settings = s.settings → t.operationDone = t.operationEnded := by
    intro t ht hs
    refine State.operationDone_ended t ?_
    unfold State.owes; rw [ht]; exact h
  cases p with
  | strike c =>
    have hw : (s.wrapsAt s.printer.column = true) = (s.cfg .overflow = 1 ∧ s.cfg .width < s.printer.column) := by
      unfold State.wrapsAt; simp
    unfold State.partBegun State.runParts
    by_cases h' : s.cfg .overflow = 1 ∧ s.cfg .width < s.printer.column
    · rw [if_pos (hw.mpr h')]; simp only [if_pos h']; rfl
    · rw [if_neg (fun g => h' (hw.mp g))]; simp only [if_neg h']; rfl
  | space =>
    have hw : s.columnLimit ≤ s.printer.column ↔
        ¬ s.printer.column < s.cfg .width + (if s.cfg .overflow = 1 then 1 else 0) := by
      unfold State.columnLimit; omega
    unfold State.partBegun State.runParts
    by_cases h' : s.printer.column < s.cfg .width + (if s.cfg .overflow = 1 then 1 else 0)
    · rw [if_neg (fun g => hw.mp g h')]; simp only [if_pos h']; rfl
    · rw [if_pos (hw.mpr h')]; simp only [if_neg h']
      unfold State.runParts; exact key s rfl rfl
  | slew =>
    simp only [State.runParts, State.partBegun]
    by_cases hc : 1 < s.printer.column
    · rw [if_pos hc, if_neg (by omega)]
      simp only [State.beginStep, State.beginAction, State.newSlew, State.moving, State.slewBegun, hc, if_true,
        State.modPrinter, State.stepUnits]
    · rw [if_neg hc]
      by_cases hh : s.pins.home = true
      · rw [if_pos hh, if_pos ⟨by omega, hh⟩]; exact key _ rfl rfl
      · rw [if_neg hh, if_neg (by simp [hh])]
        simp only [State.beginStep, State.beginAction, State.newSlew, State.moving, State.slewBegun, hc, if_false,
          State.modPrinter, State.stepUnits, Slew.search]
  | feed => rfl
  | bell => simp only [State.runParts, State.partBegun]; exact key _ rfl rfl
  | silent => simp only [State.runParts, State.partBegun]; exact key _ rfl rfl

/-- R167, R170: the punch enters OUT from IDLE or BUSY. -/
theorem State.punchOut_eq (jam : Bool) (s : State) : s.punchOut jam = s.punchLost jam := by
  unfold State.punchOut
  rw [State.detach_eq]
  rfl

/-! ## The CAPTURE channel -/

theorem filter_countP (k : Sink) (es : List Entry) :
    (es.filter fun e => e.holds k).length = es.countP fun e => e.holds k := by
  rw [List.countP_eq_length_filter]

/-- R73, R202: what the CAPTURE channel gathers. -/
theorem State.gather_eq (s : State) (h : s.store.cursors.capture ≤ s.store.entries.length) : s.gather = s.gathered := by
  have hn := nextHeld_getD .capture s.store.cursors.capture s.store.entries h
  unfold State.gather State.gathered State.heldForCapture
  simp only [filter_countP]
  generalize List.countP (fun e => e.holds .capture) (s.store.entries.drop s.store.cursors.capture) = n
  by_cases hc : s.link.capture.state = .armed ∧ s.link.capture.closed = false ∧
      s.link.capture.taken < min (min s.link.capture.size s.link.capture.remaining) n
  · obtain ⟨h1, h2, h3⟩ := hc
    have g : ¬(s.link.capture.state != .armed || s.link.capture.closed ||
        decide (min (min s.link.capture.size s.link.capture.remaining) n ≤ s.link.capture.taken)) = true := by
      simp only [h1, h2, bne_self_eq_false, Bool.or_false, Bool.false_or, decide_eq_true_eq]; omega
    rw [if_neg g]
    simp only [if_pos (And.intro h1 (And.intro h2 h3))]
    by_cases h0 : s.link.capture.taken = 0
    · simp only [State.modCapture, State.modLink, State.modStore, h0, if_true, ← hn]; rfl
    · simp only [h0, if_false]
      simp only [State.modCapture, State.modLink, h0, if_false]; rfl
  · simp only [if_neg hc]
    rw [if_pos]
    by_contra g
    apply hc
    simp only [Bool.or_eq_true, bne_iff_ne, decide_eq_true_eq, not_or, Decidable.not_not, Bool.not_eq_true] at g
    exact ⟨g.1.1, g.1.2, by omega⟩

/-! ## The warm reset -/

/-- An empty store has nothing to release. -/
theorem State.storeWithout_nil (s : State) (h : s.store = State.reset.store) (k : Sink) : s.storeWithout k = s.store := by
  unfold State.storeWithout; rw [h]; cases k <;> simp [State.reset, Store.headsRemoved, Cursors.set]

/-- The printer enters OUT with the store empty and no record open. -/
theorem State.printerOut_fresh (s : State) (hs : s.store = State.reset.store) (hc : s.call.state ≠ .connected)
    (hr : s.station.record = none) (j : Bool) :
    s.printerOut j = s.modPrinter fun p => { p with
        state := .out, jamHold := j, op := none, timer := p.stepTimer, haltGrace := none, offRequest := false } := by
  rw [State.printerOut_eq]
  unfold State.printerLost State.recorderTested
  simp only [hs, hr]
  have hm : ∀ (c : Prop) [Decidable c], (if c then (List.mapIdx (fun i (e : Entry) =>
      if State.reset.store.cursors.punch ≤ i ∧ e.pending.print = true then
        { e with pending := { e.pending with punch := true } } else e) State.reset.store.entries)
      else State.reset.store.entries) = State.reset.store.entries := by
    intro c _; split <;> rfl
  simp only [hm]
  have hw : State.storeWithout .print { s with store := State.reset.store } = State.reset.store :=
    State.storeWithout_nil _ rfl _
  rw [if_neg]
  · rw [show ({State.reset.store with entries := State.reset.store.entries} : Store) = State.reset.store from rfl, hw]
    have : { s.station with record := none } = s.station := by cases hst : s.station; rw [hst] at hr; simp at hr; simp [hr]
    rw [← hs]; simp only [Option.map_none, this]; rfl
  · intro g; exact hc g.1.2.1


/-- A warm reset before the printer looks at its halt causes, the fault store and the notices empty. -/
def State.warmBase (s : State) : State :=
  { s.warmed s.pins.rate with
    printer := { State.reset.printer with column := s.printer.column }
    link := { (s.warmed s.pins.rate).link with notices := [] }
    cond := { s.cond with faults := 0 } }

/-- The blocks of a warm reset together. -/
theorem State.warmBase_eq (s : State) :
    (((s.warmLine.warmTraffic.warmKeys.warmMechanism).warmStation s.abandoned).warmLink.modCond fun c =>
      { c with faults := 0 }) = s.warmBase := by
  apply State.eq_of_fields
  all_goals first
    | (dsimp only [State.warmBase, State.warmed, State.warmStation, State.warmLink, State.warmMechanism,
        State.warmKeys, State.warmTraffic, State.warmLine, State.warmTape, State.modStation, State.modCond, State.modLink,
        State.modMotor, State.modPunch, State.modPrinter, State.modBell, State.modKb, State.modAnswer, State.clearProgress,
        State.switchesAtConnect, State.modStore, State.modMatcher, State.modRoute, State.modCall, State.modTx, State.modCal,
        State.receiverOff, State.modRx, Calibrator.fresh, State.cfg, startMs, msUnits]; done)
    | skip
  · dsimp only [State.warmBase, State.warmed, State.warmStation, State.warmLink, State.warmMechanism,
        State.warmKeys, State.warmTraffic, State.warmLine, State.warmTape, State.modStation, State.modCond, State.modLink,
        State.modMotor, State.modPunch, State.modPrinter, State.modBell, State.modKb, State.modAnswer, State.clearProgress,
        State.switchesAtConnect, State.modStore, State.modMatcher, State.modRoute, State.modCall, State.modTx, State.modCal,
        State.receiverOff, State.modRx, Calibrator.fresh, State.cfg, startMs, msUnits]
    rfl
  · dsimp only [State.warmBase, State.warmed, State.warmStation, State.warmLink, State.warmMechanism,
        State.warmKeys, State.warmTraffic, State.warmLine, State.warmTape, State.modStation, State.modCond, State.modLink,
        State.modMotor, State.modPunch, State.modPrinter, State.modBell, State.modKb, State.modAnswer, State.clearProgress,
        State.switchesAtConnect, State.modStore, State.modMatcher, State.modRoute, State.modCall, State.modTx, State.modCal,
        State.receiverOff, State.modRx, Calibrator.fresh, State.cfg, startMs, msUnits, State.abandoned]
    cases hr : s.station.record with
    | none => rfl
    | some r =>
      dsimp only [Option.map_some]
      rw [logWith_eq_logAfter]; rfl

/-- The live faults with no stuck key and the host not silent (R205). -/
theorem live_masked (t : State) (hk : t.stuckCount = 0) (hh : t.station.hostSilent = false) :
    t.live &&& Cond.liveFaults =
      (if t.pins.paperOut then 0x000001 else 0) ||| (if t.pins.headWarm then 0x000002 else 0)
      ||| (if t.pins.headHot then 0x000004 else 0) ||| (if t.pins.tapeLow then 0x000008 else 0)
      ||| (if t.punch.tape = 0 then 0x000010 else 0) := by
  have e : (if t.punch.tape = 0 then (0x000010 : CondSet) else 0) = if (t.punch.tape == 0) = true then 0x000010 else 0 := by
    by_cases h : t.punch.tape = 0 <;> simp [h]
  rw [e]
  unfold State.live
  rw [hk, hh]
  generalize (t.punch.tape == 0) = b1
  generalize (t.call.state == .offered) = b2
  generalize (t.call.state == .connected) = b3
  generalize (t.station.mode == .unattended) = b4
  generalize (t.motor.state == .running) = b5
  generalize t.pins.paperOut = b6
  generalize t.pins.headWarm = b7
  generalize t.pins.headHot = b8
  generalize t.pins.tapeLow = b9
  revert b1 b2 b3 b4 b5 b6 b7 b8 b9
  decide

/-- The notices of a warm reset (R208, R67). -/
theorem noted_refill (t : State) (n : Nat) (record : Option CallRecord) (sec : CallRecord → Nat)
    (h : t.link.notices = []) :
    let closed := record.map fun r => { r with outcome := some .abandoned, connectedSeconds := sec r }
    ((t.note (.restart true n ((closed.map (·.number)).getD 0))).noteMaybe (closed.bind closedNotice)).noteRefill =
      { t with
        link :=
          { t.link with
            notices :=
              .restart true n ((closed.map (·.number)).getD 0)
                :: ((closed.map fun r => .closed r.number .abandoned).toList
                  ++ (if t.cond.faults = 0 then [] else [.fault t.cond.faults])) } } := by
  cases record with
  | none =>
    by_cases hf : t.cond.faults = 0
    · simp [State.note, State.noteMaybe, State.noteRefill, State.modLink, hf, h, putNotice]
    · have hf' : ¬ t.cond.faults = 0#24 := hf
      simp [State.note, State.noteMaybe, State.noteRefill, State.modLink, hf', h, putNotice, Notice.kind]
  | some r =>
    by_cases hf : t.cond.faults = 0
    · simp [State.note, State.noteMaybe, State.noteRefill, State.modLink, hf, h, putNotice, closedNotice, Notice.kind]
    · have hf' : ¬ t.cond.faults = 0#24 := hf
      simp [State.note, State.noteMaybe, State.noteRefill, State.modLink, hf', h, putNotice, closedNotice, Notice.kind]

/-- R67: a warm reset, whole. -/
theorem State.warmReset_eq (s : State) : s.warmReset = (s.warmed s.pins.rate).offerIfCalled := by
  have e : s.warmReset = s.warmBase.printerAtReset.endReset true s.abandoned := by
    rw [← State.warmBase_eq]; rfl
  rw [e]
  unfold State.endReset
  dsimp only
  congr 1
  have hp : s.warmBase.printerAtReset = { s.warmBase with printer := (s.warmed s.pins.rate).printer } := by
    have hh : s.warmBase.haltCause = (s.pins.paperOut || s.pins.headHot) := rfl
    unfold State.printerAtReset
    rw [hh]
    cases hc : (s.pins.paperOut || s.pins.headHot)
    · rw [if_neg (by simp)]
      apply State.eq_of_fields
      all_goals first
        | (dsimp only [State.warmBase, State.warmed, State.warmStation, State.warmLink, State.warmMechanism,
        State.warmKeys, State.warmTraffic, State.warmLine, State.warmTape, State.modStation, State.modCond, State.modLink,
        State.modMotor, State.modPunch, State.modPrinter, State.modBell, State.modKb, State.modAnswer, State.clearProgress,
        State.switchesAtConnect, State.modStore, State.modMatcher, State.modRoute, State.modCall, State.modTx, State.modCal,
        State.receiverOff, State.modRx, Calibrator.fresh, State.cfg, startMs, msUnits]; done)
        | skip
      dsimp only [State.warmBase, State.warmed, State.warmStation, State.warmLink, State.warmMechanism,
        State.warmKeys, State.warmTraffic, State.warmLine, State.warmTape, State.modStation, State.modCond, State.modLink,
        State.modMotor, State.modPunch, State.modPrinter, State.modBell, State.modKb, State.modAnswer, State.clearProgress,
        State.switchesAtConnect, State.modStore, State.modMatcher, State.modRoute, State.modCall, State.modTx, State.modCal,
        State.receiverOff, State.modRx, Calibrator.fresh, State.cfg, startMs, msUnits]
      rw [hc]; rfl
    · rw [if_pos rfl]
      have hg : s.warmBase.cfg .haltGrace = s.cfg .haltGrace := rfl
      unfold State.enterHalted
      dsimp only
      rw [hg]
      by_cases h0 : s.cfg .haltGrace = 0
      · rw [if_pos (by exact h0), State.printerOut_fresh]
        · apply State.eq_of_fields
          all_goals first
            | (dsimp only [State.modPrinter]; done)
            | skip
          dsimp only [State.warmBase, State.warmed, State.warmStation, State.warmLink, State.warmMechanism,
        State.warmKeys, State.warmTraffic, State.warmLine, State.warmTape, State.modStation, State.modCond, State.modLink,
        State.modMotor, State.modPunch, State.modPrinter, State.modBell, State.modKb, State.modAnswer, State.clearProgress,
        State.switchesAtConnect, State.modStore, State.modMatcher, State.modRoute, State.modCall, State.modTx, State.modCal,
        State.receiverOff, State.modRx, Calibrator.fresh, startMs, msUnits]
          clear e hh hg
          simp only [hc, h0]; rfl
        · rfl
        · show CallState.free ≠ _; decide
        · rfl
      · rw [if_neg (by exact h0)]
        apply State.eq_of_fields
        all_goals first
          | (dsimp only [State.modPrinter]; done)
          | skip
        dsimp only [State.warmBase, State.warmed, State.warmStation, State.warmLink, State.warmMechanism,
        State.warmKeys, State.warmTraffic, State.warmLine, State.warmTape, State.modStation, State.modCond, State.modLink,
        State.modMotor, State.modPunch, State.modPrinter, State.modBell, State.modKb, State.modAnswer, State.clearProgress,
        State.switchesAtConnect, State.modStore, State.modMatcher, State.modRoute, State.modCall, State.modTx, State.modCal,
        State.receiverOff, State.modRx, Calibrator.fresh, startMs, msUnits]
        clear e hh hg
        simp only [hc, h0, ne_eq, not_false_eq_true, and_self, if_true]; rfl
  rw [hp]
  have hf : (State.refillFaults { s.warmBase with printer := (s.warmed s.pins.rate).printer }) =
     { s.warmBase with printer := (s.warmed s.pins.rate).printer, cond := (s.warmed s.pins.rate).cond } := by
    unfold State.refillFaults State.modCond
    apply State.eq_of_fields
    all_goals first
      | (dsimp only [State.modPrinter]; done)
      | skip
    have hl := live_masked { s.warmBase with printer := (s.warmed s.pins.rate).printer }
      (by
        show ((List.map (fun _ : KeyPos => ({ state := .up, count := 0, held := 0 } : KeyPos))
          s.kb.positions).filter _).length = 0
        rw [List.filter_map]; simp) rfl
    dsimp only at hl ⊢
    rw [hl]; rfl
  rw [hf]
  clear hp hf e
  have hn := noted_refill { s.warmBase with printer := (s.warmed s.pins.rate).printer, cond := (s.warmed s.pins.rate).cond }
    s.station.nextNumber s.station.record s.connectedSeconds rfl
  refine Eq.trans hn ?_
  rfl

/-! ## Settling a reservation, a cut of the tape, the entries of a WRITE -/

/-- R36: the reservation of a code, whole. -/
theorem State.reserve_eq (u : TxUnit) (s : State) :
    s.reserve u =
      if s.copied u = true ∧ s.freeEntries = 0 then none
      else some { s with tx := { s.tx with reservation := s.tx.reservation || s.copied u } } := by
  unfold State.reserve State.copied
  cases u.source with
  | none => simp
  | some src =>
    by_cases he : (s.sinkSet src).isEmpty = true
    · simp [he]
    · by_cases hf : s.freeEntries = 0 <;> simp [he, hf, State.modTx]

/-- R169, R170: the cut of the tape count to the reserve. -/
theorem State.cutTape_eq (s : State) : s.cutTape = s.tapeCut := by
  unfold State.cutTape State.tapeCut
  by_cases hr : s.cfg .tapeLowReserve = 0
  · by_cases ht : s.punch.tape = 0
    · rw [if_neg (by omega), if_pos (Or.inr ht)]
      simp [ht]; rw [← ht]
    · rw [if_pos (by omega), if_neg (by omega)]
      unfold State.setTape State.tapeEmptied
      rw [hr]
      have hp : ∀ t : State, State.punchOut false t = t.punchLost false := fun t => State.punchOut_eq false t
      have hs : ∀ b : Bool, (State.latchIf b Cond.tapeOut (s.modPunch fun p => { p with tape := 0 })).punch.state
          = s.punch.state := by
        intro b; unfold State.latchIf State.latch; (repeat' split) <;> rfl
      simp only [hp, hs, true_and, beq_self_eq_true, Bool.true_and]
      rfl
  · rw [if_pos (c := s.cfg .tapeLowReserve ≠ 0 ∨ s.punch.tape = 0) (Or.inl hr)]
    by_cases hc : s.cfg .tapeLowReserve < s.punch.tape
    · rw [if_pos hc]
      unfold State.setTape
      have hm : min s.punch.tape (s.cfg .tapeLowReserve) = s.cfg .tapeLowReserve := by omega
      simp [hr, State.latchIf, State.modPunch, hm]
    · rw [if_neg hc, Nat.min_eq_left (by omega)]

/-- R193: a body cut into entries is a whole number of them, each in its place. -/
theorem chunks_some (n fuel : Nat) (l : List Byte) (cs : List (List Byte)) (h : chunks n fuel l = some cs) :
    l.length = n * cs.length ∧ ∀ i c, cs[i]? = some c → c = (l.drop (n * i)).take n := by
  induction fuel generalizing l cs with
  | zero =>
    unfold chunks at h
    split at h
    · rename_i hl; cases h; simp_all
    · cases h
  | succ fuel ih =>
    unfold chunks at h
    split at h
    · rename_i hl; cases h; simp_all
    · split at h
      · cases h
      · rename_i h1 h2
        cases hc : chunks n fuel (l.drop n) with
        | none => rw [hc] at h; cases h
        | some ds =>
          rw [hc] at h; cases h
          obtain ⟨a, b⟩ := ih _ _ hc
          refine ⟨?_, ?_⟩
          · rw [List.length_drop] at a; simp only [List.length_cons, Nat.mul_succ]; omega
          · intro i c hi
            cases i with
            | zero => simp at hi; simp [hi]
            | succ i =>
              rw [List.getElem?_cons_succ] at hi
              rw [b i c hi, List.drop_drop, Nat.mul_succ, Nat.add_comm n]

theorem allSome_some {α : Type} (l : List (Option α)) (es : List α) (h : allSome l = some es) : l = es.map some := by
  induction l generalizing es with
  | nil => cases h; rfl
  | cons a l ih =>
    cases a with
    | none => cases h
    | some a =>
      unfold allSome at h
      cases hl : allSome l with
      | none => rw [hl] at h; cases h
      | some ds => rw [hl] at h; cases h; rw [ih ds hl]; rfl

/-- R193: the entries that a WRITE's body spells: at least one, a whole number of them, each read from its own bytes. -/
theorem parseEntries_some {α : Type} (n : Nat) (parse : List Byte → Option α) (data : List Byte) (es : List α)
    (h : parseEntries n parse data = some es) :
    es ≠ [] ∧ data.length = n * es.length ∧
      ∀ i e, es[i]? = some e → parse ((data.drop (n * i)).take n) = some e := by
  unfold parseEntries at h
  cases hc : chunks n data.length data with
  | none => rw [hc] at h; cases h
  | some cs =>
    rw [hc] at h
    obtain ⟨a, b⟩ := chunks_some n _ _ _ hc
    dsimp only at h
    split at h
    · cases h
    · rename_i hne
      have hm := allSome_some _ _ h
      have hl : cs.length = es.length := by simpa using congrArg List.length hm
      refine ⟨?_, by rw [← hl]; exact a, ?_⟩
      · intro he; subst he; simp at hl; simp [hl] at hne
      · intro i e hi
        have hi' : (cs.map parse)[i]? = some (some e) := by rw [hm]; simp [hi]
        simp only [List.getElem?_map, Option.map_eq_some_iff] at hi'
        obtain ⟨c, hc', hp⟩ := hi'
        rw [← b i c hc']; exact hp

/-- R193: the body that the entries of a WRITE spell is read back as them. -/
theorem parseEntries_flatMap {α : Type} (n : Nat) (hn : 0 < n) (parse : List Byte → Option α) (bytes : α → List Byte)
    (es : List α) (hb : ∀ e ∈ es, (bytes e).length = n ∧ parse (bytes e) = some e) (he : es ≠ []) :
    parseEntries n parse (es.flatMap bytes) = some es := by
  have hch : ∀ (fs : List α) (fuel : Nat), (∀ e ∈ fs, (bytes e).length = n) → (fs.flatMap bytes).length ≤ fuel →
      chunks n fuel (fs.flatMap bytes) = some (fs.map bytes) := by
    intro fs
    induction fs with
    | nil => intro fuel _ _; cases fuel <;> rfl
    | cons f fs ih =>
      intro fuel hl hf
      have h1 : (bytes f).length = n := hl f (by simp)
      simp only [List.flatMap_cons, List.length_append] at hf ⊢
      cases fuel with
      | zero => omega
      | succ fuel =>
        unfold chunks
        have hne : (bytes f ++ fs.flatMap bytes).isEmpty = false := by
          cases hbf : bytes f with
          | nil => rw [hbf] at h1; simp at h1; omega
          | cons _ _ => rfl
        rw [if_neg (by simp [hne]), if_neg (by simp; omega)]
        rw [List.drop_left' h1, List.take_left' h1, ih fuel (fun e h => hl e (by simp [h])) (by omega)]
        rfl
  unfold parseEntries
  rw [hch es _ (fun e h => (hb e h).1) (Nat.le_refl _)]
  dsimp only
  rw [if_neg (by cases es <;> simp_all)]
  have : es.map (parse ∘ bytes) = es.map some := List.map_congr_left fun e h => (hb e h).2
  rw [List.map_map, this]
  clear this hch he hb
  induction es with
  | nil => rfl
  | cons e es ih => simp [allSome, ih]

end Sys2Proof.Machine
end

