-- ==== Sys2Proof/WellFormed.lean ====
section
/-! DEFINITION. Which commands the wires can carry: a frame body holds at most 64 bytes (section 10.1), a character at most
113 sixteenths to its stop sample (R19). -/

namespace Sys2Proof

/-- The most bytes of a frame body (section 10.1). -/
def WellFormed.maxBody : Nat := 64

/-- The most sixteenths from a start edge to the stop sample, both ends counted: sixteenth 112 is the last (R19). -/
def WellFormed.maxLevels : Nat := 113

/-- A WRITE body: two header bytes and the entries. -/
def WellFormed.write (entries : List Byte) : Bool := entries.length + 2 ≤ WellFormed.maxBody

/-- The operands that need a check; every other operand's type holds exactly what its wires can carry. -/
def wellFormed : Instr → Bool
  | .characterDelivered line => line.length ≤ WellFormed.maxLevels
  | .stopSampleAtSpace line => line.length ≤ WellFormed.maxLevels
  | .writeTranslate _ es => WellFormed.write es
  | .writeRoute _ es => WellFormed.write es
  | .writeSequence _ es => WellFormed.write es
  | .writeKeymap _ es => WellFormed.write es
  | .writeAnswerback _ es => WellFormed.write es
  | .writeSettings _ es => WellFormed.write es
  | .writeSignals _ es => WellFormed.write es
  | .writeLog _ es => WellFormed.write es
  | .read body => body.length ≤ WellFormed.maxBody
  | .status body => body.length ≤ WellFormed.maxBody
  | .text chars => chars.length ≤ WellFormed.maxBody
  | .orderCall chars => chars.length + 1 ≤ WellFormed.maxBody
  | .orderUnknownCode body => body.length ≤ WellFormed.maxBody
  | .writeUnknownTable body => body.length ≤ WellFormed.maxBody
  | .coldReset _ | .receivedBreak | .holdoffExpiry | .identityCaptureGapExpiry
  | .transmitterTake | .codeCompletion | .breakSendEnd | .breakGuardEnd | .localPathTake _
  | .callInAsserted | .callInDeasserted | .answerDelayExpiry | .loopOkAsserted | .loopOkDeasserted
  | .lossTimerExpiry | .connectTimerExpiry | .proceedTimerExpiry | .identityTimerExpiry
  | .idleClearExpiry | .clearingGuardExpiry | .keyboardScan _ | .bellPulseEnd
  | .printerTakeEntry _ | .strikeDone | .coolingPauseEnd | .feedDone | .printerResponseLimitExpiry
  | .carriageStepEnd _ | .haltCauseChange _ _ | .printerHaltGraceExpiry | .headWarmChange _
  | .punchTakeWork | .punchDone | .punchResponseLimitExpiry | .tapeLowChange _
  | .runUpExpiry | .idleStopExpiry | .hostWatchdogExpiry
  | .frameBadCheck | .frameBadLength | .frameGapTimeout | .frameByteError | .frameUnknownKind
  | .orderMode _ | .orderAckRestart | .orderReset | .orderAnswer | .orderClear | .orderAnswerback
  | .orderIdentify | .orderBreak | .orderArmSend _ | .orderArmCapture _ _ | .orderDisarmSend
  | .orderDisarmCapture | .orderHoldSend _ | .orderHoldCapture _ | .orderPrinterOff
  | .orderPrinterOn | .orderPunchOff | .orderPunchOn | .orderPunchLeader _ | .orderTapeLoaded _
  | .orderMotorStart | .orderMotorStop | .orderClearFaults _ | .orderNoticeMask _
  | .orderCalibrate | .orderLogDiscard _ | .captureFlushExpiry | .linkTransmitterTake
  | .linkFrameSent _ | .startEdge | .falseStart | .lineReturnToMark => true

end Sys2Proof
end

