-- ==== Sys2Proof/Tests/Slice0.lean ====
section
/-! SUPPORT. The model's own tests: ill-formed commands refused, frames read, one step of each family on a small state, and for
each claim with premises a state and operands that meet them. -/

namespace Sys2Proof.Tests

set_option maxRecDepth 8000
set_option Elab.async false

open Sys2Proof.Machine

/-! ## Small states -/

/-- The state after a command. -/
def after (c : Instr) (s : State) : State :=
  match exec c s with
  | .next t => t
  | .fault _ | .refused _ => s

/-- The letters half of a small translation table. -/
def lettersHalf : Nat → TransEntry
  | 0 => ⟨0, .null⟩ | 1 => ⟨69, .print⟩ | 2 => ⟨10, .lf⟩ | 3 => ⟨65, .print⟩ | 4 => ⟨32, .space⟩ | 5 => ⟨83, .print⟩
  | 8 => ⟨13, .cr⟩ | 9 => ⟨68, .print⟩ | 12 => ⟨78, .print⟩ | 27 => ⟨14, .figs⟩ | 31 => ⟨15, .ltrs⟩
  | _ => ⟨0, .unassigned⟩

/-- The figures half. -/
def figuresHalf : Nat → TransEntry
  | 0 => ⟨0, .null⟩ | 1 => ⟨51, .print⟩ | 2 => ⟨10, .lf⟩ | 3 => ⟨45, .print⟩ | 4 => ⟨32, .space⟩ | 5 => ⟨7, .bell⟩
  | 8 => ⟨13, .cr⟩ | 9 => ⟨5, .ident⟩ | 12 => ⟨44, .print⟩ | 27 => ⟨14, .figs⟩ | 31 => ⟨15, .ltrs⟩
  | _ => ⟨0, .unassigned⟩

/-- A station in FREE and ATTENDED mode, its table loaded, no notice pending. -/
def station : State :=
  { State.reset with
    translate := (List.range 32).map lettersHalf ++ (List.range 32).map figuresHalf
    station := { State.reset.station with mode := .attended, restartPending := false }
    link := { State.reset.link with notices := [] } }

def setMode (m : Mode) (s : State) : State := { s with station := { s.station with mode := m } }

/-- A call in a state, LOOP_OK asserted, its record open. -/
def inCall (c : CallState) (d : Direction) : State :=
  { station with
    pins := { station.pins with loopOk := true }
    call := { station.call with state := c }
    station := { station.station with record := some (station.newRecord d []), nextNumber := 2 } }

def connected : State := inCall .connected .incoming

/-- LOOP_OK as it is not. -/
def offLine (s : State) : State := { s with pins := { s.pins with loopOk := false } }

/-- Every route entry names the three sinks; LINE where it may stand. -/
def routed (s : State) : State :=
  { s with
    route :=
      { s.route with
        table :=
          List.replicate 3 ⟨true, true, true, false⟩ ++ List.replicate 6 ⟨true, true, true, true⟩
            ++ List.replicate 3 ⟨true, true, true, false⟩ } }

def entryOf (code : Code) (sh : Shift) (e : TransEntry) : Entry :=
  { code := code, shift := sh, char := e.char, cls := e.cls, source := .line, mutilated := false, gapBefore := false
    pending := ⟨true, false, false⟩ }

/-- The letter S as a stored entry owed to the printer. -/
def letterS : Entry := entryOf 5 .letters ⟨83, .print⟩

def stored (es : List Entry) (s : State) : State := { s with store := { s.store with entries := es } }

def running (s : State) : State := { s with motor := { s.motor with state := .running } }

/-- The printer IDLE with one entry owed to it and the motor RUNNING. -/
def printing (e : Entry) : State := stored [e] (running connected)

/-- The printer BUSY with an action on its one entry. -/
def printerIn (a : PrinterAction) : State :=
  { printing letterS with printer := { station.printer with state := .busy, op := some ⟨a, []⟩ } }

/-- The punch IDLE with tape. -/
def punching (tape : Nat) (s : State) : State :=
  { s with punch := { s.punch with state := .idle, tape := tape } }

/-- The punch BUSY with an operation on one entry owed to it. -/
def punchIn (op : PunchOp) (tape : Nat) : State :=
  { stored [{ letterS with pending := ⟨false, true, false⟩ }] (running connected) with
    punch := { station.punch with state := .busy, tape := tape, op := some op } }

/-- The transmitter sending the code of E. -/
def sending (u : TxUnit) (f : Follow) (s : State) : State := { s with tx := { s.tx with phase := .code 1 u f 1 1 } }

def withSend (q : List IChar) (n : Nat) (s : State) : State :=
  { s with link := { s.link with send := { armed := true, held := false, remaining := n, queue := q } } }

def withKeys (q : List IChar) (s : State) : State := { s with kb := { s.kb with queue := q } }

def withAnswerback (s : State) : State := { s with answer := { s.answer with memory := [31, 5, 1] } }

def setCall (f : Call → Call) (s : State) : State := { s with call := f s.call }

def setSetting (k : Setting) (v : Nat) (s : State) : State := { s with settings := s.settings.set k.index v }

/-- A sixteenth-by-sixteenth character with ideal edges. -/
def wave (code : Code) : List Level :=
  List.replicate 16 .space ++
    (List.range 5).flatMap fun k => List.replicate 16 (if code.getLsbD k then Level.mark else Level.space)

/-- The same with the stop element at space. -/
def badWave (code : Code) : List Level := wave code ++ List.replicate 17 .space

def assembling (s : State) : State := { s with rx := { s.rx with framing := .assemble } }

/-- CONNECTED with the receiver in STOP_SPACE, five marks sampled, the line at a level. -/
def atStopSpace (l : Level) : State :=
  { connected with
    pins := { connected.pins with lineRx := l }
    rx := { connected.rx with framing := .stopSpace, levels := List.replicate 5 .mark } }

/-- Bytes waiting on HOST_RX, the first beginning at once. -/
def bytesOn (bs : List Byte) (s : State) : State :=
  { s with hostRx := { s.hostRx with bytes := bs.map fun b => ⟨0, (linkBits b).extractLsb' 1 9⟩ } }

/-- A byte of HOST_RX at its last unit, the frame receiver in a state. -/
def lastUnit (bits : BitVec 9) (rx : FrameRx) (s : State) : State :=
  { s with hostRx := ⟨[⟨0, bits⟩], some 1⟩, link := { s.link with rx := rx } }

/-! ## Ill-formed commands -/

theorem test_wellFormed_refuses_114_levels :
    wellFormed (.characterDelivered (List.replicate 114 .mark)) = false ∧
      wellFormed (.stopSampleAtSpace (List.replicate 114 .mark)) = false := by decide

theorem test_wellFormed_refuses_63_bytes_after_a_write_header :
    wellFormed (.writeTranslate 0 (List.replicate 63 0)) = false ∧
      wellFormed (.writeRoute 0 (List.replicate 63 0)) = false ∧
      wellFormed (.writeSequence 0 (List.replicate 63 0)) = false ∧
      wellFormed (.writeKeymap 0 (List.replicate 63 0)) = false ∧
      wellFormed (.writeAnswerback 0 (List.replicate 63 0)) = false ∧
      wellFormed (.writeSettings 0 (List.replicate 63 0)) = false ∧
      wellFormed (.writeSignals 0 (List.replicate 63 0)) = false ∧
      wellFormed (.writeLog 0 (List.replicate 63 0)) = false := by decide

theorem test_wellFormed_refuses_bodies_of_65_bytes :
    wellFormed (.read (List.replicate 65 0)) = false ∧ wellFormed (.status (List.replicate 65 0)) = false ∧
      wellFormed (.text (List.replicate 65 0)) = false ∧ wellFormed (.orderCall (List.replicate 64 0)) = false ∧
      wellFormed (.orderUnknownCode (List.replicate 65 0)) = false ∧
      wellFormed (.writeUnknownTable (List.replicate 65 0)) = false := by decide

theorem test_wellFormed_accepts_the_longest :
    wellFormed (.characterDelivered (List.replicate 113 .mark)) = true ∧
      wellFormed (.writeTranslate 0 (List.replicate 62 0)) = true ∧ wellFormed (.text (List.replicate 64 0)) = true ∧
      wellFormed (.orderCall (List.replicate 63 0)) = true := by decide

/-! ## Frames (R190, section 10.9) -/

theorem test_frames_of_each_kind :
    frameCommands [0xA5, 0x03, 0x00, 0xD4] = [.status []] ∧
      frameCommands [0xA5, 0x04, 0x02, 0x01, 0x01, 0xC5] = [.orderMode 1] ∧
      frameCommands [0xA5, 0x05, 0x03, 69, 51, 68, 0x19] = [.text [69, 51, 68]] ∧
      frameCommands [0xA5, 0x01, 0x04, 0x01, 0x03, 65, 0, 0x97] = [.writeTranslate 3 [65, 0]] ∧
      frameCommands [0xA5, 0x04, 0x03, 10, 0, 5, 0x63] = [.orderArmSend 5] := by decide

theorem test_frames_that_name_nothing :
    frameCommands [0xA5, 0x09, 0x00, 0x07] = [.frameUnknownKind] ∧
      frameCommands [0xA5, 0x04, 0x02, 99, 0, 0x67] = [.orderUnknownCode [99, 0]] ∧
      frameCommands [0xA5, 0x01, 0x02, 9, 0, 0x5E] = [.writeUnknownTable [9, 0]] := by decide

theorem test_frames_that_are_bad :
    frameCommands [0xA5, 0x03, 0x00, 0x00] = [.frameBadCheck] ∧
      frameCommands [0x00, 0xA5, 0x03, 0x41, 0x00] = [.frameBadLength] ∧ frameCommands [0xA5, 0x03] = [] := by decide

theorem test_no_word_spells_a_command : decodeTableWord 8 0xA5 = none := rfl

theorem test_bits_of_a_byte_on_the_link : linkBits 0xA5 = 0b1101001010#10 ∧ linkByte 0b110100101#9 = some 0xA5 ∧
    linkByte 0b010100101#9 = none := by decide

theorem test_receiver_stores_the_bytes_of_a_frame :
    (lastUnit 0x1A5 .hunt station).tick.link.rx = .kind ∧ (lastUnit 0x103 .kind station).tick.link.rx = .len 3 ∧
      (lastUnit 0x102 (.len 4) station).tick.link.rx = .body 4 2 [] ∧
      (lastUnit 0x101 (.body 4 2 []) station).tick.link.rx = .body 4 2 [1] ∧
      (lastUnit 0x101 (.body 4 2 [1]) station).tick.link.rx = .check 4 [1, 1] := by decide +kernel

theorem test_receiver_ends_a_frame :
    (lastUnit 0x1C5 (.check 4 [1, 1]) station).tick.pending = [.orderMode 1] ∧
      (lastUnit 0x1C4 (.check 4 [1, 1]) station).tick.pending = [.frameBadCheck] ∧
      (lastUnit 0x141 (.len 4) station).tick.pending = [.frameBadLength] ∧
      (lastUnit 0x001 (.body 4 2 []) station).tick.pending = [.frameByteError] ∧
      (lastUnit 0x001 .hunt station).tick.pending = [] := by decide +kernel

theorem test_gap_between_bytes_drops_the_frame :
    let s := (lastUnit 0x1A5 .hunt station).tick
    s.link.gap = some 14401 ∧ s.nextDue = none ∧
      ({ s with link := { s.link with gap := some 0 } }).nextDue = some .frameGapTimeout := by decide +kernel

/-! ## One step of each family -/

theorem test_step_takes_the_front :
    step { station with pending := [.orderAckRestart, .startEdge] } =
      exec .orderAckRestart { station with pending := [.startEdge] } := rfl

theorem test_step_on_reset_sends_a_notice : State.reset.nextDue = some .linkTransmitterTake ∧ station.nextDue = none := by
  decide +kernel

theorem test_character_delivered_is_stored :
    (after (.characterDelivered (wave 1)) (assembling (routed connected))).store.entries.map (fun e => (e.code, e.char)) =
      [(1, 69)] := by decide +kernel

theorem test_mutilated_character_is_stored_as_such :
    let s := routed connected
    (after (.characterDelivered []) { s with rx := { s.rx with framing := .stopSpace, levels := List.replicate 5 .mark } }
      ).store.entries.map (fun e => (e.code, e.mutilated)) = [(31, true)] := by decide +kernel

theorem test_figures_shift_reads_the_figures_half :
    let s := assembling (routed connected)
    ((after (.characterDelivered (wave 27)) s).rx.shift,
      (after (.characterDelivered (wave 1)) { s with rx := { s.rx with shift := .figures } }).store.entries.map (·.char)) =
        (.figures, [51]) := by decide +kernel

theorem test_stop_sample_at_space_keeps_the_units :
    (after (.stopSampleAtSpace (badWave 9)) (assembling { connected with rx := { connected.rx with threshold := 86400 } })).rx.levels =
      [.mark, .space, .space, .mark, .space] := by decide +kernel

theorem test_line_back_at_mark_delivers_the_mutilated_character :
    (after .lineReturnToMark (routed (atStopSpace .space))).store.entries.map (fun e => (e.code, e.mutilated)) =
      [(31, true)] := by decide +kernel

theorem test_no_break_while_the_line_is_at_mark :
    (after .receivedBreak (atStopSpace .mark)).rx.framing = .stopSpace ∧
      (atStopSpace .mark).nextDue = some .lineReturnToMark := by decide +kernel

theorem test_break_discards_the_keyboard_queue :
    let s := withKeys [69] (atStopSpace .space)
    let t := after .receivedBreak s
    t.kb.queue = [] ∧ t.rx.framing = .brk ∧ (t.station.record.map (·.flags.breakReceived)) = some true := by decide +kernel

theorem test_transmitter_takes_send_before_keyboard :
    let s := routed (withKeys [65] (withSend [69] 3 connected))
    (after .transmitterTake s).tx.phase = .code 1 (.send true) .last s.elementUnits s.stopUnits := by decide +kernel

theorem test_transmitter_sends_a_shift_first :
    let s := routed (withKeys [51] connected)
    (after .transmitterTake s).tx.phase = .code 27 .keyboard (.code 1) s.elementUnits s.stopUnits := by decide +kernel

theorem test_code_completion_counts_and_copies :
    let t := after .codeCompletion (sending .keyboard .last (routed connected))
    (t.station.record.map fun r => (r.sent, r.storedStation)) = some (1, 1) ∧ t.store.entries.map (·.char) = [69] := by
  decide +kernel

/-- A full store, the copy of the shift code of a pair in its reserved place. -/
def pairOnFullStore : State :=
  let s := sending .keyboard (.code 1) (routed (stored (List.replicate 255 letterS) connected))
  { s with tx := { s.tx with reservation := true } }

theorem test_second_reservation_is_held_while_loop_ok_is_absent :
    let t := after .codeCompletion (sending .keyboard (.code 1) (routed (offLine connected)))
    t.tx.phase = .unitWait 1 .keyboard false ∧ t.tx.reservation = true ∧
      (after .transmitterTake t).tx = t.tx := by decide +kernel

theorem test_second_reservation_waits_for_a_free_entry :
    let t := after .codeCompletion (offLine pairOnFullStore)
    let u := after .transmitterTake { t with store := { t.store with entries := t.store.entries.drop 1 } }
    (t.tx.phase, t.tx.reservation, t.store.entries.length) = (.unitWait 1 .keyboard true, false, 256) ∧
      (after .transmitterTake t).tx = t.tx ∧ (u.tx.phase, u.tx.reservation) = (.unitWait 1 .keyboard false, true) := by
  decide +kernel

/-- Log 44: the pair that waits for an entry goes on when its route is withdrawn, the store still full. -/
theorem test_pair_with_no_sink_left_needs_no_reservation :
    let t := after .codeCompletion pairOnFullStore
    let u := after .transmitterTake { t with route := station.route }
    t.tx.phase = .unitWait 1 .keyboard true ∧ u.store.entries.length = 256 ∧ u.tx.reservation = false ∧
      u.tx.phase = .code 1 .keyboard .last u.elementUnits u.stopUnits := by decide +kernel

theorem test_clear_waits_for_the_code_in_flight :
    let s := setCall (fun c => { c with localClear := true }) (sending .keyboard .last connected)
    let t := after .codeCompletion s
    t.call.state = .clearing ∧ (t.station.record.map (·.sent)) = some 1 := by decide +kernel

theorem test_local_path_copies_without_the_line :
    let t := after (.localPathTake .keyboard) (routed (withKeys [69] station))
    t.store.entries.map (·.char) = [69] ∧ t.kb.queue = [] ∧ t.motor.state = .runup := by decide +kernel

theorem test_offer_in_attended_mode :
    (after .callInAsserted station).call.state = .offered ∧
      (after .callInAsserted station).link.notices = [.call false .incoming 1] := by decide +kernel

theorem test_offer_in_unattended_mode_without_answerback :
    let t := after .callInAsserted (setMode .unattended station)
    t.call.state = .refused ∧ t.cond.faults.getLsbD Cond.answerbackEmpty = true := by decide +kernel

theorem test_withdrawn_offer_is_missed :
    let s := inCall .offered .incoming
    let t := after .callInDeasserted { s with pins := { s.pins with callIn := true } }
    t.call.state = .free ∧ t.station.log.map (·.outcome) = [some .missed] := by decide +kernel

theorem test_answering_connects_on_loop :
    (after .loopOkAsserted (offLine (inCall .answering .incoming))).call.state = .connected := by decide +kernel

theorem test_clearing_guard_ends_the_call :
    let s := inCall .clearing .incoming
    let s := (setCall (fun c => { c with guard := some 0 }) s).ending .localClear
    let t := after .clearingGuardExpiry s
    t.call.state = .free ∧ t.station.log.length = 1 ∧ t.link.notices = [.closed 1 .localClear] := by decide +kernel

theorem test_key_goes_down_after_three_scans :
    let p : KeyPos := { state := .pressing, count := 2, held := 0 }
    let s := { station with
      kb := { station.kb with positions := station.kb.positions.set 4 p, keymap := station.kb.keymap.set 4 (.char 69) } }
    let t := after (.keyboardScan 0x10) s
    t.kb.positions[4]? = some { state := .down, count := 0, held := 0 } ∧ t.kb.queue = [69] := by decide +kernel

/-- Position 63 with an entry; it is pressed at the first closed sample. -/
def keyed (e : KeyEntry) (s : State) : State :=
  setSetting .pressDebounce 1 { s with kb := { s.kb with keymap := s.kb.keymap.set 63 e } }

theorem test_clear_key_in_every_call_state :
    [CallState.offered, .answering, .calling, .selecting, .connected, .refused].map (fun c =>
      (after (.keyboardScan (1 <<< 63)) (keyed (.function .clear) (inCall c .incoming))).call.state) =
      [.refused, .clearing, .clearing, .clearing, .clearing, .refused] := by decide +kernel

theorem test_answer_key_on_a_standing_loop_connects :
    (after (.keyboardScan (1 <<< 63)) (keyed (.function .answer) (inCall .offered .incoming))).call.state = .connected := by
  decide +kernel

theorem test_here_is_key_with_an_empty_memory :
    let t := after (.keyboardScan (1 <<< 63)) (keyed (.function .hereIs) connected)
    t.cond.faults.getLsbD Cond.answerbackEmpty = true ∧ t.answer = connected.answer := by decide +kernel

theorem test_printer_strikes_and_moves :
    (after (.printerTakeEntry true) (printing letterS)).printer.op = some ⟨.strike 83, []⟩ ∧
      (after .strikeDone (printerIn (.strike 83))).printer.column = 2 ∧
      (after .strikeDone (printerIn (.strike 83))).store.entries = [] := by decide +kernel

/-- Log 45: a step rate written during the gap strike of a SPACE is that of its step. -/
theorem test_space_after_its_gap_strike_uses_the_step_rate_that_stands :
    let s := after (.printerTakeEntry false) (printing { letterS with cls := .space, gapBefore := true })
    let t := after .strikeDone (setSetting .stepRate 100 s)
    s.printer.op = some ⟨.strike 35, [.space]⟩ ∧ t.printer.op = some ⟨.space, []⟩ ∧ t.printer.timer = some 2880 := by
  decide +kernel

theorem test_slew_finds_home :
    let w : Slew := { size := 2, stepTime := 720, len := 2, extra := 0 }
    (after (.carriageStepEnd true) (printerIn (.slew w none))).printer.column = 1 := by decide +kernel

theorem test_printer_jam_and_return :
    let t := after .printerResponseLimitExpiry (printerIn (.strike 83))
    t.printer.state = .out ∧ t.printer.jamHold = true ∧ t.store.entries = [] ∧
      (after .orderPrinterOn t).printer.state = .idle := by decide +kernel

theorem test_paper_out_halts_the_printer :
    (after (.haltCauseChange true false) station).printer.state = .halted ∧
      (after (.haltCauseChange true false) station).cond.faults.getLsbD Cond.paperOut = true := by decide +kernel

theorem test_halt_grace_of_zero_takes_the_printer_out :
    let t := after (.haltCauseChange true false) (setSetting .haltGrace 0 (printing letterS))
    t.printer.state = .out ∧ t.printer.jamHold = false ∧ t.store.entries = [] ∧
      (t.station.record.map (·.flags.printerLost)) = some true := by decide +kernel

theorem test_code_punched_at_a_count_of_zero :
    let t := after .punchDone (punchIn (.entry 0 31 5) 0)
    t.punch.state = .out ∧ t.punch.tape = 0 ∧ (t.station.record.map (·.punched)) = some 1 ∧ t.store.entries = [] ∧
      t.cond.faults.getLsbD Cond.tapeOut = connected.cond.faults.getLsbD Cond.tapeOut := by decide +kernel

theorem test_last_code_of_the_tape :
    let t := after .punchDone (punchIn (.entry 0 31 5) 1)
    t.punch.state = .out ∧ t.punch.tape = 0 ∧ (t.station.record.map (·.punched)) = some 1 ∧
      t.cond.faults.getLsbD Cond.tapeOut = true := by decide +kernel

/-- The unattended recorder has gone: the printer alone was named, and it is lost. -/
theorem test_lost_recorder_clears_the_call :
    let s := routed (setMode .unattended (printerIn (.strike 83)))
    let t := after .printerResponseLimitExpiry s
    t.cond.faults.getLsbD Cond.recorderLost = true ∧ t.call.state = .clearing ∧
      t.station.record.map (·.outcome) = some (some .recorderLost) := by decide +kernel

theorem test_motor_runs_up_then_runs :
    (after .orderMotorStart station).motor.state = .runup ∧
      (after .runUpExpiry (after .orderMotorStart station)).motor.state = .running := by decide +kernel

theorem test_write_and_read_back :
    let t := after (.writeTranslate 3 [66, 0]) station
    (after (.read [1, 3, 1]) t).link.replies = [.grant, .table [66, 0]] := by decide +kernel

theorem test_keymap_refuses_what_names_nothing :
    [[3, 0], [0, 1], [1, 128], [2, 8], [1], []].map (fun b => (after (.writeKeymap 0 b) station).link.replies) =
      List.replicate 6 [.reject .range] := by decide +kernel

theorem test_reserve_of_zero_empties_the_tape :
    let s := punching 9 { station with pins := { station.pins with tapeLow := true } }
    let t := after (.writeSettings 34 [0, 1, 0, 0]) s
    t.punch.tape = 0 ∧ t.punch.state = .out ∧ t.cfg .gapMarkerCount = 1 ∧ t.link.replies = [.grant] := by decide +kernel

theorem test_setting_out_of_range :
    (after (.writeSettings 0 [0, 4]) station).link.replies = [.reject .range] ∧
      (after (.writeSettings 0 [0, 3]) station).cfg .lineSpeed = 3 := by decide +kernel

theorem test_signal_follows_a_condition :
    let t := after (.writeSignals 0 [2, 0, 0, 1]) station
    t.link.replies = [.grant] ∧ t.sigLevel 0 = false ∧
      (after (.haltCauseChange true false) t).sigLevel 0 = true := by decide +kernel

theorem test_text_waits_for_room :
    (after (.text [69, 69]) (withSend (List.replicate 63 69) 200 connected)).link.replies = [.wait 1] := by decide +kernel

theorem test_capture_frame_is_taken :
    let s := routed (after (.orderArmCapture 5 1) connected)
    let t := after (.characterDelivered (wave 1)) (assembling { s with link := { s.link with replies := [] } })
    t.link.capture.closed = true ∧
      (after .linkTransmitterTake t).link.sending = some (.data (t.heldForCapture.flatMap Entry.item)) ∧
      (after .linkTransmitterTake t).link.capture.remaining = 4 := by decide +kernel

theorem test_watchdog_makes_the_station_unattended :
    let t := after .hostWatchdogExpiry { station with station := { station.station with watchdog := some 0 } }
    t.station.mode = .unattended ∧ t.station.hostSilent = true ∧
      t.link.notices = [.mode .unattended .attended true, .fault 0x000050] := by decide +kernel

theorem test_report_has_55_bytes : station.report.length = 55 := by decide +kernel

theorem test_log_discard : (after (.orderLogDiscard 1)
    { station with station := { station.station with log := [station.newRecord .incoming []] } }).station.log = [] := by
  decide +kernel

theorem test_outputs_at_reset :
    let s := State.reset
    s.lineTx = .mark ∧ s.seize = false ∧ s.motorOn = false ∧ s.strike = false ∧ s.feed = false ∧ s.carStep = false ∧
      s.punchDrive = false ∧ s.bellOn = false ∧ s.hostTx = none ∧ ∀ n < 4, s.sigLevel n = false := by decide +kernel

theorem test_outputs_while_reset_stands_asserted :
    let s := sending .keyboard .last (running connected)
    let t := { s with pins := { s.pins with reset := true } }
    (s.seize = true ∧ s.lineTx = .mark ∧ s.motorOn = true) ∧ t.seize = false ∧ t.lineTx = .mark ∧ t.motorOn = false := by
  decide +kernel

theorem test_time_stands_still_while_reset_stands_asserted :
    let s := { station with pins := { station.pins with reset := true }, kb := { station.kb with scanTimer := some 0 } }
    s.nextDue = none ∧ s.tick = s := by decide +kernel

theorem test_a_scan_drives_one_line_at_a_time :
    scanDrive 3 = 0x08 ∧ scanSense 0x0000000005000000 3 = 5 ∧ station.kbDrive = 0 := by decide

theorem test_cold_reset_is_the_reset_state :
    after (.coldReset Inputs.quiet) connected = State.reset := by decide +kernel

theorem test_warm_reset_keeps_the_table :
    let s := { connected with link := { connected.link with sending := some (.reply .resetGrant) } }
    let t := after (.linkFrameSent 0) s
    t.translate = s.translate ∧ t.station.log.map (·.outcome) = [some .abandoned] ∧
      t.link.notices.head? = some (.restart true 2 1) := by decide +kernel

/-- Log 46: a warm reset out of a call, its offer accepted in the same command, shows no drop of SEIZE. -/
theorem test_warm_reset_with_an_accepted_offer_shows_no_drop_of_seize :
    let s := routed (withAnswerback { offLine connected with
      pins := { (offLine connected).pins with callIn := true }, link := { connected.link with sending := some (.reply .resetGrant) } })
    let t := after (.linkFrameSent 0) s
    (t.call.state, s.seize, t.seize, t.motorOn) = (.answering, true, true, true) ∧
      t.station.log.map (·.outcome) = [some .abandoned] := by decide +kernel

/-- Log 47: the end of CAPTURE, the one recorder of the call, also ends SEND; CAPTURE's CHANNEL notice alone is left. -/
theorem test_capture_notice_replaces_that_of_send :
    let s := setMode .unattended (withSend [69] 3 connected)
    let s := { s with
      route := { s.route with table := List.replicate 12 { print := false, punch := false, line := false, capture := true } }
      link := { s.link with capture := { s.link.capture with state := .armed, remaining := 5 } } }
    let t := after .orderDisarmCapture s
    t.link.send.armed = false ∧ t.link.notices.filter (·.kind == 5) = [.channel true .disarmed 5] := by decide +kernel

/-! ## The premises of the claims are met -/

theorem test_meets_StepTakesTheFrontCommand :
    { station with pending := [.startEdge] }.pending = .startEdge :: [] := rfl

theorem test_meets_StepOnEmptyQueueFollowsTheClock :
    (State.reset.pending = [] ∧ State.reset.nextDue = some .linkTransmitterTake) ∧
      (station.pending = [] ∧ station.nextDue = none) ∧
      { station.pins with reset := true }.reset = true := by decide +kernel

/-- A call REFUSED in RUNNING, CALL_IN asserted. -/
def withdrawn : State :=
  let s := running (inCall .refused .incoming);
  { s with pins := { s.pins with callIn := true } }

theorem test_meets_IdleStopTimerAfterEveryCommand :
    (∃ t, exec .runUpExpiry { connected with motor := ⟨.runup, some 0, none⟩ } = .next t ∧ t.motor.state = .running ∧
      t.idleConditions = false) ∧
    (∃ t, exec .runUpExpiry { station with motor := ⟨.runup, some 0, none⟩ } = .next t ∧ t.motor.state = .running ∧
      t.idleConditions = true ∧ State.idleConditions { station with motor := ⟨.runup, some 0, none⟩ } = true) ∧
    (∃ t, exec .callInDeasserted withdrawn = .next t ∧ t.motor.state = .running ∧
      t.idleConditions = true ∧ withdrawn.idleConditions = false) :=
  ⟨⟨_, rfl, by decide +kernel⟩, ⟨_, rfl, by decide +kernel⟩, ⟨_, rfl, by decide +kernel⟩⟩

theorem test_meets_WarmResetKeepsAndSets :
    ∀ b ∈ [true, false],
      let s := { connected with
        pins := { connected.pins with callIn := b }, link := { connected.link with sending := some (.reply .resetGrant) } };
      s.link.sending = some (.reply .resetGrant) ∧ s.pins.callIn = b := by decide +kernel

theorem test_meets_EveryStepKeepsTheModeLaw : station.modeLaw ∧ ∃ t, step station = .next t := ⟨Or.inr ⟨rfl, rfl⟩, _, rfl⟩

/-- The fullest store: 255 entries and the reservation. -/
def fullStore : State :=
  let s := stored (List.replicate 255 letterS) connected;
  { s with tx := { s.tx with reservation := true } }

theorem test_meets_EveryStepKeepsTheStoreLaws :
    fullStore.storeBound ∧ fullStore.headOwed ∧ fullStore.sinkLaw ∧ fullStore.countLaw ∧ ∃ t, step fullStore = .next t := by
  refine ⟨?_, ?_, ?_, ?_, ?_⟩
  · unfold State.storeBound State.reserved; decide +kernel
  · intro e h; cases h; rfl
  · intro k
    refine ⟨by cases k <;> decide +kernel, fun i e h hk => ?_⟩
    have he : e = letterS := List.eq_of_mem_replicate (List.mem_of_getElem? h)
    subst he
    cases k
    · exact ⟨by decide +kernel, Nat.zero_le i⟩
    · exact absurd hk (by decide)
    · exact absurd hk (by decide)
  · intro r h _; cases h; rfl
  · exact ⟨_, rfl⟩

/-- The fullest log. -/
def fullLog : State :=
  { station with station := { station.station with log := List.replicate 16 (station.newRecord .incoming []) } }

theorem test_meets_EveryStepKeepsTheLogAndPunchLaws :
    fullLog.logBound ∧ fullLog.punchLaw ∧ (punchIn .leader 2).punchLaw ∧ (fullLog.recordLaw ∧ fullLog.clearLaw) ∧
      (connected.recordLaw ∧ connected.clearLaw) ∧ (∃ t, step fullLog = .next t) ∧ (∃ t, step connected = .next t) ∧
      ∃ t, step (punchIn .leader 2) = .next t := by
  refine ⟨?_, ?_, ?_, ?_, ?_, ⟨_, rfl⟩, ⟨_, rfl⟩, ⟨_, rfl⟩⟩
  · unfold State.logBound; decide +kernel
  · unfold State.punchLaw; decide +kernel
  · unfold State.punchLaw; decide +kernel
  · unfold State.recordLaw State.clearLaw; decide +kernel
  · unfold State.recordLaw State.clearLaw; decide +kernel

theorem test_meets_EveryStepKeepsTheSettings : station.settingsLaw ∧ ∃ t, step station = .next t := by
  refine ⟨⟨rfl, ?_, ?_⟩, _, rfl⟩
  · intro k; cases k <;> rfl
  · decide +kernel

theorem test_meets_ReceiverFramingEvents :
    ∀ f ∈ [Framing.off, .hunt, .assemble, .stopSpace, .awaitMark, .brk],
      { connected with rx := { connected.rx with framing := f } }.rx.framing = f := by decide

theorem test_meets_SpaceAtTheStopSampleAndReceivedBreak :
    let s (n : Nat) : State := assembling { connected with rx := { connected.rx with threshold := connected.stopSampleUnits + n } }
    (∀ n < 2, (s n).rx.framing = .assemble ∧ levelAt (badWave 9) 8 = .space ∧
      levelAt (badWave 9) (s n).stopSample = .space) ∧
      (s 1).stopSampleUnits < (s 1).rx.threshold ∧ (s 0).rx.threshold ≤ (s 0).stopSampleUnits ∧
      (∀ l ∈ [Level.mark, .space], (atStopSpace l).pins.reset = false ∧ (atStopSpace l).rx.framing = .stopSpace ∧ (atStopSpace l).pins.lineRx = l) ∧
      connected.rx.framing ≠ .stopSpace := by decide +kernel

theorem test_meets_DeliveredCharacterIsRouted :
    let s := assembling connected;
    let full := stored (List.replicate 256 letterS) (routed s)
    let low := stored (List.replicate 191 letterS) (routed s)
    (s.delivers (wave 1) = some (1, true) ∧ (s.sinkSet .line).isEmpty = true) ∧
      (full.delivers (wave 1) = some (1, true) ∧ (full.sinkSet .line).isEmpty = false ∧ full.freeEntries = 0) ∧
      ((routed s).delivers (wave 1) = some (1, true) ∧ ((routed s).sinkSet .line).isEmpty = false ∧
        (routed s).freeEntries ≠ 0 ∧ (routed s).store.cursors.capture ≤ (routed s).store.entries.length) ∧
      (low.delivers (wave 1) = some (1, true) ∧ low.freeEntries ≠ 0 ∧ low.store.armed = true ∧
        low.cfg .storeHighWater ≤ (low.store.entries ++ [low.lineEntry 1 true]).length ∧
        low.store.cursors.capture ≤ low.store.entries.length) ∧
      (atStopSpace .mark).delivers [] = some (31, false) := by decide +kernel

theorem test_meets_ReceiveShiftAfterACharacter :
    let s := assembling connected;
    (s.delivers (wave 27) = some (27, true) ∧ (s.translated 27).cls = .figs) ∧
      (s.delivers (wave 31) = some (31, true) ∧ (s.translated 31).cls = .ltrs) ∧
      (s.delivers (wave 4) = some (4, true) ∧ (s.translated 4).cls = .space) ∧
      s.delivers (wave 1) = some (1, true) := by decide +kernel

/-- One sequence entry of one character. -/
def seqOf (a : SeqAction) : SeqEntry :=
  { length := 1, pattern := [69, 0, 0, 0, 0, 0, 0, 0], action := a, inLocal := true, inAttended := true
    inUnattended := true, noticeFlag := false }

def matching (a : SeqAction) (m : Mode) : State :=
  let s := setMode m (assembling connected);
  { s with matcher := { s.matcher with table := s.matcher.table.set 15 (seqOf a) } }

theorem test_meets_MatcherProgressAndActions :
    (∀ m ∈ [Mode.attended, .unattended], ∀ b ∈ [true, false],
      let s := setCall (fun c => { c with localClear := b }) (matching .clear m);
      let s := { s with matcher := { s.matcher with table := s.matcher.table.set 14 (seqOf .notice) } };
      s.delivers (wave 1) = some (1, true) ∧ s.call.state = .connected ∧ s.matcher.table.length = 16 ∧
        s.matcher.progress.length = 16 ∧ s.matcher.table[15]? = some (seqOf .clear) ∧ s.matcher.progress[15]? = some 0 ∧
        s.completions (s.translated 1) = [] ++ (14, seqOf .notice) :: [(15, seqOf .clear)] ∧
        (seqOf .notice).action = .notice ∧ s.station.mode = m ∧ s.call.localClear = b) ∧
    ((atStopSpace .mark).delivers [] = some (31, false) ∧ (atStopSpace .mark).call.state = .connected) := by
  decide +kernel

theorem test_higher_index_acts_last :
    let s := matching .printOn .attended
    let s := { s with matcher := { s.matcher with table := s.matcher.table.set 14 (seqOf .printOff) } }
    let u := matching .clear .unattended
    (after (.characterDelivered (wave 1)) s).route.printSwitch = true ∧
      ((after (.characterDelivered (wave 1)) u).station.record.map (·.outcome)) = some (some .sequenceClear) := by
  decide +kernel

theorem test_meets_CalibratorAfterAGoodCharacter :
    (∀ st ∈ [CalState.measuring, CalState.settled], ∀ n ∈ [14, 15],
      let s := { assembling connected with cal := { connected.cal with state := st, count := n } };
      s.rx.framing = .assemble ∧ s.delivers (wave 1) = some (1, true) ∧ s.call.state = .connected ∧
        (s.cal.state = .measuring ∨ s.cal.state = .settled) ∧ s.completions (s.translated 1) = []) ∧
    (let s (st : CalState) (m : Nat) (p : Nat) : State :=
      { assembling connected with cal := { connected.cal with state := st, count := 65535, maxM := m, p := p } };
      let ds (s : State) : List Int := displacementsOf (wave 1) (sampleLevels s.rx.samplePoint (wave 1));
      let b (s : State) : Int := Int.tdiv (s.cal.sumS + sumOf (ds s)) (s.cal.sumT + (ds s).length : Nat);
      let good (s : State) : Prop :=
        s.cfg .window ≤ s.cal.count + 1 ∧ s.cal.sumT + (ds s).length ≠ 0 ∧
          ¬(8 + b s < 2 ∨ 14 < 8 + b s ∨ s.cfg .distortionLimit < max s.cal.maxM (largestOf (ds s)));
      (s .measuring 99 8).cfg .distortionLimit < 99 ∧
        (good (s .measuring 0 8) ∧ (s .measuring 0 8).cfg .calibrationMode = 2) ∧
        (good (s .settled 0 2) ∧ (s .settled 0 2).cfg .band < ((8 + b (s .settled 0 2)) - (2 : Int)).natAbs) ∧
        good (s .settled 0 8) ∧ ¬(s .settled 0 8).cfg .band < ((8 + b (s .settled 0 8)) - (8 : Int)).natAbs) := by
  decide +kernel

theorem test_meets_HoldoffExpiryAndOrderCalibrate :
    { connected with cal := { connected.cal with state := .holdoff, holdoff := some 0 } }.cal.holdoff.isSome = true ∧
      connected.ready := ⟨rfl, rfl, rfl, by decide⟩

theorem test_meets_IdentityCaptureWindow :
    (∀ n ∈ [0, 19],
      let s := { assembling connected with answer := { connected.answer with window := some n, gapTimer := some 0 } };
      s.answer.gapTimer.isSome = true ∧ s.call.state = .connected ∧ s.answer.window = some n ∧
        (∀ c ∈ [(1 : Code), 2], s.delivers (wave c) = some (c, true) ∧ s.completions (s.translated c) = []) ∧
        (s.translated 1).cls = .print ∧ (s.translated 2).cls = .lf) ∧
    (let s := { atStopSpace .mark with answer := { connected.answer with window := some 19, gapTimer := some 0 } };
      s.delivers [] = some (31, false) ∧ s.call.state = .connected) := by decide +kernel

theorem test_meets_BreakFromItsTakeToItsGuardEnd :
    (connected.tx.phase = .free ∧ (offLine connected).pins.loopOk = false ∧
      (setCall (fun c => { c with localClear := true }) connected).call.localClear = true ∧
      station.call.state ≠ .selecting ∧ station.call.state ≠ .connected) ∧
    (let s := { connected with tx := { connected.tx with breakPending := true } };
      s.tx.phase = .free ∧ s.pins.loopOk = true ∧ s.call.localClear = false ∧ s.call.state = .connected ∧
        s.tx.breakPending = true) ∧
    { connected with tx := { connected.tx with phase := .brk } }.tx.phase = .brk ∧
    (let s := { connected with tx := { connected.tx with phase := .breakGuard } };
      s.tx.phase = .breakGuard ∧ s.call.localClear = false) ∧
    (let s := setCall (fun c => { c with localClear := true }) { connected with tx := { connected.tx with phase := .breakGuard } };
      s.tx.phase = .breakGuard ∧ s.call.localClear = true ∧ s.call.state = .connected) := by decide +kernel

theorem test_meets_TransmitterTakesACode :
    (∀ s ∈ [connected, inCall .selecting .outgoing],
      s.tx.phase = .free ∧ s.pins.loopOk = true ∧ s.call.localClear = false ∧ s.tx.breakPending = false) ∧
    (let s := { withAnswerback connected with answer := { memory := [31, 5, 1], run := some 2, window := none, gapTimer := none } };
      s.call.state = .connected ∧ s.answer.run = some 2 ∧ s.answer.memory[2]? = some 1) ∧
    (∀ r ∈ [IdentRequest.byOrder, IdentRequest.afterSelection],
      let s := { connected with tx := { connected.tx with identPending := some r } };
      s.call.state = .connected ∧ s.answer.run = none ∧ s.identCodes = some [27, 9] ∧ s.tx.identPending = some r) ∧
    (let s := routed (withSend [69] 1 connected);
      s.tx.identPending = none ∧ s.namesLine .host = true ∧ s.link.send.armed = true ∧ s.link.send.held = false ∧
        s.link.send.queue = [69] ∧ s.resolve s.tx.shift 69 = some [(1, ⟨69, .print⟩)]) ∧
    (let s := routed (withKeys [51] connected);
      s.tx.identPending = none ∧ s.namesLine .keyboard = true ∧ s.link.send.armed = false ∧ s.kb.queue = [51] ∧
        s.resolve s.tx.shift 51 = some [(27, ⟨14, .figs⟩), (1, ⟨51, .print⟩)]) ∧
    (let s := inCall .selecting .outgoing;
      let s := { s with tx := { s.tx with selection := [69] } };
      s.call.state = .selecting ∧ s.tx.selection = [69] ∧ s.resolve s.tx.shift 69 = some [(1, ⟨69, .print⟩)]) := by
  decide +kernel

/-- The small table with an entry in its figures half that names LETTERS, and one without a code that names FIGURES. -/
def oddTable : State := { station with translate := station.translate.set 62 ⟨20, .ltrs⟩ }
def oneWayTable : State := { station with translate := station.translate.set 27 ⟨0, .unassigned⟩ }

/-- A code of a half carries an internal character. -/
abbrev carries (s : State) (half : Shift) (ch : IChar) (n : Nat) : Prop :=
  (s.entryAt half (BitVec.ofNat 5 n)).char = ch ∧ (s.entryAt half (BitVec.ofNat 5 n)).cls ≠ .unassigned

/-- A code of the letters half names FIGURES. -/
abbrev away (s : State) (n : Nat) : Prop := (s.entryAt .letters (BitVec.ofNat 5 n)).cls = .figs

theorem test_meets_ResolutionTakesTheLowestCodes :
    (carries station .letters 69 1 ∧ ∀ m, m < 1 → ¬carries station .letters 69 m) ∧
    (carries station .letters 15 31 ∧ ∀ m, m < 31 → ¬carries station .letters 15 m) ∧
    ((∀ m, m < 32 → ¬carries station .letters 51 m) ∧ carries station .figures 51 1 ∧
      (∀ m, m < 1 → ¬carries station .figures 51 m) ∧
      (station.entryAt .figures 1).cls ≠ .ltrs ∧ (station.entryAt .figures 1).cls ≠ .figs ∧
      away station 27 ∧ ∀ m, m < 27 → ¬away station m) ∧
    ((∀ m, m < 32 → ¬carries oddTable .letters 20 m) ∧ carries oddTable .figures 20 30 ∧
      (∀ m, m < 30 → ¬carries oddTable .figures 20 m) ∧ (oddTable.entryAt .figures 30).cls = .ltrs) ∧
    ((∀ m, m < 32 → ¬carries oneWayTable .letters 51 m) ∧ carries oneWayTable .figures 51 1 ∧
      (∀ m, m < 1 → ¬carries oneWayTable .figures 51 m) ∧ ∀ m, m < 32 → ¬away oneWayTable m) ∧
    ((∀ m, m < 32 → ¬carries station .letters 99 m) ∧ ∀ m, m < 32 → ¬carries station .figures 99 m) ∧
    station.hasResolution 69 = true := by
  refine ⟨?_, ?_, ?_, ?_, ?_, ?_, ?_⟩ <;> decide +kernel

theorem test_meets_CodeCompletionEndsAUnit :
    (∀ u ∈ [TxUnit.send true, .send false, .keyboard, .answerback, .identOrder, .identSelection], ∀ b ∈ [true, false],
      let s := setCall (fun c => { c with localClear := b }) (sending u .last connected);
      s.tx.phase = .code 1 u .last 1 1 ∧ u ≠ .selection ∧ s.call.localClear = b ∧ s.call.state = .connected) ∧
    (∀ b ∈ [true, false],
      let s := setCall (fun c => { c with localClear := b }) (sending .selection .last (inCall .selecting .outgoing));
      let s := { s with tx := { s.tx with selection := [69] } };
      s.tx.phase = .code 1 .selection .last 1 1 ∧ s.call.state = .selecting ∧ s.call.localClear = b ∧
        s.tx.selection ≠ []) := by decide +kernel

theorem test_meets_CodeCompletionGoesOn :
    (∀ s ∈ [pairOnFullStore, sending .keyboard (.code 1) (routed connected), sending .keyboard (.code 1) connected,
        sending .keyboard (.code 1) (offLine connected)],
      s.tx.phase = .code 1 .keyboard (.code 1) 1 1 ∧ s.call.localClear = false ∧ s.call.state = .connected) ∧
    (pairOnFullStore.copied .keyboard = true ∧
      256 ≤ (pairOnFullStore.store.entries ++ pairOnFullStore.copyOf 1 .keyboard).length ∧
      (sending .keyboard (.code 1) connected).copyOf 1 .keyboard = [] ∧
      (sending .keyboard (.code 1) (routed connected)).copyOf 1 .keyboard ≠ []) ∧
    (∀ b ∈ [true, false], ∀ s ∈ [connected, offLine connected, routed connected],
      { s.tx with phase := .unitWait 1 .keyboard b }.phase = .unitWait 1 .keyboard b) ∧
    (∀ m ∈ [Mode.attended, .unattended],
      let s := setMode m (sending .selection .last (inCall .selecting .outgoing));
      s.tx.phase = .code 1 .selection .last 1 1 ∧ s.call.state = .selecting ∧ s.call.localClear = false ∧
        s.tx.selection = [] ∧ s.station.mode = m) := by decide +kernel

theorem test_meets_LocalPathTakesAHead :
    (let full := stored (List.replicate 256 letterS) (routed station)
      let room := stored (List.replicate 255 letterS) (routed station)
      ∀ s ∈ [station, routed station, full, room],
        (s.call.state ≠ .connected ∧ s.resolve s.tx.shift 69 = some [(1, ⟨69, .print⟩)] ∧
          s.resolve s.tx.shift 51 = some [(27, ⟨14, .figs⟩), (1, ⟨51, .print⟩)]) ∧
        (withKeys [51] s).kb.queue = [51] ∧
        ((withSend [69] 1 s).link.send.queue = [69] ∧ (withSend [69] 1 s).link.send.armed = true ∧
          (withSend [69] 1 s).link.send.held = false) ∧
        (station.sinkSet .keyboard).isEmpty = true ∧ (station.sinkSet .host).isEmpty = true ∧
        ((routed station).sinkSet .keyboard).isEmpty = false ∧ 2 ≤ (routed station).freeEntries ∧
        (full.sinkSet .keyboard).isEmpty = false ∧ (full.sinkSet .host).isEmpty = false ∧ full.freeEntries = 0 ∧
        room.freeEntries = 1) ∧
    (connected.call.state = .connected ∧ connected.namesLine .keyboard = false ∧ connected.namesLine .host = false ∧
      connected.call.localClear = false) := by
  decide +kernel

def withCall (b : Bool) (s : State) : State := { s with pins := { s.pins with callIn := b } }

theorem test_meets_OfferAndItsWithdrawal :
    (station.pins.callIn = false ∧ station.call.state = .free) ∧
    (∀ m ∈ [Mode.localMode, .attended, .unattended], (setMode m station).call.state = .free ∧
      (setMode m station).station.mode = m) ∧
    station.answer.memory = [] ∧
    (let s := withAnswerback (setMode .unattended station);
      s.answer.memory ≠ [] ∧ s.namedSinkAttached (s.routeEntry .line .unattended) = false ∧
        (routed s).answer.memory ≠ [] ∧ (routed s).namedSinkAttached ((routed s).routeEntry .line .unattended) = true ∧
        { s.pins with loopOk := true }.loopOk = true ∧ s.pins.loopOk = false) ∧
    (let s := withCall true (inCall .offered .incoming);
      s.call.state = .offered ∧ s.station.record = some (station.newRecord .incoming []) ∧
        (station.newRecord .incoming []).outcome = none ∧ s.pins.callIn = true) := by decide +kernel

theorem test_meets_RefusedCallWaits :
    ∀ s ∈ [withCall true (inCall .refused .incoming), offLine (withCall true (inCall .refused .incoming))],
      s.call.state = .refused ∧ s.station.record = some (station.newRecord .incoming []) ∧
        (station.newRecord .incoming []).outcome = none ∧ (station.newRecord .incoming []).connectedSeconds = 0 ∧
        s.pins.callIn = true ∧ s.link.resetPending = false ∧ s.link.busy = 0 ∧ s.link.replies.length < 8 ∧
        (s.pins.loopOk = true ∨ s.pins.loopOk = false) := by decide +kernel

theorem test_meets_CollisionClosesAndOffers :
    ∀ m ∈ [Mode.localMode, .attended, .unattended],
      let s := setMode m (inCall .calling .outgoing);
      s.call.state = .calling ∧ s.pins.callIn = false ∧ s.station.record = some (station.newRecord .outgoing []) ∧
        (station.newRecord .outgoing []).outcome = none ∧ s.station.mode = m := by decide +kernel

theorem test_meets_AnsweringAnOffer :
    (let s := setCall (fun c => { c with answerDelay := some 0 }) (inCall .offered .incoming);
      (s.pins.loopOk = true ∧ (offLine s).pins.loopOk = false) ∧
        ∀ u ∈ [s, offLine s], u.call.state = .offered ∧ u.call.answerDelay.isSome = true ∧ u.ready) ∧
      station.call.state ≠ .offered ∧ station.ready := by
  unfold State.ready; decide +kernel

theorem test_meets_LoopOkAsserted :
    (∀ m ∈ [Mode.attended, .unattended], ∀ d ∈ [Direction.incoming, .outgoing],
      let s := setMode m (offLine (inCall .answering d));
      s.pins.loopOk = false ∧ s.call.state = .answering ∧ s.station.mode = m ∧ s.direction = d) ∧
      ((offLine (inCall .calling .outgoing)).pins.loopOk = false ∧ (inCall .calling .outgoing).call.state = .calling) ∧
      station.pins.loopOk = false ∧ station.call.state ≠ .answering ∧ station.call.state ≠ .calling := by decide +kernel

theorem test_meets_LineLossAndCallTimers :
    connected.pins.loopOk = true ∧
    (∀ c ∈ [CallState.selecting, .connected],
      let s := setCall (fun k => { k with loss := some 0 }) (inCall c .outgoing);
      s.call.loss.isSome = true ∧ s.call.state = c) ∧
    (let s := setCall (fun k => { k with connect := some 0 }) (inCall .answering .incoming);
      s.call.connect.isSome = true ∧ s.call.state = .answering) ∧
    (let s := setCall (fun k => { k with proceed := some 0 }) (inCall .calling .outgoing);
      s.call.proceed.isSome = true ∧ s.call.state = .calling) ∧
    (let s := setCall (fun k => { k with idleClear := some 0 }) connected;
      s.call.idleClear.isSome = true ∧ s.station.mode ≠ .unattended ∧ (setMode .unattended s).station.mode = .unattended ∧
        s.call.state = .connected) := by decide +kernel

theorem test_meets_RequestsOfTheTransmitter :
    (∀ s ∈ [station, connected, withAnswerback connected],
      (setCall (fun k => { k with identity := some 0 }) s).call.identity.isSome = true ∧ s.link.resetPending = false ∧
        s.link.busy = 0 ∧ s.link.replies.length < 8) ∧
    (station.call.state ≠ .connected ∧ connected.call.state = .connected ∧ connected.answer.memory = [] ∧
      (withAnswerback connected).answer.memory ≠ []) ∧
    ((∃ (sh : Shift) (n : Nat), n < 32 ∧ (connected.entryAt sh (BitVec.ofNat 5 n)).cls = .ident)) ∧
    ∀ (sh : Shift) (n : Nat), n < 32 → (State.reset.entryAt sh (BitVec.ofNat 5 n)).cls ≠ .ident := by
  refine ⟨by decide +kernel, by decide +kernel, ⟨.figures, 9, by decide +kernel⟩, fun sh => ?_⟩
  cases sh <;> decide +kernel

/-- A record with its outcome, as it waits for the clearing guard. -/
def ended : State :=
  setCall (fun c => { c with guard := some 0 }) ((inCall .clearing .incoming).ending .localClear)

theorem test_meets_EndsOfACall :
    (∀ c ∈ [CallState.free, .offered, .refused, .answering, .calling, .selecting, .connected, .clearing],
      let s := inCall c .incoming;
      s.call.state = c ∧ s.call.localClear = false ∧ s.link.resetPending = false ∧ s.link.busy = 0 ∧
        s.link.replies.length < 8) ∧
    (let s := setCall (fun k => { k with localClear := true }) (inCall .selecting .outgoing);
      s.call.state = .selecting ∧ s.call.localClear = true) ∧
    (∀ m ∈ [Mode.localMode, .attended, .unattended], ∀ b ∈ [true, false],
      let s := setMode m (withCall b ended);
      s.call.guard.isSome = true ∧ s.call.state = .clearing ∧ s.pins.callIn = b ∧
        s.station.record = some { station.newRecord .incoming [] with outcome := some .localClear }) := by
  decide +kernel

theorem test_meets_OrderCall :
    station.ready ∧
    (connected.call.state ≠ .free ∧ (withCall true station).pins.callIn = true ∧
      (setMode .localMode station).station.mode = .localMode) ∧
    (station.call.state = .free ∧ station.pins.callIn = false ∧ station.station.mode ≠ .localMode) ∧
    (16 < (List.replicate 17 (69 : Byte)).length) ∧
    (∃ b ∈ ([69, 128] : List Byte), ¬(b.toNat ≤ 127 ∧ station.hasResolution (b.setWidth 7) = true)) ∧
    (List.replicate 16 (69 : Byte) ≠ [] ∧ (List.replicate 16 (69 : Byte)).length ≤ 16 ∧
      ∀ b ∈ List.replicate 16 (69 : Byte), b.toNat ≤ 127 ∧ station.hasResolution (b.setWidth 7) = true) := by
  unfold State.ready; decide +kernel

theorem test_meets_ScanOfEveryPosition :
    let stuck : KeyPos := { state := .down, count := 0, held := 30000 }
    let s := { station with kb := { station.kb with positions := station.kb.positions.set 63 stuck } };
    s.kb.positions.length = 64 ∧ s.kb.positions[63]? = some stuck ∧ s.stuckCount = 0 ∧
      (after (.keyboardScan (1 <<< 63)) s).stuckCount ≠ 0 := by decide +kernel

theorem test_meets_KeyPressesAndBellPulseEnd :
    (∀ e ∈ [KeyEntry.none, .char 69, .function .clear],
      let s := keyed e (setMode .unattended station);
      s.kb.positions.length = 64 ∧ s.kb.positions[63]? = some { state := .up, count := 0, held := 0 } ∧
        s.kb.keymap.getD 63 .none = e ∧ s.cfg .pressDebounce = 1 ∧ (1 <<< 63 : BitVec 64).getLsbD 63 = true ∧
        (∀ m < 63, s.kb.positions[m]? = some { state := .up, count := 0, held := 0 } ∧
          (1 <<< 63 : BitVec 64).getLsbD m = false) ∧
        s.station.mode = .unattended ∧ s.kb.operatorFlag = true) ∧
    (let p : KeyPos := { state := .pressing, count := 2, held := 0 };
      let s := { station with kb := { station.kb with positions := station.kb.positions.set 63 p } };
      s.cfg .pressDebounce = 3 ∧ s.kb.positions.length = 64 ∧ s.kb.positions[63]? = some p ∧
        ∀ m < 63, s.kb.positions[m]? = some { state := .up, count := 0, held := 0 }) := by decide +kernel

theorem test_meets_PrinterTakesAnEntry :
    (let s := printing letterS;
      s.printer.state = .idle ∧ s.motor.state = .running ∧ s.pins.paperOut = false ∧ s.pins.headHot = false ∧
        s.printer.aborted = none ∧ s.nextFor .print = some (0, letterS) ∧ s.cfg .overflow = 0 ∧
        letterS.gapBefore = false ∧ letterS.cls = .print ∧ s.printer.offRequest = false) ∧
    ((printerIn .space).printer.state ≠ .idle ∧ station.motor.state ≠ .running ∧ station.nextFor .print = none ∧
      { station with pins := { station.pins with paperOut := true } }.pins.paperOut = true ∧
      { station with pins := { station.pins with headHot := true } }.pins.headHot = true) ∧
    (∀ n ∈ [69, 70],
      let s := setSetting .overflow 1 { printing letterS with printer := { station.printer with column := n } };
      s.cfg .overflow = 1 ∧ (s.printer.column ≤ s.cfg .width ↔ n = 69) ∧
        s.nextFor .print = some (0, letterS)) ∧
    ({ letterS with gapBefore := true }.gapBefore = true ∧ { letterS with mutilated := true }.mutilated = true ∧
      (entryOf 6 .letters ⟨0, .unassigned⟩).cls = .unassigned) ∧
    (∀ c ∈ [CharClass.lf, .ltrs, .figs, .ident, .null, .bell, .space],
      (entryOf 2 .letters ⟨10, c⟩).gapBefore = false ∧ (entryOf 2 .letters ⟨10, c⟩).mutilated = false ∧
        (printing (entryOf 2 .letters ⟨10, c⟩)).nextFor .print = some (0, entryOf 2 .letters ⟨10, c⟩)) ∧
    (let s := { printing (entryOf 8 .letters ⟨13, .cr⟩) with printer := { station.printer with column := 2 } };
      1 < s.printer.column ∧ s.nextFor .print = some (0, entryOf 8 .letters ⟨13, .cr⟩)) ∧
    (printing (entryOf 8 .letters ⟨13, .cr⟩)).printer.column = 1 ∧
    (∀ n ∈ [68, 69],
      let s := { printing (entryOf 4 .letters ⟨32, .space⟩) with printer := { station.printer with column := n } };
      (s.printer.column < s.cfg .width + (if s.cfg .overflow = 1 then 1 else 0) ↔ n = 68) ∧
        s.nextFor .print = some (0, entryOf 4 .letters ⟨32, .space⟩)) := by decide +kernel

theorem test_meets_StrikesAndFeeds :
    (let hot := { printerIn (.strike 83) with pins := { connected.pins with headWarm := true } };
      hot.printer.op = some ⟨.strike 83, []⟩ ∧ hot.pins.headWarm = true ∧ hot.cfg .coolingPause ≠ 0) ∧
    (∀ rest ∈ [[], [PrinterPart.strike 83], [.silent]], ∀ off ∈ [true, false], ∀ a ∈ [PrinterAction.strike 63, .cooling],
      let s := { printerIn a with printer := { (printerIn a).printer with op := some ⟨a, rest⟩, offRequest := off } };
      s.printer.op = some ⟨a, rest⟩ ∧ rest.length ≤ 1 ∧ s.pins.headWarm = false ∧ s.printer.offRequest = off) ∧
    ((printerIn (.feed none)).printer.op = some ⟨.feed none, []⟩ ∧
      (printerIn (.feed (some 83))).printer.op = some ⟨.feed (some 83), []⟩ ∧ station.printer.op = none) ∧
    (∀ a ∈ [PrinterAction.strike 83, .cooling, .feed none],
      (printerIn a).store.entries[(printerIn a).store.cursors.get .print]? = some letterS ∧
        letterS.holds .print = true) := by decide +kernel

theorem test_meets_PrinterLost :
    ((printerIn (.strike 83)).printer.op = some ⟨.strike 83, []⟩ ∧
      (printerIn (.feed none)).printer.op = some ⟨.feed none, []⟩) ∧
    (let s := { connected with printer := { station.printer with state := .halted, haltGrace := some 0 } };
      let d := setMode .unattended (punching 9 s);
      (s.printer.state = .halted ∧ s.printer.haltGrace.isSome = true) ∧ d.printer = s.printer ∧
        d.cfg .divertOnPrinterLoss = 1 ∧ d.station.mode = .unattended ∧ d.attached .punch = true ∧
        d.call.state = .connected) := by decide +kernel

theorem test_meets_CarriageStepEnd :
    { station with printer := { station.printer with state := .off, aborted := some 2 } }.printer.aborted = some 2 ∧
    ((printerIn .space).printer.op = some ⟨.space, []⟩ ∧ (printerIn .space).printer.aborted = none) ∧
    (∀ x ∈ [0, 3, 4], ∀ c ∈ [none, some 83], ∀ n ∈ [2, 3],
      let w : Slew := { size := 2, stepTime := 720, len := 1, extra := x };
      let s := { printerIn (.slew w c) with printer := { (printerIn (.slew w c)).printer with column := n } };
      s.printer.op = some ⟨.slew w c, []⟩ ∧ s.printer.aborted = none ∧
        (x = 0 → (1 < s.printer.column - w.len ↔ n = 3)) ∧ (x = 3 → w.extra < 4) ∧ (x = 4 → w.extra = 4) ∧
        s.store.entries[s.store.cursors.get .print]? = some letterS ∧ letterS.holds .print = true) := by decide +kernel

theorem test_meets_HaltCausesAndHeadWarm :
    ∀ st ∈ [PrinterState.idle, .busy, .halted, .out, .off], ∀ g ∈ [0, 30],
      let s := setSetting .haltGrace g { station with printer := { station.printer with state := st } };
      ¬(true = s.pins.paperOut ∧ false = s.pins.headHot) ∧ s.printer.state = st ∧ s.cfg .haltGrace = g := by decide +kernel

theorem test_meets_OrdersToThePrinter :
    station.ready ∧
    (∀ st ∈ [PrinterState.idle, .busy, .halted, .out, .off], ∀ jam ∈ [true, false], ∀ off ∈ [true, false],
      let s := { station with printer := { station.printer with state := st, jamHold := jam, offRequest := off } };
      s.printer.state = st ∧ s.printer.jamHold = jam ∧ s.printer.offRequest = off) ∧
    ((printerIn (.slew ⟨2, 720, 2, 0⟩ none)).printer.op = some ⟨.slew ⟨2, 720, 2, 0⟩ none, []⟩ ∧
      (printerIn .space).printer.op = some ⟨.space, []⟩ ∧ (printerIn .space).printer.state = .busy ∧
      (printerIn .space).printer.offRequest = false) := by unfold State.ready; decide +kernel

theorem test_meets_PunchWorks :
    ((punching 9 station).punch.state = .idle ∧ (punching 9 station).motor.state ≠ .running ∧
      station.punch.state ≠ .idle) ∧
    (let s := punching 9 (running station);
      s.punch.leader = 0 ∧ s.nextFor .punch = none ∧ s.punch.state = .idle ∧ s.motor.state = .running) ∧
    (let e := { letterS with pending := ⟨false, true, false⟩ };
      let s := stored [e] (punching 9 (running station));
      s.punch.leader = 0 ∧ s.nextFor .punch = some (0, e) ∧
        { s with punch := { s.punch with leader := 1 } }.punch.leader ≠ 0) ∧
    station.punch.op = none ∧
    (let s := punchIn (.entry 0 31 5) 2;
      2 ≤ s.punch.tape ∧ s.punch.op = some (.entry 0 31 5) ∧
        s.store.entries[s.store.cursors.get .punch]? = some { letterS with pending := ⟨false, true, false⟩ }) ∧
    (punchIn (.entry 1 31 5) 2).punch.op = some (.entry (0 + 1) 31 5) ∧
    (∀ n ∈ [1, 2], ∀ off ∈ [true, false],
      let s := { punchIn .leader 2 with punch := { (punchIn .leader 2).punch with leader := n, offRequest := off } };
      s.punch.op = some .leader ∧ s.punch.leader = n ∧ s.punch.offRequest = off) := by decide +kernel

theorem test_meets_PunchLostAndTapeCount :
    (∀ op ∈ [PunchOp.entry 1 31 5, .entry 0 31 5, .leader], ∀ n ∈ [0, 1],
      let s := punchIn op n;
      s.punch.op = some op ∧ s.punch.tape = n ∧ letterS.holds .punch = false ∧
        s.store.entries[s.store.cursors.get .punch]? = some { letterS with pending := ⟨false, true, false⟩ }) ∧
    station.ready ∧ (station.punch.state = .out ∧ station.punch.jamHold = false ∧ station.pins.tapeLow = false) ∧
    (∀ r ∈ [0, 200],
      let s := setSetting .tapeLowReserve r { station with pins := { station.pins with tapeLow := true } };
      s.pins.tapeLow = true ∧ s.cfg .tapeLowReserve = r ∧ (1 : BitVec 16) ≠ 0 ∧
        (min (1 : BitVec 16).toNat (s.cfg .tapeLowReserve) = 0 ↔ r = 0)) ∧
    (punching 9 station).punch.state = .idle := by
  unfold State.ready; decide +kernel

theorem test_meets_OrdersToThePunch :
    station.ready ∧ (1 : Byte) ≠ 0 ∧
    (∀ st ∈ [PunchState.idle, .busy, .out, .off], ∀ n ∈ [0, 1],
      { station with punch := { station.punch with state := st, tape := n } }.punch.state = st ∧
        { station with punch := { station.punch with state := st, tape := n } }.punch.tape = n) := by
  unfold State.ready; decide +kernel

theorem test_meets_Motor :
    station.ready ∧
    (let s := { station with motor := ⟨.runup, some 0, none⟩ }; s.motor.state = .runup ∧ s.motor.runUp.isSome = true) ∧
    (let s := { station with motor := ⟨.running, none, some 0⟩ };
      s.motor.state = .running ∧ s.motor.idleStop.isSome = true) := by unfold State.ready; decide +kernel

/-- Seven replies wait: the reply queue has one place. -/
def sevenReplies : State := { station with link := { station.link with replies := List.replicate 7 .grant } }

theorem test_meets_FrameCheck :
    sevenReplies.ready ∧ (List.replicate 64 (0 : Byte)).length ≤ 64 ∧
      (0xD4 : Byte) = frameCheck [3, 0] ∧ (0xD5 : Byte) ≠ frameCheck [3, 0] := by unfold State.ready; decide +kernel

theorem test_meets_RefusedAndDroppedFrames :
    (sevenReplies.ready ∧ station.pins.reset = false) ∧
    (∀ w ∈ [(⟨0, 0x1A5⟩ : LinkByte), ⟨3, 0x0A5⟩], ∀ n ∈ [none, some 1, some 2],
      { station with hostRx := ⟨[w], n⟩ }.hostRx.bytes = w :: [] ∧ { station with hostRx := ⟨[w], n⟩ }.hostRx.timer = n) ∧
    (linkByte 0x1A5 = some 0xA5 ∧ linkByte 0x0A5 = none) ∧
    (let s := { station with link := { station.link with rx := .kind, gap := some 0 } };
      s.link.rx ≠ .hunt ∧ s.link.gap = some 0) := by unfold State.ready; decide +kernel

theorem test_meets_BusyAndDeafReceiver :
    goodFrame .orderReset = true ∧
    { station with link := { station.link with resetPending := true } }.link.resetPending = true ∧
    (∀ s ∈ [{ station with link := { station.link with busy := 65534 } },
        { station with link := { station.link with replies := List.replicate 8 .grant } }],
      s.link.resetPending = false ∧ s.link.busy < 65535 ∧ (s.link.busy ≠ 0 ∨ 8 ≤ s.link.replies.length)) := by
  decide +kernel

/-- A byte of a body is above what its place in an entry of n bytes takes. -/
abbrev above (n place limit : Nat) (data : List Byte) : Prop :=
  ∃ i, i < data.length ∧ i % n = place ∧ limit < (data.getD i 0).toNat

theorem test_meets_bad_bodies :
    (above 2 0 127 [128, 0] ∧ above 2 1 9 [0, 10]) ∧ (∃ b ∈ ([16] : List Byte), 15 < b.toNat) ∧
      ((above 11 0 8 [9, 0, 0, 0, 0, 0, 0, 0, 0, 0, 0] ∧ above 11 8 127 [0, 0, 0, 0, 0, 0, 0, 0, 128, 0, 0]) ∧
        above 11 9 6 [0, 0, 0, 0, 0, 0, 0, 0, 0, 7, 0] ∧ (0x08 : Byte) &&& 0x78 ≠ 0) ∧
      (above 2 0 2 [3, 0] ∧ above 2 1 127 [1, 128] ∧ above 2 1 7 [2, 8] ∧ above 2 1 0 [0, 1]) ∧
      (∃ b ∈ ([32] : List Byte), 31 < b.toNat) ∧
      (above 4 0 31 [32, 0, 0, 0] ∧ (3 : Byte).toNat % 4 = 3 ∧ above 4 1 3 [0, 4, 0, 0]) ∧
      ([0] : List Byte).length % 2 ≠ 0 ∧ ([0] : List Byte).length % 4 ≠ 0 ∧ ([0] : List Byte).length % 11 ≠ 0 := by
  refine ⟨⟨⟨0, ?_⟩, ⟨1, ?_⟩⟩, ?_, ⟨⟨⟨0, ?_⟩, ⟨8, ?_⟩⟩, ⟨9, ?_⟩, ?_⟩, ⟨⟨0, ?_⟩, ⟨1, ?_⟩, ⟨1, ?_⟩, ⟨1, ?_⟩⟩, ?_,
    ⟨⟨0, ?_⟩, ?_, ⟨1, ?_⟩⟩, ?_⟩ <;> decide

theorem test_meets_WriteTranslateRouteSequence :
    station.ready ∧ ((2 : Byte).toNat ≤ 2 ∧ 2 < (2 : Byte).toNat + 1) ∧
    (connected.call.state ≠ .free ∧ (withKeys [69] station).kb.queue ≠ [] ∧
      (withSend [69] 1 station).link.send.queue ≠ []) ∧
    (¬(station.call.state ≠ .free ∨ station.kb.queue ≠ [] ∨ station.link.send.queue ≠ []) ∧
      64 < (64 : Byte).toNat + 1 ∧ (63 : Byte).toNat + 1 ≤ 64) ∧
    (12 < (12 : Byte).toNat + 1 ∧ (11 : Byte).toNat + 1 ≤ 12 ∧
      (∃ (n : Nat) (e : RouteEntry), [(⟨false, false, false, true⟩ : RouteEntry)][n]? = some e ∧ e.line = true ∧
        9 ≤ (9 : Byte).toNat + n)) ∧
    (∀ f ∈ [(3 : Byte), 8], ∀ n < 1, 3 ≤ f.toNat + n ∧ f.toNat + n < 9) ∧
    (16 < (16 : Byte).toNat + 1 ∧ (15 : Byte).toNat + 1 ≤ 16 ∧
      ∀ e ∈ [seqOf .clear, { seqOf .clear with length := 8 }], e.length ≤ 8 ∧ e.pattern.length = 8) := by
  refine ⟨?_, ?_, ?_, ?_, ⟨?_, ?_, 0, ⟨false, false, false, true⟩, rfl, rfl, ?_⟩, ?_, ?_⟩ <;>
    first
    | decide +kernel
    | (unfold State.ready; decide +kernel)

theorem test_meets_WriteKeymapAnswerbackSignals :
    station.ready ∧ connected.call.state ≠ .free ∧
    (¬(station.call.state ≠ .free ∨ station.kb.queue ≠ [] ∨ station.link.send.queue ≠ []) ∧
      64 < (64 : Byte).toNat + 1 ∧ (63 : Byte).toNat + 1 ≤ 64) ∧
    ({ station with answer := { station.answer with run := some 0 } }.answer.run.isSome = true ∧
      station.answer.run = none ∧ (1 : Byte) ≠ 0 ∧ 20 < (List.replicate 21 (1 : Code)).length ∧
      (List.replicate 20 (1 : Code)).length ≤ 20) ∧
    ((0x03FFFF : CondSet).toNat < 2 ^ 18 ∧ 4 < (4 : Byte).toNat + 1 ∧ (3 : Byte).toNat + 1 ≤ 4) := by
  unfold State.ready; decide +kernel

/-- The values fit the settings from an index on, and leave the margin bell column within the width. -/
def fits (first : Nat) (vs : List Nat) : Bool :=
  let t := { station with settings := station.settings.take first ++ vs ++ station.settings.drop (first + vs.length) }
  first + vs.length ≤ 46 && t.cfg .marginBellColumn ≤ t.cfg .width &&
    (List.range vs.length).all fun k => (Setting.all[first + k]?).any fun i => i.ok (t.cfg i)

theorem test_meets_WriteOneSetting :
    station.ready ∧ station.settings.length = 46 ∧ connected.settings.length = 46 ∧ ([7] : List Byte).length % 2 ≠ 0 ∧
    (fits 0 [3] = true ∧ fits 45 [50] = true ∧ fits 35 [0, 1] = true ∧ fits 5 [1, 2, 8] = true ∧ fits 23 [40, 40] = true) ∧
    (fits 0 [4] = false ∧ fits 45 [50, 0] = false ∧ fits 23 [40, 41] = false ∧ fits 24 [70] = false) ∧
    (connected.call.state ≠ .free ∧ station.call.state = .free) ∧
    { station with pins := { station.pins with tapeLow := true } }.pins.tapeLow = true := by
  unfold State.ready; decide +kernel

theorem test_meets_ReadAndStatus :
    (station.ready ∧ station.translate.length = 64 ∧ station.route.table.length = 12 ∧ station.matcher.table.length = 16 ∧
      station.kb.keymap.length = 64 ∧ station.settings.length = 46 ∧ station.cond.signals.length = 4 ∧
      ∀ e ∈ station.matcher.table, e.pattern.length = 8) ∧
    (∀ x ∈ [(64, 2, 33), (12, 1, 13), (16, 11, 6), (46, 2, 33), (4, 4, 5)],
      x.1 < x.2.2 ∨ 64 < x.2.1 * x.2.2) ∧
    (∀ x ∈ [(64, 2, 32, 32), (12, 1, 0, 12), (16, 11, 11, 5), (46, 2, 14, 32), (4, 4, 0, 4)],
      x.2.2.2 ≠ 0 ∧ x.2.2.1 + x.2.2.2 ≤ x.1 ∧ x.2.1 * x.2.2.2 ≤ 64) ∧
    (station.station.log.length ≤ (0 : Byte).toNat ∧ station.station.record = none) ∧
    (((0 : Byte) = 0 ∨ 8 < (0 : Byte).toNat) ∧ ((9 : Byte) = 0 ∨ 8 < (9 : Byte).toNat) ∧ ([] : List Byte).length ≠ 3 ∧
      [1, (0 : Byte)].length ≠ 3 ∧ [1, 0, 1, (0 : Byte)].length ≠ 3) ∧
    (fullLog.ready ∧ fullLog.station.log[(15 : Byte).toNat]? = some (station.newRecord .incoming []) ∧
      ended.station.record = some { station.newRecord .incoming [] with outcome := some .localClear } ∧
      connected.station.record = some (station.newRecord .incoming []) ∧
      (station.newRecord .incoming []).outcome = none) := by unfold State.ready; decide +kernel

theorem test_meets_a_log_record_fits_a_frame : (station.newRecord .incoming []).bytes.length ≤ 64 := by
  simp only [CallRecord.bytes]; decide

theorem test_meets_SendChannel :
    station.ready ∧ station.link.send.armed = false ∧ (withSend [] 1 station).link.send.armed = true ∧
    ((withSend [] 1 station).openCount < [69, (69 : Byte)].length ∧ station.hasResolution 99 = false ∧
      ¬(197 : Byte).toNat ≤ 127 ∧ station.hasResolution ((197 : Byte).setWidth 7) = true) ∧
    (let s := withSend (List.replicate 63 69) 65 station;
      [69, (69 : Byte)].length ≤ s.openCount ∧ 64 < s.link.send.queue.length + 2 ∧
        s.link.send.queue.length + 1 ≤ 64 ∧
        ∀ b ∈ [69, (69 : Byte)], b.toNat ≤ 127 ∧ s.hasResolution (b.setWidth 7) = true) := by
  unfold State.ready; decide +kernel

def capturing (st : CaptureState) (closed : Bool) : State :=
  let s := stored [{ letterS with pending := ⟨false, false, true⟩ }] connected
  { s with
    link :=
      { s.link with
        capture := { state := st, remaining := 5, size := 1, taken := 1, closed := closed, flush := some 0 } } }

theorem test_meets_CaptureChannel :
    (capturing .armed false).link.capture.flush.isSome = true ∧ station.ready ∧
    station.link.capture.state = .disarmed ∧
    (∀ st ∈ [CaptureState.armed, .held], ∀ b ∈ [true, false], (capturing st b).link.capture.state = st ∧
      (capturing st b).link.capture.closed = b ∧
      (capturing st b).store.cursors.capture ≤ (capturing st b).store.entries.length) := by
  unfold State.ready; decide +kernel

theorem test_meets_LinkTransmitter :
    ({ station with link := { station.link with sending := some (.reply .grant) } }.link.sending.isSome = true ∧
      OutFrame.reply .grant ≠ .reply .resetGrant) ∧
    (sevenReplies.link.sending = none ∧ sevenReplies.link.replies = .grant :: List.replicate 6 .grant) ∧
    { station with link := { station.link with busy := 1 } }.link.busy ≠ 0 ∧
    (let s := capturing .armed true;
      s.link.sending = none ∧ s.link.replies = [] ∧ s.link.busy = 0 ∧ s.link.resetPending = false ∧
        s.link.capture.state = .armed ∧ s.link.capture.closed = true ∧
        s.store.cursors.capture ≤ s.store.entries.length ∧ s.link.capture.taken < s.link.capture.remaining ∧
        { s.link.capture with remaining := 1 }.remaining ≤ s.link.capture.taken) ∧
    (State.reset.link.capture.state ≠ .armed ∧ State.reset.station.hostSilent = false ∧
      State.reset.link.notices = [] ++ .restart false 1 0 :: [.fault 0x000010] ∧
      State.reset.link.mask.getLsbD ((Notice.restart false 1 0).kind - 1) = true ∧
      ∀ m ∈ [Notice.fault 0x000010], (Notice.restart false 1 0).kind < m.kind) ∧
    (let s := { State.reset with link := { State.reset.link with mask := 0 } };
      (∀ n ∈ s.link.notices, s.link.mask.getLsbD (n.kind - 1) = false)) := by decide +kernel

theorem test_meets_ModeByOrderAndByWatchdog :
    (station.ready ∧ 2 < (3 : Byte).toNat) ∧
    (State.reset.station.restartPending = true ∧
      { station with station := { station.station with hostSilent := true } }.station.hostSilent = true ∧
      connected.call.state ≠ .free) ∧
    (∀ c ∈ [CallState.free, .offered, .connected],
      let s := inCall c .incoming;
      s.station.restartPending = false ∧ s.station.hostSilent = false ∧ s.station.mode = .attended ∧ s.call.state = c) ∧
    (∀ c ∈ [CallState.free, .offered, .connected], ∀ st ∈ [CaptureState.disarmed, .armed, .held],
      let s := { capturing st false with station := { station.station with watchdog := some 0 } };
      let s := setCall (fun k => { k with state := c }) s;
      s.station.watchdog.isSome = true ∧ s.call.state = c ∧ s.link.capture.state = st) := by
  unfold State.ready; decide +kernel

theorem test_meets_OrdersToTheStationAndTheConditions : station.ready := by unfold State.ready; decide +kernel

theorem test_meets_OrderLogDiscard :
    fullLog.ready ∧ (1 : Byte) ≠ 0 ∧ fullLog.station.log.length ≤ (16 : Byte).toNat := by unfold State.ready; decide +kernel

theorem test_meets_OutputsFollowTheState :
    (∀ b ∈ [true, false], { station with pins := { station.pins with reset := b } }.pins.reset = b) ∧
    (∀ a ∈ [PrinterAction.strike 83, .space, .slew ⟨2, 720, 2, 0⟩ none, .feed none],
      (printerIn a).printer.op = some ⟨a, []⟩ ∧ (printerIn a).printer.aborted = none) ∧
    (∀ op ∈ [PunchOp.entry 0 31 5, .entry 1 31 5, .leader], (punchIn op 2).punch.op = some op) ∧
    (let s (n : Nat) : State := { connected with tx := { connected.tx with phase := .code 1 .keyboard .last 2 3, timer := some n } };
      (6 * 2 + 3 - (s 15).tx.timer.getD 0 < 2) ∧ (6 * 2 ≤ 6 * 2 + 3 - (s 3).tx.timer.getD 0) ∧
        ∀ k < 5, (k + 1) * 2 ≤ 6 * 2 + 3 - (s (13 - 2 * k)).tx.timer.getD 0 ∧
          6 * 2 + 3 - (s (13 - 2 * k)).tx.timer.getD 0 < (k + 2) * 2) ∧
    (let s := after .linkTransmitterTake (sevenReplies);
      s.link.sending = some (.reply .grant) ∧ s.link.rateStrap = 0 ∧ (OutFrame.reply .grant).bytes[0]? = some 0xA5 ∧
        (10 * 0 + 0) * byteUnits 0 ≤ 10 * ((OutFrame.reply .grant).bytes.length * byteUnits 0 - s.link.timer.getD 0) ∧
        10 * ((OutFrame.reply .grant).bytes.length * byteUnits 0 - s.link.timer.getD 0) < (10 * 0 + 0 + 1) * byteUnits 0) ∧
    station.cond.signals[3]? = some { mode := .off, activeLow := false, latched := false, directLevel := false, mask := 0 } := by
  decide +kernel

end Sys2Proof.Tests
end

section
/-! PROOFS. Call control: a REFUSED call waits for its withdrawal (R51), and ORDER CALL (R53). -/

namespace Sys2Proof.Machine

/-! ## The call and its open record, as other operations leave them -/

/-- The call controller's own state and the open record: what a call consists of. -/
def State.openCall (s : State) : Call × Option CallRecord := (s.call, s.station.record)

@[simp] theorem State.idleWatched_openCall (s t : State) : (s.idleWatched t).openCall = t.openCall := rfl

@[simp] theorem State.answered_openCall (t : State) (r : Reply) : (t.answered r).openCall = t.openCall := rfl

@[simp] theorem State.latch_openCall (k : Nat) (s : State) : (s.latch k).openCall = s.openCall := by
  rw [State.latch_frame]; rfl

/-- R92: the recorder condition holds in CONNECTED alone. -/
theorem State.recorderTested_of_not_connected (s : State) (h : s.call.state ≠ .connected) : s.recorderTested = s :=
  if_neg fun ⟨⟨_, hc, _⟩, _⟩ => h hc

/-- R89: outside CONNECTED a detachment touches the store alone. -/
theorem State.detach_of_not_connected (k : Sink) (s : State) (h : s.call.state ≠ .connected) :
    s.detach k = { s with store := s.storeWithout k } :=
  (State.detach_eq k s).trans (State.recorderTested_of_not_connected _ h)

/-- R201: outside CONNECTED the early end of a CAPTURE arming clears no call. -/
theorem State.endCapture_openCall (why : EndReason) (s : State) (h : s.call.state ≠ .connected) :
    (s.endCapture why).openCall = s.openCall := by
  unfold State.endCapture
  split
  · rfl
  · rw [State.detach_of_not_connected]
    · rfl
    · exact h

/-- R50, R176: of the calls, a change of the station mode acts on an offered and on a connected one alone. -/
theorem State.changeMode_openCall (new : Mode) (byWatchdog : Bool) (s : State) (ho : s.call.state ≠ .offered)
    (hc : s.call.state ≠ .connected) : (s.changeMode new byWatchdog).openCall = s.openCall := by
  rw [State.changeMode_eq]
  unfold State.modeMoved
  dsimp only
  split
  · rfl
  · split
    · rfl
    · split
      case h_1 h => exact absurd h ho
      case h_2 h => exact absurd h hc
      case h_3 => rfl

/-- R175: ORDER MODE acts on a call through the change of mode alone. -/
theorem State.orderMode_openCall (mode : Byte) (s : State) (ho : s.call.state ≠ .offered)
    (hc : s.call.state ≠ .connected) : (s.orderMode mode).1.openCall = s.openCall := by
  unfold State.orderMode
  split
  · rfl
  · split
    · rfl
    · split
      · rfl
      · exact State.changeMode_openCall _ _ _ ho hc

/-- R179: the watchdog acts on a call through the change of mode and the recorder test alone. -/
theorem State.watchdogExpiry_openCall (s : State) (ho : s.call.state ≠ .offered) (hc : s.call.state ≠ .connected) :
    s.watchdogExpiry.openCall = s.openCall := by
  unfold State.watchdogExpiry
  split
  · rfl
  · have keep (u : State) (hu : u.call = s.call) :
        ((u.changeMode .unattended true).endCapture .hostSilent).openCall = u.openCall := by
      have hm := State.changeMode_openCall .unattended true u (hu ▸ ho) (hu ▸ hc)
      have hcall : (u.changeMode .unattended true).call = s.call := (congrArg Prod.fst hm).trans hu
      rw [State.endCapture_openCall _ _ (hcall ▸ hc), hm]
    dsimp only
    rw [keep _ (by rw [State.latch_frame]; rfl), State.latch_openCall]
    rfl

/-! ## A call in REFUSED (R51) -/

/-- ORDER MODE as a good frame that is taken. -/
theorem exec_orderMode_ready (mode : Byte) (s : State) (h : s.ready) :
    exec (.orderMode mode) s = .next (s.idleWatched ((s.orderMode mode).1.answered (s.orderMode mode).2)) :=
  complete_frame (State.orderMode mode) s _ _ h rfl

/-- R49: no call is offered. -/
theorem exec_orderAnswer_refused (s : State) (h : s.ready) (hc : s.call.state = .refused) :
    exec .orderAnswer s = .next (s.idleWatched (s.answered (.reject .state))) :=
  complete_frame (fun s => s.grantOr s.answerRequest) s s _ h
    (by simp [State.answerRequest, hc, State.grantOr, State.reject])

/-- R63: there is no call to clear. -/
theorem exec_orderClear_refused (s : State) (h : s.ready) (hc : s.call.state = .refused) :
    exec .orderClear s = .next (s.idleWatched (s.answered (.reject .state))) :=
  complete_frame (fun s => s.grantOr s.clearRequest) s s _ h
    (by simp [State.clearRequest, hc, State.grantOr, State.reject])

/-- R51: the withdrawal of CALL_IN ends a REFUSED call with the outcome REFUSED. -/
theorem State.callInDeasserted_refused (s : State) (r : CallRecord) (hc : s.call.state = .refused)
    (hr : s.station.record = some r) (ho : r.outcome = none) (hi : s.pins.callIn = true) :
    s.callInDeasserted = State.freed r .refused { s with pins := { s.pins with callIn := false } } := by
  have he := State.endUnanswered_eq { s with pins := { s.pins with callIn := false } } r .refused hr ho rfl
  rw [← he]
  simp [State.callInDeasserted, hi, hc, State.modPins]

/-- R52, R60: in REFUSED LOOP_OK moves the pin and cancels the loss timer. -/
theorem State.loopOkAsserted_refused (s : State) (hc : s.call.state = .refused) (hl : s.pins.loopOk = false) :
    s.loopOkAsserted = { s with pins := { s.pins with loopOk := true }, call := { s.call with loss := none } } := by
  simp [State.loopOkAsserted, hl, hc, State.modPins, State.modCall]

/-- R60: in REFUSED the loss of LOOP_OK starts no timer. -/
theorem State.loopOkDeasserted_refused (s : State) (hc : s.call.state = .refused) (hl : s.pins.loopOk = true) :
    s.loopOkDeasserted = { s with pins := { s.pins with loopOk := false } } := by
  simp [State.loopOkDeasserted, hl, hc, State.modPins]

/-! ## ORDER CALL (R53) -/

/-- R9, R15: a byte as an internal character that has a resolution. -/
theorem State.resolvable_eq (s : State) (b : Byte) :
    s.resolvable b =
      if b.toNat ≤ 127 ∧ s.hasResolution (b.setWidth 7) = true then some (b.setWidth 7) else none := by
  unfold State.resolvable icharOf
  by_cases hb : b.toNat ≤ 127 <;> simp [hb]

/-- A list with no value missing. -/
theorem allSome_map_some {α : Type} (es : List α) : allSome (es.map some) = some es := by
  induction es with
  | nil => rfl
  | cons e es ih => simp [allSome, ih]

/-- A list with a value missing. -/
theorem allSome_eq_none {α : Type} (l : List (Option α)) (h : none ∈ l) : allSome l = none := by
  cases hl : allSome l with
  | none => rfl
  | some es => rw [allSome_some l es hl] at h; simp at h

/-- R53: the state test comes first. -/
theorem State.orderCall_of_not_free (s : State) (list : List Byte)
    (h : s.call.state ≠ .free ∨ s.pins.callIn = true ∨ s.station.mode = .localMode) :
    s.orderCall list = (s, .reject .state) :=
  if_pos h

/-- R53: the list test, where the state test has passed. -/
theorem State.orderCall_out_of_range (s : State) (list : List Byte)
    (h : ¬(s.call.state ≠ .free ∨ s.pins.callIn = true ∨ s.station.mode = .localMode))
    (hr : list = [] ∨ 16 < list.length ∨
      ∃ b ∈ list, ¬(b.toNat ≤ 127 ∧ s.hasResolution (b.setWidth 7) = true)) :
    s.orderCall list = (s, .reject .range) := by
  unfold State.orderCall
  rw [if_neg h]
  cases hl : allSome (list.map s.resolvable) with
  | none => rfl
  | some cs =>
    have hm := allSome_some _ _ hl
    have hlen : cs.length = list.length := by simpa using (congrArg List.length hm).symm
    refine if_pos ?_
    rcases hr with hnil | hlong | ⟨b, hb, hn⟩
    · subst hnil; exact Or.inl hlen
    · exact Or.inr (hlen ▸ hlong)
    · have hnone : none ∈ list.map s.resolvable := List.mem_map.2 ⟨b, hb, by rw [State.resolvable_eq, if_neg hn]⟩
      rw [allSome_eq_none _ hnone] at hl
      cases hl

/-- R53: both tests passed. -/
theorem State.orderCall_granted (s : State) (list : List Byte)
    (h : ¬(s.call.state ≠ .free ∨ s.pins.callIn = true ∨ s.station.mode = .localMode)) (hne : list ≠ [])
    (hlen : list.length ≤ 16) (hr : ∀ b ∈ list, b.toNat ≤ 127 ∧ s.hasResolution (b.setWidth 7) = true) :
    s.orderCall list =
      (State.enterCalling (list.map fun b => b.setWidth 7) (s.recorded .outgoing (list.map fun b => b.setWidth 7))
      , .grant) := by
  have hmap : list.map s.resolvable = (list.map fun b => b.setWidth 7).map some := by
    rw [List.map_map]
    exact List.map_congr_left fun b hb => by rw [State.resolvable_eq, if_pos (hr b hb)]; rfl
  have hpos : list.length ≠ 0 := fun h0 => hne (List.length_eq_zero_iff.1 h0)
  unfold State.orderCall
  rw [if_neg h, hmap, allSome_map_some]
  dsimp only
  rw [if_neg (by rw [List.length_map]; omega), State.createRecord_eq]

/-- R53, R54, R158: the entry to CALLING, and on to SELECTING at once while LOOP_OK stands asserted. -/
theorem State.enterCalling_eq (cs : List IChar) (s : State) :
    s.enterCalling cs =
      { s.startCause with
        tx := { s.tx with selection := cs }
        rx := if s.pins.loopOk = true then { s.rx with framing := .awaitMark } else s.rx
        call :=
          if s.pins.loopOk = true then { s.call with state := .selecting, proceed := none }
          else { s.call with state := .calling, proceed := some (288000 * s.cfg .proceedTimeout) } } := by
  unfold State.enterCalling
  rw [State.startCause_frame]
  cases hl : s.pins.loopOk <;>
    simp [State.modTx, State.modCall, State.modRx, State.enterSelecting, State.receiverOn, startSec, secUnits, hl,
      State.cfg]

/-- ORDER CALL as a good frame that is taken. -/
theorem exec_orderCall_ready (list : List Byte) (s t : State) (r : Reply) (h : s.ready)
    (e : s.orderCall list = (t, r)) :
    exec (.orderCall list) s = .next (s.idleWatched (t.answered r)) :=
  complete_frame (State.orderCall list) s t r h e

/-! ## The statements -/

/-- Settles O27, by R51's one effective event, then each event that has no effect on the call. -/
theorem refusedCallWaits : Obligations.RefusedCallWaits := by
  unfold Obligations.RefusedCallWaits
  intro s r hc hr ho _
  have hoff : s.call.state ≠ .offered := by simp [hc]
  have hcon : s.call.state ≠ .connected := by simp [hc]
  have hfree : s.call.state ≠ .free := by simp [hc]
  refine ⟨?seize, ?withdrawn, ?loopOk, ?noLoopOk, ?orders, ?watchdog⟩
  case seize => simp [State.seize, State.unlessReset, hc]
  case withdrawn => exact fun hi => complete_of_effect _ _ _ (State.callInDeasserted_refused s r hc hr ho hi)
  case loopOk => exact fun hl => complete_of_effect _ _ _ (State.loopOkAsserted_refused s hc hl)
  case noLoopOk => exact fun hl => complete_of_effect _ _ _ (State.loopOkDeasserted_refused s hc hl)
  case orders =>
    intro h
    refine ⟨exec_orderAnswer_refused s h hc, exec_orderClear_refused s h hc, fun chars => ?call, fun mode => ?mode⟩
    case call => exact exec_orderCall_ready chars s s _ h (State.orderCall_of_not_free s chars (Or.inl hfree))
    case mode =>
      exact ⟨_, exec_orderMode_ready mode s h, Prod.ext_iff.1 (State.orderMode_openCall mode s hoff hcon)⟩
  case watchdog =>
    exact complete_exists _ s _ (Prod.ext_iff.1 (State.watchdogExpiry_openCall s hoff hcon))

/-- Settles O34, by the two tests in order and the entry to CALLING. -/
theorem orderCall : Obligations.OrderCall := by
  unfold Obligations.OrderCall
  intro s list h
  refine ⟨fun hn => exec_orderCall_ready list s s _ h (State.orderCall_of_not_free s list hn), ?_⟩
  intro hfree hin hmode
  have htest : ¬(s.call.state ≠ .free ∨ s.pins.callIn = true ∨ s.station.mode = .localMode) := by
    simp [hfree, hin, hmode]
  refine ⟨fun hr => exec_orderCall_ready list s s _ h (State.orderCall_out_of_range s list htest hr), ?_⟩
  intro hne hlen hr
  have e := State.orderCall_granted s list htest hne hlen hr
  rw [State.enterCalling_eq] at e
  rw [exec_orderCall_ready list s _ _ h e, State.startCause_frame]
  rfl

end Sys2Proof.Machine
end

section
/-! PROOFS. The call log: ORDER LOG DISCARD (R187). -/

namespace Sys2Proof.Machine

/-- R187: a count of 0 is out of range. -/
theorem State.orderLogDiscard_zero (s : State) : s.orderLogDiscard 0 = (s, .reject .range) := if_pos rfl

/-- R187: of the state, a count in 1..255 changes the log alone. -/
theorem State.orderLogDiscard_of_ne_zero (n : Byte) (s : State) (hn : n ≠ 0) :
    s.orderLogDiscard n = ({ s with station := { s.station with log := s.station.log.drop n.toNat } }, .grant) :=
  if_neg hn

/-- R187: a count of at least the records held empties the log. -/
theorem State.orderLogDiscard_all (n : Byte) (s : State) (hn : n ≠ 0) (hlen : s.station.log.length ≤ n.toNat) :
    s.orderLogDiscard n = ({ s with station := { s.station with log := [] } }, .grant) := by
  rw [State.orderLogDiscard_of_ne_zero n s hn, List.drop_eq_nil_of_le hlen]

/-- ORDER LOG DISCARD as a good frame that is taken. -/
theorem exec_orderLogDiscard_ready (n : Byte) (s t : State) (r : Reply) (h : s.ready)
    (e : s.orderLogDiscard n = (t, r)) :
    exec (.orderLogDiscard n) s = .next (s.idleWatched (t.answered r)) :=
  complete_frame (State.orderLogDiscard n) s t r h e

/-- Settles O59, by the count: 0, above 0, and at least the number of records held. -/
theorem orderLogDiscard : Obligations.OrderLogDiscard := by
  unfold Obligations.OrderLogDiscard
  intro s n h
  refine ⟨?zero, fun hn => ⟨?some, fun hlen => ?all⟩⟩
  case zero =>
    rintro rfl
    exact exec_orderLogDiscard_ready 0 s _ _ h (State.orderLogDiscard_zero s)
  case some => exact exec_orderLogDiscard_ready n s _ _ h (State.orderLogDiscard_of_ne_zero n s hn)
  case all => exact exec_orderLogDiscard_ready n s _ _ h (State.orderLogDiscard_all n s hn hlen)

end Sys2Proof.Machine
end

section
/-! PROOFS. The host link: the check of a frame (R190). -/

namespace Sys2Proof

/-! ## The check register -/

/-- R190: the register begins at 0xFF. -/
@[simp] theorem frameCheck_nil : frameCheck [] = 0xFF := rfl

/-- R190: the bytes are combined into the register in turn. -/
@[simp] theorem frameCheck_append_singleton (bs : List Byte) (b : Byte) :
    frameCheck (bs ++ [b]) = checkByte (frameCheck bs) b := List.foldl_append

/-! ## A frame of good length at the frame receiver (R189) -/

/-- R189: SYNC moves the receiver out of HUNT. -/
theorem FrameRx.commands_hunt_sync (bs : List Byte) :
    FrameRx.commands .hunt (0xA5 :: bs) = FrameRx.commands .kind bs := rfl

/-- R189: any byte serves as KIND. -/
theorem FrameRx.commands_kind (k : Byte) (bs : List Byte) :
    FrameRx.commands .kind (k :: bs) = FrameRx.commands (.len k) bs := rfl

/-- R189: a LEN of at most 64 lets the body follow. -/
theorem FrameRx.commands_len (k n : Byte) (bs : List Byte) (h : n.toNat ≤ 64) :
    FrameRx.commands (.len k) (n :: bs) = FrameRx.commands (.storing k n.toNat []) bs := by
  simp [FrameRx.commands, FrameRx.receive, Nat.not_lt.2 h]

/-- R189: a body byte is stored behind those before it. -/
theorem FrameRx.commands_body (k b : Byte) (n : Nat) (stored bs : List Byte) :
    FrameRx.commands (.body k n stored) (b :: bs) = FrameRx.commands (.storing k n (stored ++ [b])) bs := rfl

/-- R189, R190: the CHECK byte ends the frame, and the receiver hunts again. -/
theorem FrameRx.commands_check (k check : Byte) (body bs : List Byte) :
    FrameRx.commands (.check k body) (check :: bs) =
      checkedCommand k body check :: FrameRx.commands .hunt bs := rfl

/-- R189: the body is complete when as many bytes as LEN says are stored. -/
theorem FrameRx.storing_full (k : Byte) (stored : List Byte) :
    FrameRx.storing k stored.length stored = .check k stored := if_pos (Nat.le_refl _)

/-- R189: before that, the receiver waits for body bytes. -/
theorem FrameRx.storing_short (k : Byte) (n : Nat) (stored : List Byte) (h : stored.length < n) :
    FrameRx.storing k n stored = .body k n stored := if_neg (Nat.not_le.2 h)

/-- R189: the rest of a body brings the receiver to CHECK with the whole body stored, and makes no command. -/
theorem FrameRx.commands_storing (k : Byte) (rest stored tail : List Byte) :
    FrameRx.commands (.storing k (stored ++ rest).length stored) (rest ++ tail) =
      FrameRx.commands (.check k (stored ++ rest)) tail := by
  induction rest generalizing stored with
  | nil => rw [List.append_nil, FrameRx.storing_full, List.nil_append]
  | cons b rest ih =>
    have hshort : stored.length < (stored ++ b :: rest).length := by simp
    rw [FrameRx.storing_short k _ stored hshort, List.cons_append, FrameRx.commands_body]
    simpa using ih (stored ++ [b])

/-- R189, R190: a frame whose LEN is the length of its body makes one command, the one that its CHECK byte decides. -/
theorem frameCommands_frame (kind check : Byte) (body : List Byte) (h : body.length ≤ 64) :
    frameCommands (0xA5 :: kind :: BitVec.ofNat 8 body.length :: body ++ [check]) =
      [checkedCommand kind body check] := by
  have hlen : (BitVec.ofNat 8 body.length).toNat = body.length := by
    rw [BitVec.toNat_ofNat, Nat.mod_eq_of_lt (by omega)]
  calc frameCommands (0xA5 :: kind :: BitVec.ofNat 8 body.length :: body ++ [check])
      = FrameRx.commands (.len kind) (BitVec.ofNat 8 body.length :: (body ++ [check])) := by
        simp only [frameCommands, List.cons_append, FrameRx.commands_hunt_sync, FrameRx.commands_kind]
    _ = FrameRx.commands (.storing kind body.length []) (body ++ [check]) := by
        rw [FrameRx.commands_len _ _ _ (by omega), hlen]
    _ = FrameRx.commands (.check kind body) [check] := FrameRx.commands_storing kind body [] [check]
    _ = [checkedCommand kind body check] := FrameRx.commands_check kind check body []

/-- R190: a frame with the right CHECK byte is good. -/
theorem checkedCommand_good (kind check : Byte) (body : List Byte)
    (h : check = frameCheck (kind :: BitVec.ofNat 8 body.length :: body)) :
    checkedCommand kind body check = frameCommand kind body := if_pos h

/-- R190: a frame with another CHECK byte is not. -/
theorem checkedCommand_bad (kind check : Byte) (body : List Byte)
    (h : check ≠ frameCheck (kind :: BitVec.ofNat 8 body.length :: body)) :
    checkedCommand kind body check = .frameBadCheck := if_neg h

namespace Machine

/-! ## The answer to a frame that is not good -/

/-- R189, R190: with a place for its reply, a refused frame queues its REJECT and ends at the receiver; nothing else of the
state moves, the watchdog and the silence included. -/
theorem State.refuseFrame_ready (why : RejectReason) (s : State) (h : s.ready) :
    s.refuseFrame why =
      { s with link := { s.link with rx := .hunt, gap := none, replies := s.link.replies ++ [.reject why] } } := by
  obtain ⟨hreset, hbusy, hroom⟩ := h
  have hdeaf : s.deaf = false := by simp [State.deaf, hreset, hbusy]
  have hplace : s.replyRoom = true := by simp [State.replyRoom, hbusy, hroom]
  simp only [State.refuseFrame, hdeaf, State.answerFrame, hplace, if_true, Bool.false_eq_true, if_false]
  rfl

/-- FRAME_BAD_CHECK with a place for its reply. -/
theorem exec_frameBadCheck_ready (s : State) (h : s.ready) :
    exec .frameBadCheck s = .next (s.idleWatched
      { s with link := { s.link with rx := .hunt, gap := none, replies := s.link.replies ++ [.reject .check] } }) :=
  complete_of_effect _ _ _ (State.refuseFrame_ready .check s h)

/-! ## The frames that the part sends -/

/-- R190: the last byte of a frame that the part sends is the check over the bytes between it and SYNC. -/
theorem OutFrame.getLast?_bytes (f : OutFrame) :
    f.bytes.getLast? = some (frameCheck ((f.bytes.drop 1).dropLast)) := by
  unfold OutFrame.bytes
  dsimp only
  rw [List.getLast?_concat, List.cons_append, List.drop_one, List.tail_cons, List.dropLast_concat]

/-- Settles O47: the register byte by byte, the frame's one command by its CHECK byte, the answer to a bad check, and the
frames sent. Its name is in `HostLink` so that `frameCheck` stays the model's function. -/
theorem HostLink.frameCheck : Obligations.FrameCheck := by
  unfold Obligations.FrameCheck
  refine ⟨frameCheck_nil, frameCheck_append_singleton, ?frame, exec_frameBadCheck_ready, OutFrame.getLast?_bytes⟩
  case frame =>
    intro kind check body hlen
    have hframe := frameCommands_frame kind check body hlen
    exact ⟨fun hgood => hframe.trans (congrArg (fun c => [c]) (checkedCommand_good kind check body hgood)),
      fun hbad => hframe.trans (congrArg (fun c => [c]) (checkedCommand_bad kind check body hbad))⟩

end Machine
end Sys2Proof
end

section
/-! PROOFS. The machine as a whole: every command as an effect that `complete` wraps, and what each step keeps
of the modes, the log, the punch, the places of the store and the settings. -/

namespace Sys2Proof.Machine

/-! ## Every command as an effect -/

/-- What a good frame does and answers where it is taken (R191); a command that is no frame of the host has no rule
here. -/
def frameRule : Instr → State → State × Reply
  | .frameUnknownKind, s => s.reject .kind
  | .writeTranslate first entries, s => s.writeTranslate first entries
  | .writeRoute first entries, s => s.writeRoute first entries
  | .writeSequence first entries, s => s.writeSequence first entries
  | .writeKeymap first entries, s => s.writeKeymap first entries
  | .writeAnswerback first codes, s => s.writeAnswerback first codes
  | .writeSettings first entries, s => s.writeSettings first entries
  | .writeSignals first entries, s => s.writeSignals first entries
  | .writeLog _ _, s => s.reject .range
  | .read body, s => s.readTable body
  | .status body, s => s.statusFrame body
  | .text chars, s => s.textFrame chars
  | .orderMode mode, s => s.orderMode mode
  | .orderAckRestart, s => (s.modStation fun u => { u with restartPending := false }, .grant)
  | .orderReset, s => (s.modLink fun l => { l with resetPending := true }, .resetGrant)
  | .orderCall chars, s => s.orderCall chars
  | .orderAnswer, s => s.grantOr s.answerRequest
  | .orderClear, s => s.grantOr s.clearRequest
  | .orderAnswerback, s => s.orderAnswerback
  | .orderIdentify, s => s.orderIdentify
  | .orderBreak, s => s.grantOr s.breakRequest
  | .orderArmSend n, s => s.armSend n.toNat
  | .orderArmCapture n size, s => s.armCapture n.toNat size.toNat
  | .orderDisarmSend, s => s.disarmSend
  | .orderDisarmCapture, s => s.disarmCapture
  | .orderHoldSend on, s => s.holdSend on
  | .orderHoldCapture on, s => s.holdCapture on
  | .orderPrinterOff, s => (s.printerOff, .grant)
  | .orderPrinterOn, s => s.grantOr s.printerOn
  | .orderPunchOff, s => (s.punchOff, .grant)
  | .orderPunchOn, s => s.grantOr s.punchOn
  | .orderPunchLeader n, s => s.orderPunchLeader n
  | .orderTapeLoaded n, s => s.orderTapeLoaded n
  | .orderMotorStart, s => (s.startCause, .grant)
  | .orderMotorStop, s => s.grantOr s.motorStop
  | .orderClearFaults conditions, s => s.orderClearFaults conditions
  | .orderNoticeMask mask, s => s.orderNoticeMask mask
  | .orderCalibrate, s => s.orderCalibrate
  | .orderLogDiscard n, s => s.orderLogDiscard n
  | .orderUnknownCode _, s => s.reject .range
  | .writeUnknownTable _, s => s.reject .range
  | _, s => (s, .grant)

/-- What every other command does, the idle-stop timer apart; a good frame is no event here. -/
def event : Instr → State → State
  | .coldReset inputs, s => s.coldReset inputs
  | .characterDelivered line, s => s.characterDelivered line
  | .receivedBreak, s => if s.rx.framing = .stopSpace ∧ s.pins.lineRx = .space then s.receiveBreak else s
  | .holdoffExpiry, s => s.holdoffExpiry
  | .identityCaptureGapExpiry, s => if s.answer.gapTimer.isSome then s.closeWindow else s
  | .transmitterTake, s => s.txTake.getD s
  | .codeCompletion, s => s.codeCompletion
  | .breakSendEnd, s =>
    if s.tx.phase = .brk then
      s.modTx fun t => { t with phase := .breakGuard, timer := some (s.elementUnits + s.stopUnits) }
    else s
  | .breakGuardEnd, s =>
    if s.tx.phase = .breakGuard then (s.modTx fun t => { t with phase := .free, timer := none }).settleClear else s
  | .localPathTake queue, s => (s.localTake queue).getD s
  | .callInAsserted, s => s.callInAsserted
  | .callInDeasserted, s => s.callInDeasserted
  | .answerDelayExpiry, s => s.answerDelayExpiry
  | .loopOkAsserted, s => s.loopOkAsserted
  | .loopOkDeasserted, s => s.loopOkDeasserted
  | .lossTimerExpiry, s => s.lossExpiry
  | .connectTimerExpiry, s => s.connectExpiry
  | .proceedTimerExpiry, s => s.proceedExpiry
  | .identityTimerExpiry, s => s.identityExpiry
  | .idleClearExpiry, s => s.idleClearExpiry
  | .clearingGuardExpiry, s => s.guardExpiry
  | .keyboardScan closed, s => s.keyboardScan closed
  | .bellPulseEnd, s => s.modBell fun _ => none
  | .printerTakeEntry home, s => (s.printerTake home).getD s
  | .strikeDone, s => s.strikeDone
  | .coolingPauseEnd, s => s.coolingEnd
  | .feedDone, s => s.feedDone
  | .printerResponseLimitExpiry, s => s.printerResponseLimit
  | .carriageStepEnd home, s => s.carriageStepEnd home
  | .haltCauseChange paperOut headHot, s => s.haltCauseChange paperOut headHot
  | .printerHaltGraceExpiry, s => s.haltGraceExpiry
  | .headWarmChange headWarm, s => s.headWarmChange headWarm
  | .punchTakeWork, s => s.punchTake.getD s
  | .punchDone, s => s.punchDone
  | .punchResponseLimitExpiry, s => s.punchResponseLimit
  | .tapeLowChange tapeLow, s => s.tapeLowChange tapeLow
  | .runUpExpiry, s => s.runUpExpiry
  | .idleStopExpiry, s => s.idleStopExpiry
  | .hostWatchdogExpiry, s => s.watchdogExpiry
  | .frameBadCheck, s => s.refuseFrame .check
  | .frameBadLength, s => s.refuseFrame .length
  | .frameGapTimeout, s => s.frameHunt
  | .frameByteError, s => s.frameHunt
  | .captureFlushExpiry, s => s.flushExpiry
  | .linkTransmitterTake, s => s.linkTake.getD s
  | .linkFrameSent rate, s => s.frameSent rate
  | .startEdge, s => s.startEdge
  | .falseStart, s => if s.rx.framing = .assemble then s.receiverHunt else s
  | .stopSampleAtSpace line, s => s.stopSampleAtSpace line
  | .lineReturnToMark, s => s.lineReturnToMark
  | _, s => s

/-- What a command does, the idle-stop timer apart: a good frame is taken (R191), every other command is its own
event. -/
def effect (c : Instr) (s : State) : State := if goodFrame c then s.takeFrame (frameRule c) else event c s

/-- A command is its effect, then what R160 does to the idle-stop timer. -/
theorem exec_eq_complete (c : Instr) (s : State) : exec c s = complete (effect c) s := by cases c <;> rfl

/-- The outcome of a command, as a state. -/
theorem exec_eq_next (c : Instr) (s : State) : exec c s = .next (s.idleWatched (effect c s)) :=
  (exec_eq_complete c s).trans (complete_of_effect _ _ _ rfl)

/-- The state that a command leaves. -/
theorem eq_idleWatched_of_exec {c : Instr} {s t : State} (h : exec c s = .next t) :
    t = s.idleWatched (effect c s) := by
  rw [exec_eq_next] at h; exact (Host.Outcome.next.inj h).symm

/-- What the frames keep and what the events keep, every command keeps. -/
theorem effect_keeps (P : State → Prop) (hf : ∀ c s, P s → P (s.takeFrame (frameRule c)))
    (he : ∀ c s, P s → P (event c s)) (c : Instr) (s : State) (h : P s) : P (effect c s) := by
  unfold effect
  split
  · exact hf c s h
  · exact he c s h

/-! ## The queue (log 26) -/

theorem State.applySettings_pending (first : Byte) (n : Nat) (new : List Nat) (s : State) :
    (s.applySettings first n new).pending = s.pending := by
  have cut (u : State) : u.cutTape.pending = u.pending := congrArg Prod.snd u.cutTape_held
  unfold State.applySettings
  dsimp only
  split <;> split <;> simp [cut]

theorem State.writeSettings_pending (first : Byte) (data : List Byte) (s : State) :
    (s.writeSettings first data).1.pending = s.pending := by
  unfold State.writeSettings
  split
  · rfl
  · dsimp only
    split
    · rfl
    · split
      · rfl
      · exact State.applySettings_pending _ _ _ s

theorem frameRule_pending (c : Instr) (s : State) : (frameRule c s).1.pending = s.pending := by
  show (frameRule c s).1.held.2 = s.held.2
  cases c
  case writeSettings first data => exact State.writeSettings_pending first data s
  all_goals dsimp only [frameRule]
  all_goals simp

theorem State.takeFrame_pending (f : State → State × Reply) (s : State) (h : (f s).1.pending = s.pending) :
    (s.takeFrame f).pending = s.pending :=
  State.takeFrame_keeps (fun t => t.pending = s.pending) f s rfl h (fun _ _ h => h) fun _ h => h

/-- A reset keeps the queue, which is not the block's (log 29). -/
theorem State.coldReset_pending (inputs : Inputs) (s : State) : (s.coldReset inputs).pending = s.pending := by
  show (s.coldReset inputs).held.2 = s.held.2
  unfold State.coldReset
  split
  · rfl
  · simp; rfl

@[simp] theorem State.lineReturnToMark_held (s : State) : s.lineReturnToMark.held = s.held := by
  unfold State.lineReturnToMark; dsimp only; split <;> simp

@[simp] theorem State.lineReturnToMark_core (s : State) : s.lineReturnToMark.core = s.core := by
  unfold State.lineReturnToMark; dsimp only; split <;> simp

@[simp] theorem State.lineReturnToMark_log (s : State) : s.lineReturnToMark.log = s.log := by
  unfold State.lineReturnToMark; dsimp only; split <;> simp

@[simp] theorem State.lineReturnToMark_tapeState (s : State) : s.lineReturnToMark.tapeState = s.tapeState := by
  unfold State.lineReturnToMark; dsimp only; split <;> simp

theorem State.lineReturnToMark_bound (s : State) (h : s.storeBound) : s.lineReturnToMark.storeBound := by
  unfold State.lineReturnToMark; dsimp only; split <;> simp [h]

theorem event_pending (c : Instr) (s : State) : (event c s).pending = s.pending := by
  show (event c s).held.2 = s.held.2
  cases c
  case coldReset inputs => exact State.coldReset_pending inputs s
  all_goals dsimp only [event]
  case receivedBreak | identityCaptureGapExpiry | breakSendEnd | breakGuardEnd | falseStart => split <;> simp
  all_goals simp

/-- No command touches the queue. -/
theorem effect_pending (c : Instr) (s : State) : (effect c s).pending = s.pending :=
  effect_keeps (fun t => t.pending = s.pending)
    (fun c u hu => (State.takeFrame_pending _ u (frameRule_pending c u)).trans hu)
    (fun c u hu => (event_pending c u).trans hu) c s rfl

/-! ## What a step keeps -/

/-- A law that a good frame's reply and the end of the silence leave alone stands after a frame, when it stands
after the frame's own effect. -/
theorem frame_keeps (P : State → Prop) (hl : ∀ t g, P t → P (State.modLink g t))
    (hs : ∀ t, P t → P (State.endSilence t)) (hf : ∀ c s, P s → P (frameRule c s).1) (c : Instr) (s : State) (h : P s) :
    P (s.takeFrame (frameRule c)) :=
  State.takeFrame_keeps P _ s h (hf c s h) hl hs

/-- A law that every command and one unit of time keep, and that neither the queue nor the idle-stop timer
disturbs, is kept by every step. -/
theorem step_keeps_of_effect (P : State → Prop) (hq : ∀ s l, P s → P (State.modPending (fun _ => l) s))
    (hm : ∀ s t, P t → P (State.idleWatched s t)) (he : ∀ c s, P s → P (effect c s)) (ht : ∀ s, P s → P (State.tick s))
    (s t : State) (h : P s) (e : step s = .next t) : P t :=
  step_keeps P hq (fun c u _ hu hv => eq_idleWatched_of_exec hv ▸ hm u _ (he c u hu)) ht s t h e

/-! ## The station modes (R175) -/

theorem State.modeLaw_congr {s t : State} (e : t.core = s.core) (h : s.modeLaw) : t.modeLaw := by
  simp only [State.core, Prod.mk.injEq] at e
  obtain ⟨hm, hr, hs⟩ := e
  unfold State.modeLaw
  rw [hm, hr, hs]
  exact h

/-- ORDER MODE leaves UNATTENDED only where its state test allows it (R175). -/
theorem State.orderMode_modeLaw (mode : Byte) (s : State) (h : s.modeLaw) : (s.orderMode mode).1.modeLaw := by
  unfold State.orderMode
  split
  · exact h
  · rename_i m _
    split
    · exact h
    · rename_i hb
      split
      · exact h
      · have hc := State.changeMode_core m false s
        simp only [State.core, Prod.mk.injEq] at hc
        obtain ⟨hm, hr, hs⟩ := hc
        unfold State.modeLaw
        dsimp only
        rw [hm, hr, hs]
        by_cases hu : m = .unattended
        · exact Or.inl hu
        · exact Or.inr (by simpa [hu] using hb)

theorem frameRule_modeLaw (c : Instr) (s : State) (h : s.modeLaw) : (frameRule c s).1.modeLaw := by
  cases c
  case orderMode mode => exact State.orderMode_modeLaw mode s h
  case orderAckRestart => exact h.imp id fun hr => ⟨rfl, hr.2⟩
  all_goals refine State.modeLaw_congr ?_ h
  all_goals dsimp only [frameRule]
  all_goals simp

theorem State.modeLaw_of_unattended {s : State} {r : Bool × Bool} (h : s.core = (.unattended, r)) : s.modeLaw :=
  Or.inl (congrArg Prod.fst h)

theorem State.frameSent_modeLaw (rate : BitVec 2) (s : State) (h : s.modeLaw) : (s.frameSent rate).modeLaw := by
  unfold State.frameSent
  split
  · exact h
  · dsimp only
    split
    · exact State.modeLaw_of_unattended (State.warmReset_core _)
    · exact h

theorem State.watchdogExpiry_modeLaw (s : State) (h : s.modeLaw) : s.watchdogExpiry.modeLaw := by
  have hc := State.watchdogExpiry_core s
  split at hc
  · exact State.modeLaw_congr hc h
  · exact State.modeLaw_of_unattended hc

theorem event_modeLaw (c : Instr) (s : State) (h : s.modeLaw) : (event c s).modeLaw := by
  cases c
  case coldReset inputs => exact State.modeLaw_of_unattended (State.coldReset_core inputs s)
  case linkFrameSent rate => exact State.frameSent_modeLaw rate s h
  case hostWatchdogExpiry => exact State.watchdogExpiry_modeLaw s h
  all_goals refine State.modeLaw_congr ?_ h
  all_goals dsimp only [event]
  case receivedBreak | identityCaptureGapExpiry | breakSendEnd | breakGuardEnd | falseStart => split <;> simp
  all_goals simp

theorem State.tick_modeLaw (s : State) (h : s.modeLaw) : s.tick.modeLaw := State.modeLaw_congr (State.tick_core s) h

theorem effect_modeLaw (c : Instr) (s : State) (h : s.modeLaw) : (effect c s).modeLaw :=
  effect_keeps State.modeLaw
    (frame_keeps State.modeLaw (fun _ _ h => h) (fun _ h => h.imp id fun hr => ⟨hr.1, rfl⟩) frameRule_modeLaw)
    event_modeLaw c s h

/-! ## The settings (R194) -/

theorem State.settingsLaw_congr {s t : State} (e : t.settings = s.settings) (h : s.settingsLaw) : t.settingsLaw := by
  unfold State.settingsLaw State.cfg at *
  rw [e]
  exact h

theorem State.settings_of_held {s t : State} (e : t.held = s.held) : t.settings = s.settings := congrArg Prod.fst e

theorem State.applySettings_settings (first : Byte) (n : Nat) (new : List Nat) (s : State) :
    (s.applySettings first n new).settings = new := by
  have cut (u : State) : u.cutTape.settings = u.settings := State.settings_of_held u.cutTape_held
  unfold State.applySettings
  dsimp only
  split <;> split <;> simp [cut]

/-! ## The entries of a WRITE (R193) -/

/-- The table with new entries is as long as it was. -/
theorem overwrite_length {α : Type} (first : Nat) (new table : List α) (h : first + new.length ≤ table.length) :
    (overwrite first new table).length = table.length := by
  simp only [overwrite, List.length_append, List.length_take, List.length_drop]
  omega

/-- Each index that a WRITE addresses holds the new entry, every other the old one. -/
theorem overwrite_getElem? {α : Type} (first : Nat) (new table : List α) (h : first + new.length ≤ table.length)
    (i : Nat) :
    (overwrite first new table)[i]? =
      if first ≤ i ∧ i < first + new.length then new[i - first]? else table[i]? := by
  have ht : (table.take first).length = first := List.length_take_of_le (by omega)
  unfold overwrite
  by_cases h1 : i < first
  · rw [if_neg (by omega), List.append_assoc, List.getElem?_append_left (by omega), List.getElem?_take_of_lt h1]
  · by_cases h2 : i < first + new.length
    · rw [if_pos (by omega), List.append_assoc, List.getElem?_append_right (by omega), ht,
        List.getElem?_append_left (by omega)]
    · rw [if_neg (by omega), List.getElem?_append_right (by simp; omega), List.getElem?_drop]
      congr 1
      simp
      omega

/-- The entries that a WRITE takes stay inside the table. -/
theorem writeEntries_some {α : Type} {size n : Nat} {parse : List Byte → Option α} {first : Byte} {data : List Byte}
    {es : List α} (h : writeEntries size n parse first data = some es) :
    parseEntries n parse data = some es ∧ first.toNat + es.length ≤ size := by
  unfold writeEntries at h
  split at h
  · split at h
    · cases h; exact ⟨‹_›, ‹_›⟩
    · cases h
  · cases h

/-! ## The settings as written (R194) -/

theorem Setting.all_index (k : Setting) : Setting.all[k.index]? = some k := by cases k <;> rfl

theorem Setting.index_lt (k : Setting) : k.index < 46 := by cases k <;> decide

theorem Setting.exists_index (i : Nat) (h : i < 46) : ∃ k : Setting, k.index = i := by
  have hall : ∀ j : Fin 46, ∃ k ∈ Setting.all, k.index = j.val := by decide
  obtain ⟨k, _, hk⟩ := hall ⟨i, h⟩
  exact ⟨k, hk⟩

/-- A setting stands at its index in the table. -/
theorem cfg_of_settings (s : State) (k : Setting) (h : s.settings.length = 46) :
    s.settings[k.index]? = some (s.cfg k) := by
  have hk := k.index_lt
  rw [State.cfg, List.getD_eq_getElem?_getD, List.getElem?_eq_getElem (by omega), Option.getD_some]

/-- A list numbered from 0. -/
theorem mem_range_zip {α : Type} (l : List α) (i : Nat) (a : α) :
    (i, a) ∈ (List.range l.length).zip l ↔ l[i]? = some a := by
  rw [List.mem_iff_getElem?]
  constructor
  · rintro ⟨j, hj⟩
    obtain ⟨hr, hl⟩ := List.getElem?_zip_eq_some.1 hj
    obtain ⟨_, hji⟩ := List.getElem?_eq_some_iff.1 hr
    rw [List.getElem_range] at hji
    cases hji
    exact hl
  · intro hl
    obtain ⟨hi, _⟩ := List.getElem?_eq_some_iff.1 hl
    exact ⟨i, List.getElem?_zip_eq_some.2 ⟨List.getElem?_range hi, hl⟩⟩

/-- The range tests of a WRITE of SETTINGS, setting by setting. -/
theorem writtenOk_iff (s : State) (first : Byte) (vs : List Nat) (hn : first.toNat + vs.length ≤ 46) :
    writtenOk first vs s.settings = true ↔
      (∀ (k : Setting) (v : Nat), first.toNat ≤ k.index → vs[k.index - first.toNat]? = some v → k.ok v = true) ∧
        s.cfg .marginBellColumn ≤ s.cfg .width := by
  unfold writtenOk
  rw [Bool.and_eq_true, decide_eq_true_iff, List.all_eq_true]
  refine and_congr ⟨fun h k v hk hv => ?_, fun h x hx => ?_⟩ Iff.rfl
  · have hm := h (k.index - first.toNat, v) ((mem_range_zip vs _ v).2 hv)
    have hi : first.toNat + (k.index - first.toNat) = k.index := by omega
    simpa only [hi, Setting.all_index] using hm
  · obtain ⟨i, v⟩ := x
    have hv := (mem_range_zip vs i v).1 hx
    obtain ⟨hi, _⟩ := List.getElem?_eq_some_iff.1 hv
    obtain ⟨k, hk⟩ : ∃ k : Setting, k.index = first.toNat + i := Setting.exists_index _ (by omega)
    have ha := k.all_index
    rw [hk] at ha
    simp only [ha]
    exact h k v (by omega) (by rw [hk, Nat.add_sub_cancel_left]; exact hv)

/-- The settings table after a WRITE that is in range keeps the law. -/
theorem State.settingsLaw_write (s : State) (first : Byte) (vs : List Nat) (h : s.settingsLaw)
    (hn : first.toNat + vs.length ≤ 46) (hw : writtenOk first vs (overwrite first.toNat vs s.settings) = true) :
    State.settingsLaw { s with settings := overwrite first.toNat vs s.settings } := by
  obtain ⟨hlen, hok, _⟩ := h
  have hnew : (overwrite first.toNat vs s.settings).length = 46 :=
    (overwrite_length _ _ _ (by omega)).trans hlen
  obtain ⟨hk, hmargin⟩ := (writtenOk_iff { s with settings := overwrite first.toNat vs s.settings } first vs hn).1 hw
  refine ⟨hnew, fun k => ?_, hmargin⟩
  have hc := cfg_of_settings { s with settings := overwrite first.toNat vs s.settings } k hnew
  dsimp only at hc
  rw [overwrite_getElem? _ _ _ (by omega)] at hc
  split at hc
  · rename_i hi; exact hk k _ hi.1 hc
  · rw [cfg_of_settings s k hlen] at hc
    exact Option.some.inj hc ▸ hok k

theorem State.writeSettings_settingsLaw (first : Byte) (data : List Byte) (s : State) (h : s.settingsLaw) :
    (s.writeSettings first data).1.settingsLaw := by
  unfold State.writeSettings
  split
  · exact h
  · rename_i vs hvs
    obtain ⟨_, hn⟩ := writeEntries_some hvs
    dsimp only
    split
    · exact h
    · rename_i hw
      split
      · exact h
      · exact State.settingsLaw_congr (State.applySettings_settings _ _ _ s)
          (State.settingsLaw_write s first vs h hn (by simpa using hw))

theorem frameRule_settingsLaw (c : Instr) (s : State) (h : s.settingsLaw) : (frameRule c s).1.settingsLaw := by
  cases c
  case writeSettings first data => exact State.writeSettings_settingsLaw first data s h
  all_goals refine State.settingsLaw_congr (State.settings_of_held ?_) h
  all_goals dsimp only [frameRule]
  all_goals simp

theorem State.reset_settingsLaw : State.reset.settingsLaw :=
  ⟨rfl, fun k => by cases k <;> rfl, by decide⟩

/-- A cold reset leaves the settings of State.reset (R194, R197). -/
theorem State.coldReset_settings (inputs : Inputs) (s : State) :
    (s.coldReset inputs).settings = State.reset.settings := by
  unfold State.coldReset
  split
  · rfl
  · exact State.settings_of_held (t := State.endReset _ _ _) (s := s.coldState inputs) (by simp)

theorem event_settingsLaw (c : Instr) (s : State) (h : s.settingsLaw) : (event c s).settingsLaw := by
  cases c
  case coldReset inputs => exact State.settingsLaw_congr (State.coldReset_settings inputs s) State.reset_settingsLaw
  all_goals refine State.settingsLaw_congr (State.settings_of_held ?_) h
  all_goals dsimp only [event]
  case receivedBreak | identityCaptureGapExpiry | breakSendEnd | breakGuardEnd | falseStart => split <;> simp
  all_goals simp

theorem effect_settingsLaw (c : Instr) (s : State) (h : s.settingsLaw) : (effect c s).settingsLaw :=
  effect_keeps State.settingsLaw
    (frame_keeps State.settingsLaw (fun _ _ h => h) (fun _ h => h) frameRule_settingsLaw) event_settingsLaw c s h

/-- Settles O8, by the modes that every command and every unit of time leave. -/
theorem everyStepKeepsTheModeLaw : Obligations.EveryStepKeepsTheModeLaw :=
  step_keeps_of_effect State.modeLaw (fun _ _ h => h) (fun _ _ h => h) effect_modeLaw State.tick_modeLaw

/-- Settles O11, by the one command that writes settings, which tests them first. -/
theorem everyStepKeepsTheSettings : Obligations.EveryStepKeepsTheSettings :=
  step_keeps_of_effect State.settingsLaw (fun _ _ h => h) (fun _ _ h => h) effect_settingsLaw
    fun s h => State.settingsLaw_congr s.tick_settings h

/-! ## The call log (R185) -/

theorem State.logBound_congr {s t : State} (e : t.log = s.log) (h : s.logBound) : t.logBound := by
  unfold State.logBound
  rw [show t.station.log = s.station.log from e]
  exact h

/-- A closing removes the oldest record where 16 are held (R184). -/
theorem logWith_length_le (l : List CallRecord) (r : CallRecord) : (logWith l r).length ≤ 16 := by
  unfold logWith
  rw [List.length_append, List.length_drop, List.length_singleton]
  omega

theorem State.closeRecord_logBound (s : State) (h : s.logBound) : s.closeRecord.logBound := by
  unfold State.closeRecord
  split
  · exact h
  · rename_i r _
    exact State.logBound_congr (State.noteMaybe_log _ _) (logWith_length_le s.station.log r)

theorem State.returnToFree_logBound (s : State) (h : s.logBound) : s.returnToFree.logBound := by
  have hf : (((s.closeRecord.modStore fun t => { t with gap := 0 }).clearProgress).modCall fun c =>
      c.quiet .free).logBound :=
    State.logBound_congr (s := s.closeRecord) (by simp) (s.closeRecord_logBound h)
  unfold State.returnToFree
  dsimp only
  split
  · exact State.logBound_congr (State.offer_log _) hf
  · exact hf

theorem State.endUnanswered_logBound (o : CallOutcome) (s : State) (h : s.logBound) : (s.endUnanswered o).logBound :=
  State.returnToFree_logBound _ (State.logBound_congr (State.setOutcome_log _ _) h)

theorem State.collide_logBound (s : State) (h : s.logBound) : s.collide.logBound := by
  unfold State.collide
  refine State.logBound_congr (State.offer_log _) (State.closeRecord_logBound _ ?_)
  exact State.logBound_congr (by simp) h

theorem State.callInAsserted_logBound (s : State) (h : s.logBound) : s.callInAsserted.logBound := by
  unfold State.callInAsserted
  split
  · exact h
  · dsimp only
    split
    · exact State.logBound_congr (State.offer_log _) h
    · exact State.collide_logBound _ h
    · exact h

theorem State.callInDeasserted_logBound (s : State) (h : s.logBound) : s.callInDeasserted.logBound := by
  unfold State.callInDeasserted
  split
  · exact h
  · dsimp only
    split
    · exact State.endUnanswered_logBound _ _ h
    · exact State.endUnanswered_logBound _ _ h
    · exact h

theorem State.guardExpiry_logBound (s : State) (h : s.logBound) : s.guardExpiry.logBound := by
  unfold State.guardExpiry
  split
  · exact h
  · dsimp only
    split
    · exact State.returnToFree_logBound _ h
    · exact h

@[simp] theorem State.changeMode_log (new : Mode) (byWatchdog : Bool) (s : State) :
    (s.changeMode new byWatchdog).log = s.log := by
  unfold State.changeMode
  dsimp only
  split
  · rfl
  · split
    · rfl
    · split <;> simp <;> rfl

@[simp] theorem State.watchdogExpiry_log (s : State) : s.watchdogExpiry.log = s.log := by
  unfold State.watchdogExpiry
  split
  · rfl
  · simp; rfl

@[simp] theorem State.orderMode_log (mode : Byte) (s : State) : (s.orderMode mode).1.log = s.log := by
  unfold State.orderMode
  split
  · rfl
  · split
    · rfl
    · split
      · rfl
      · exact State.changeMode_log _ _ s

/-- A warm reset logs the record it abandons (R67, R184). -/
theorem State.warmReset_logBound (s : State) (h : s.logBound) : s.warmReset.logBound := by
  unfold State.warmReset
  refine State.logBound_congr (s := (s.warmLine.warmTraffic.warmKeys.warmMechanism).warmStation s.abandoned)
    (by simp) ?_
  show List.length (match s.abandoned with
    | some r => logWith s.station.log r
    | none => s.station.log) ≤ 16
  split
  · exact logWith_length_le _ _
  · exact h

theorem State.coldReset_logBound (inputs : Inputs) (s : State) : (s.coldReset inputs).logBound := by
  have hc : (s.coldState inputs).logBound := Nat.zero_le _
  unfold State.coldReset
  split
  · exact hc
  · exact State.logBound_congr (by simp) hc

theorem State.frameSent_logBound (rate : BitVec 2) (s : State) (h : s.logBound) : (s.frameSent rate).logBound := by
  unfold State.frameSent
  split
  · exact h
  · dsimp only
    split
    · exact State.warmReset_logBound _ h
    · exact h

theorem State.orderLogDiscard_logBound (n : Byte) (s : State) (h : s.logBound) : (s.orderLogDiscard n).1.logBound := by
  unfold State.orderLogDiscard
  split
  · exact h
  · exact Nat.le_trans (by simp) h

theorem frameRule_logBound (c : Instr) (s : State) (h : s.logBound) : (frameRule c s).1.logBound := by
  cases c
  case orderLogDiscard n => exact State.orderLogDiscard_logBound n s h
  all_goals refine State.logBound_congr ?_ h
  all_goals dsimp only [frameRule]
  case orderAckRestart => rfl
  all_goals simp

theorem event_logBound (c : Instr) (s : State) (h : s.logBound) : (event c s).logBound := by
  cases c
  case coldReset inputs => exact State.coldReset_logBound inputs s
  case linkFrameSent rate => exact State.frameSent_logBound rate s h
  case callInAsserted => exact State.callInAsserted_logBound s h
  case callInDeasserted => exact State.callInDeasserted_logBound s h
  case clearingGuardExpiry => exact State.guardExpiry_logBound s h
  all_goals refine State.logBound_congr ?_ h
  all_goals dsimp only [event]
  case receivedBreak | identityCaptureGapExpiry | breakSendEnd | breakGuardEnd | falseStart => split <;> simp
  all_goals simp

theorem effect_logBound (c : Instr) (s : State) (h : s.logBound) : (effect c s).logBound :=
  effect_keeps State.logBound (frame_keeps State.logBound (fun _ _ h => h) (fun _ h => h) frameRule_logBound)
    event_logBound c s h

theorem step_logBound (s t : State) (h : s.logBound) (e : step s = .next t) : t.logBound :=
  step_keeps_of_effect State.logBound (fun _ _ h => h) (fun _ _ h => h) effect_logBound
    (fun s h => State.logBound_congr s.tick_log h) s t h e

/-! ## The places of the store (R36) -/

theorem frameRule_bound (c : Instr) (s : State) (h : s.storeBound) : (frameRule c s).1.storeBound := by
  cases c
  all_goals dsimp only [frameRule]
  all_goals simp [h]

theorem event_bound (c : Instr) (s : State) (h : s.storeBound) : (event c s).storeBound := by
  cases c
  case lineReturnToMark => exact State.lineReturnToMark_bound s h
  all_goals dsimp only [event]
  case receivedBreak | identityCaptureGapExpiry | breakSendEnd | breakGuardEnd | falseStart => split <;> simp [h]
  all_goals simp [h]

theorem effect_bound (c : Instr) (s : State) (h : s.storeBound) : (effect c s).storeBound :=
  effect_keeps State.storeBound (frame_keeps State.storeBound (fun _ _ h => h) (fun _ h => h) frameRule_bound)
    event_bound c s h

theorem step_storeBound (s t : State) (h : s.storeBound) (e : step s = .next t) : t.storeBound :=
  step_keeps_of_effect State.storeBound (fun _ _ h => h) (fun _ _ h => h) effect_bound
    (fun s h => s.tick_bound h) s t h e

/-! ## The punch (R163) -/

theorem State.punchLaw_congr {s t : State} (e : t.tapeState = s.tapeState) (h : s.punchLaw) : t.punchLaw := by
  simp only [State.tapeState, Prod.mk.injEq] at e
  obtain ⟨hs, hj, ht, ho⟩ := e
  unfold State.punchLaw
  rw [hs, hj, ht, ho]
  exact h

@[simp] theorem State.latchIf_punch (b : Bool) (k : Nat) (s : State) : (s.latchIf b k).punch = s.punch := by
  unfold State.latchIf
  split
  · rw [State.latch_frame]
  · rfl

/-- The punch enters OUT with a jam, or with no tape left (R163, R167, R170). -/
theorem State.punchOut_punchLaw (jam : Bool) (s : State) (h : jam = true ∨ s.punch.tape = 0) :
    (s.punchOut jam).punchLaw := by
  unfold State.punchOut
  refine State.punchLaw_congr (State.detach_tapeState _ _)
    ⟨fun _ hj => ?_, fun _ => rfl, fun ho => by cases ho⟩
  rcases h with hjam | ht
  · exact absurd (hjam.symm.trans hj) (by decide)
  · exact ht

/-- A punch neither in OUT nor with an operation or a jam hold (R163). -/
theorem State.punchLaw_of_idle (s : State) (hs : s.punch.state ≠ .out) (hj : s.punch.jamHold = false)
    (ho : s.punch.op = none) : s.punchLaw :=
  ⟨fun h => absurd h hs, fun h => by simp [hj] at h, fun h => by simp [ho] at h⟩

/-- The jam hold stands in OUT alone. -/
theorem State.punchLaw.jamHold {s : State} (h : s.punchLaw) (hs : s.punch.state ≠ .out) : s.punch.jamHold = false := by
  cases hj : s.punch.jamHold with
  | false => rfl
  | true => exact absurd (h.2.1 hj) hs

/-- An operation is in flight in BUSY alone. -/
theorem State.punchLaw.op {s : State} (h : s.punchLaw) (hs : s.punch.state ≠ .busy) : s.punch.op = none := by
  cases ho : s.punch.op with
  | none => rfl
  | some p => exact absurd (h.2.2 (by rw [ho]; rfl)) hs

/-- A count that no punch in OUT by tape-out is given keeps the law (R168 to R170). -/
theorem State.setTape_punchLaw (n : Nat) (s : State) (h : s.punchLaw)
    (hn : s.punch.state = .out → s.punch.jamHold = false → n = 0) : (s.setTape n).punchLaw := by
  unfold State.setTape
  dsimp only
  split
  · rename_i h0
    refine State.punchOut_punchLaw _ _ (Or.inr ?_)
    rw [State.latchIf_punch]
    exact h0.1
  · exact State.punchLaw_congr (State.latchIf_tapeState _ _ _) ⟨hn, h.2⟩

theorem State.cutTape_punchLaw (s : State) (h : s.punchLaw) : s.cutTape.punchLaw := by
  unfold State.cutTape
  split
  · rename_i hlt
    refine State.setTape_punchLaw _ s h fun hs hj => ?_
    have := h.1 hs hj
    omega
  · exact h

theorem State.beginPunch_punchLaw (op : PunchOp) (s : State) (hj : s.punch.jamHold = false) :
    (s.beginPunch op).punchLaw := by
  unfold State.beginPunch
  exact ⟨fun h => (by cases h), fun h => absurd (hj.symm.trans h) (by decide), fun _ => rfl⟩

theorem State.punchTake_punchLaw (s t : State) (h : s.punchLaw) (e : s.punchTake = some t) : t.punchLaw := by
  unfold State.punchTake at e
  split at e
  · cases e
  · rename_i hi
    have hs : s.punch.state = .idle := by simp at hi; exact hi.1
    have hj : s.punch.jamHold = false := h.jamHold (by simp [hs])
    split at e
    · cases e; exact State.beginPunch_punchLaw _ s hj
    · split at e
      · cases e
      · cases e; exact State.beginPunch_punchLaw _ _ hj

theorem State.countPunched_tapeState (s : State) :
    s.countPunched.tapeState = (s.punch.state, s.punch.jamHold, s.punch.tape - 1, s.punch.op) := by
  unfold State.countPunched
  simp
  rfl

theorem State.punchOffNow_punchLaw (s : State) (hj : s.punch.jamHold = false) : s.punchOffNow.punchLaw := by
  unfold State.punchOffNow
  exact State.punchLaw_congr (State.detach_tapeState _ _) (State.punchLaw_of_idle _ (by simp) hj rfl)

theorem State.punchOperationDone_punchLaw (s : State) (hj : s.punch.jamHold = false) :
    s.punchOperationDone.punchLaw := by
  unfold State.punchOperationDone
  split
  · exact State.punchOut_punchLaw _ s (Or.inr ‹_›)
  · split
    · exact s.punchOffNow_punchLaw hj
    · exact State.punchLaw_of_idle _ (by simp [State.punchIdle]) hj rfl

theorem State.punchDone_punchLaw (s : State) (h : s.punchLaw) : s.punchDone.punchLaw := by
  unfold State.punchDone
  split
  · exact h
  all_goals
    rename_i hop
    have hbusy : s.punch.state = .busy := h.2.2 (by rw [hop]; rfl)
    have hj : s.punch.jamHold = false := h.jamHold (by simp [hbusy])
    have hc : s.countPunched.punch.jamHold = false :=
      (congrArg (fun x => x.2.1) s.countPunched_tapeState).trans hj
  · exact State.punchOperationDone_punchLaw _
      ((congrArg (fun x => x.2.1) (State.consume_tapeState _ _ _)).trans hc)
  · dsimp only
    split
    · exact State.punchOut_punchLaw _ _ (Or.inr ‹_›)
    · exact State.beginPunch_punchLaw _ _ hc
  · dsimp only
    split
    · exact State.beginPunch_punchLaw _ _ hc
    · exact State.punchOperationDone_punchLaw _ hc

theorem State.punchResponseLimit_punchLaw (s : State) (h : s.punchLaw) : s.punchResponseLimit.punchLaw := by
  unfold State.punchResponseLimit
  split
  · exact State.punchOut_punchLaw _ _ (Or.inl rfl)
  · exact h

theorem State.tapeLowChange_punchLaw (low : Bool) (s : State) (h : s.punchLaw) : (s.tapeLowChange low).punchLaw := by
  unfold State.tapeLowChange
  split
  · exact h
  · dsimp only
    split
    · exact State.cutTape_punchLaw _ (State.punchLaw_congr (State.latch_tapeState _ _) h)
    · exact h

theorem State.punchBack_punchLaw (s : State) (ho : s.punch.op = none) : s.punchBack.punchLaw :=
  State.punchLaw_of_idle _ (by simp [State.punchBack, State.attach]) rfl ho

/-- ORDER TAPE LOADED brings back every punch that waits for tape, unless the count is 0 (R168). -/
theorem State.tapeLoaded_punchLaw (n : Nat) (s : State) (h : s.punchLaw) : (s.tapeLoaded n).punchLaw := by
  unfold State.tapeLoaded
  dsimp only
  by_cases hw : s.awaitsTape = true
  · have hni : s.punch.state ≠ .idle := by
      intro hi; simp [State.awaitsTape, hi] at hw
    have hnb : s.punch.state ≠ .busy := by
      intro hb; simp [State.awaitsTape, hb] at hw
    have ht : (s.setTape (s.loadedTape n)).tapeState =
        (s.punch.state, s.punch.jamHold, s.loadedTape n, s.punch.op) := by
      unfold State.setTape
      dsimp only
      rw [if_neg (fun hx => hni ?_)]
      · simp; rfl
      · simpa using hx.2
    have hop : (s.setTape (s.loadedTape n)).punch.op = none :=
      (congrArg (fun x => x.2.2.2) ht).trans (h.op hnb)
    have htape : (s.setTape (s.loadedTape n)).punch.tape = s.loadedTape n := congrArg (fun x => x.2.2.1) ht
    split
    · exact State.punchBack_punchLaw _ hop
    · rename_i h0
      refine State.setTape_punchLaw _ s h fun _ _ => ?_
      simpa [hw, htape] using h0
  · rw [if_neg (by simp [hw])]
    refine State.setTape_punchLaw _ s h fun hs hj => ?_
    simp [State.awaitsTape, hs, hj] at hw

theorem State.punchOff_punchLaw (s : State) (h : s.punchLaw) : s.punchOff.punchLaw := by
  unfold State.punchOff
  split
  · rename_i hs
    exact s.punchOffNow_punchLaw (h.jamHold (by simp [hs]))
  · exact h
  · rename_i hs
    exact State.punchLaw_of_idle _ (by simp) rfl (h.op (by simp [hs]))
  · exact h

theorem State.punchOn_punchLaw (s t : State) (h : s.punchLaw) (e : s.punchOn = some t) : t.punchLaw := by
  unfold State.punchOn at e
  split at e
  · cases e; exact h
  · cases e; exact h
  all_goals
    rename_i hs
    split at e
    · cases e
    · cases e; exact State.punchBack_punchLaw s (h.op (by simp [hs]))

theorem State.punchLeader_punchLaw (n : Nat) (s t : State) (h : s.punchLaw) (e : s.punchLeader n = some t) :
    t.punchLaw := by
  unfold State.punchLeader at e
  split at e
  · cases e
  · cases e
    exact State.punchLaw_congr (State.startCause_tapeState _) h

theorem State.orderPunchLeader_punchLaw (n : Byte) (s : State) (h : s.punchLaw) :
    (s.orderPunchLeader n).1.punchLaw := by
  unfold State.orderPunchLeader
  split
  · exact h
  · rw [State.grantOr_fst]
    cases e : s.punchLeader n.toNat with
    | none => exact h
    | some t => exact State.punchLeader_punchLaw _ s t h e

theorem State.orderTapeLoaded_punchLaw (n : BitVec 16) (s : State) (h : s.punchLaw) :
    (s.orderTapeLoaded n).1.punchLaw := by
  unfold State.orderTapeLoaded
  split
  · exact h
  · exact State.tapeLoaded_punchLaw _ s h

theorem State.applySettings_punchLaw (first : Byte) (n : Nat) (new : List Nat) (s : State) (h : s.punchLaw) :
    (s.applySettings first n new).punchLaw := by
  unfold State.applySettings
  dsimp only
  split <;> split
  case isTrue.isTrue | isFalse.isTrue => exact State.cutTape_punchLaw _ h
  all_goals exact h

theorem State.writeSettings_punchLaw (first : Byte) (data : List Byte) (s : State) (h : s.punchLaw) :
    (s.writeSettings first data).1.punchLaw := by
  unfold State.writeSettings
  split
  · exact h
  · dsimp only
    split
    · exact h
    · split
      · exact h
      · exact State.applySettings_punchLaw _ _ _ s h

theorem State.coldReset_punchLaw (inputs : Inputs) (s : State) : (s.coldReset inputs).punchLaw := by
  have hc : (s.coldState inputs).punchLaw := ⟨fun _ _ => rfl, fun h => (nomatch h), fun h => nomatch h⟩
  unfold State.coldReset
  split
  · exact hc
  · exact State.punchLaw_congr (by simp) hc

/-- A warm reset puts the punch to OUT by tape-out or to IDLE (R174). -/
theorem State.warmReset_punchLaw (s : State) : s.warmReset.punchLaw := by
  have hm : s.warmLine.warmTraffic.warmKeys.warmMechanism.punchLaw := by
    unfold State.warmMechanism
    refine ⟨fun hs _ => ?_, fun h => (nomatch h), fun h => nomatch h⟩
    by_contra h0
    simp only [State.modMotor_punch, State.modPunch_punch] at hs h0
    rw [if_neg h0] at hs
    cases hs
  unfold State.warmReset
  exact State.punchLaw_congr (by simp) hm

theorem State.frameSent_punchLaw (rate : BitVec 2) (s : State) (h : s.punchLaw) : (s.frameSent rate).punchLaw := by
  unfold State.frameSent
  split
  · exact h
  · dsimp only
    split
    · exact State.warmReset_punchLaw _
    · exact h

theorem frameRule_punchLaw (c : Instr) (s : State) (h : s.punchLaw) : (frameRule c s).1.punchLaw := by
  cases c
  case writeSettings first data => exact State.writeSettings_punchLaw first data s h
  case orderPunchOff => exact s.punchOff_punchLaw h
  case orderPunchOn =>
    dsimp only [frameRule]
    rw [State.grantOr_fst]
    cases e : s.punchOn with
    | none => exact h
    | some t => exact s.punchOn_punchLaw t h e
  case orderPunchLeader n => exact State.orderPunchLeader_punchLaw n s h
  case orderTapeLoaded n => exact State.orderTapeLoaded_punchLaw n s h
  all_goals refine State.punchLaw_congr ?_ h
  all_goals dsimp only [frameRule]
  all_goals simp

theorem event_punchLaw (c : Instr) (s : State) (h : s.punchLaw) : (event c s).punchLaw := by
  cases c
  case coldReset inputs => exact State.coldReset_punchLaw inputs s
  case linkFrameSent rate => exact State.frameSent_punchLaw rate s h
  case punchTakeWork =>
    dsimp only [event]
    cases e : s.punchTake with
    | none => exact h
    | some t => exact s.punchTake_punchLaw t h e
  case punchDone => exact s.punchDone_punchLaw h
  case punchResponseLimitExpiry => exact s.punchResponseLimit_punchLaw h
  case tapeLowChange low => exact s.tapeLowChange_punchLaw low h
  all_goals refine State.punchLaw_congr ?_ h
  all_goals dsimp only [event]
  case receivedBreak | identityCaptureGapExpiry | breakSendEnd | breakGuardEnd | falseStart => split <;> simp
  all_goals simp

theorem effect_punchLaw (c : Instr) (s : State) (h : s.punchLaw) : (effect c s).punchLaw :=
  effect_keeps State.punchLaw (frame_keeps State.punchLaw (fun _ _ h => h) (fun _ h => h) frameRule_punchLaw)
    event_punchLaw c s h

theorem step_punchLaw (s t : State) (h : s.punchLaw) (e : step s = .next t) : t.punchLaw :=
  step_keeps_of_effect State.punchLaw (fun _ _ h => h) (fun _ _ h => h) effect_punchLaw
    (fun s h => State.punchLaw_congr s.tick_tapeState h) s t h e

/-! ## The statements about a step and a command -/

/-- Settles O1. -/
theorem stepTakesTheFrontCommand : Obligations.StepTakesTheFrontCommand := by
  intro c rest s h
  simp only [step, h]

/-- While RESET stands asserted no internal event is due and no time passes (R211, log 29). -/
theorem step_of_reset (s : State) (hp : s.pending = []) (hr : s.pins.reset = true) : step s = .next s := by
  simp only [step, hp, State.nextDue, State.tick, hr, if_true]

/-- Settles O2, by the clock's two answers. -/
theorem stepOnEmptyQueueFollowsTheClock : Obligations.StepOnEmptyQueueFollowsTheClock := by
  intro s hp
  refine ⟨fun c hc => ?due, fun hn => ?time, step_of_reset s hp⟩
  case due => simp only [step, hp, hc]
  case time => simp only [step, hp, hn]

/-- Settles O3: every command is an effect that keeps the queue. -/
theorem everyCommandAnswersNext : Obligations.EveryCommandAnswersNext := fun c s =>
  ⟨_, exec_eq_next c s, effect_pending c s⟩

/-- The idle-stop timer in RUNNING, as a command leaves it (R160). -/
theorem State.idleWatched_idleStop (s t : State) (h : t.motor.state = .running) :
    (s.idleWatched t).motor.idleStop =
      if t.idleConditions = true then
        if s.idleConditions = true ∧ s.motor.state = .running then t.motor.idleStop else secondsOrOff (t.cfg .idleStop)
      else none :=
  if_pos h

/-- Settles O4, by the rule that `complete` applies after every effect. -/
theorem idleStopTimerAfterEveryCommand : Obligations.IdleStopTimerAfterEveryCommand := by
  intro c s t h hm
  rw [eq_idleWatched_of_exec h] at hm ⊢
  have ht := State.idleWatched_idleStop s (effect c s) hm
  refine ⟨fun hi => ?ceased, fun hi hs => ?began⟩
  case ceased =>
    have hi : (effect c s).idleConditions = false := hi
    rw [ht, if_neg (by simp [hi])]
  case began =>
    have hi : (effect c s).idleConditions = true := hi
    have hn : ¬(s.idleConditions = true ∧ s.motor.state = .running) := by
      rintro ⟨h1, h2⟩
      rcases hs with hs | hs
      · exact absurd (hs.symm.trans h1) (by decide)
      · exact hs h2
    rw [ht, if_pos hi, if_neg hn]
    rfl

/-- Settles O7: after a cold reset every store, log and record is empty. -/
theorem lawsHoldAtReset : Obligations.LawsHoldAtReset := by
  refine ⟨Or.inl rfl, Nat.zero_le _, fun e h => (nomatch h), fun k => ⟨Nat.le_of_eq ?_, fun i e h => nomatch h⟩,
    fun r h => (nomatch h), ⟨fun h => (nomatch h), fun h => absurd rfl h⟩, fun h => (nomatch h), Nat.zero_le _,
    ⟨fun _ _ => rfl, fun h => (nomatch h), fun h => nomatch h⟩, State.reset_settingsLaw⟩
  cases k <;> rfl

end Sys2Proof.Machine
end

section
/-! PROOFS. The laws of the store, of the open record and of the local clear: every operation is a run of moves
of the part of the state that they speak of, and every move keeps them. -/

namespace Sys2Proof.Machine

/-! ## What the laws of the store and of the call speak of -/

/-- The counts of the line in a call record: received, stored, unrouted, lost (R80). -/
def CallRecord.lineCounts (r : CallRecord) : Nat × Nat × Nat × Nat := (r.received, r.storedLine, r.unroutedLine, r.lost)

/-- The part of the state that the laws of R71, R72, R75, R80, R61, R181 and R184 speak of. -/
structure Essence where
  entries : List Entry
  cursors : Cursors
  /-- The sinks that are attached (R87). -/
  attached : SinkSet
  /-- The line's counts of the open record, none when none is open. -/
  counts : Option (Nat × Nat × Nat × Nat)
  call : CallState
  clearing : Bool

/-- The attached sinks as a set. -/
def State.attachedSet (s : State) : SinkSet :=
  { print := s.attached .print, punch := s.attached .punch, capture := s.attached .capture }

def State.essence (s : State) : Essence :=
  { entries := s.store.entries, cursors := s.store.cursors, attached := s.attachedSet
    counts := s.station.record.map CallRecord.lineCounts, call := s.call.state, clearing := s.call.localClear }

theorem State.attachedSet_has (s : State) (k : Sink) : s.attachedSet.has k = s.attached k := by cases k <;> rfl

/-! ## What one operation can do to it -/

/-- The essence without its empty heads (R71, R75). -/
def Essence.trimmed (x : Essence) : Essence :=
  { x with entries := x.entries.drop (emptyHeads x.entries), cursors := x.cursors.back (emptyHeads x.entries) }

/-- A sink has consumed the first n entries after its cursor that hold it (R74). -/
def Essence.consumed (k : Sink) (n : Nat) (x : Essence) : Essence :=
  let i := x.cursors.get k
  let es := x.entries.take i ++ releaseHeld k n (x.entries.drop i)
  Essence.trimmed { x with entries := es, cursors := x.cursors.set k ((nextHeld k i es).getD es.length) }

/-- A sink's cursor stands at the next entry that holds it (R73). -/
def Essence.advanced (k : Sink) (x : Essence) : Essence :=
  { x with cursors := x.cursors.set k ((nextHeld k (x.cursors.get k) x.entries).getD x.entries.length) }

/-- A sink's cursor stands at the end of the store (R88). -/
def Essence.atEnd (k : Sink) (x : Essence) : Essence := { x with cursors := x.cursors.set k x.entries.length }

/-- Every entry is released by a sink, which may be attached no longer (R89). -/
def Essence.released (k : Sink) (a : SinkSet) (x : Essence) : Essence :=
  Essence.trimmed
    { x with
      entries := x.entries.map fun e => { e with pending := e.pending.without k }
      cursors := x.cursors.set k x.entries.length
      attached := a }

/-- An entry owed to the printer is owed to the punch too (R91). -/
def divertedEntry (e : Entry) : Entry :=
  if e.pending.print then { e with pending := { e.pending with punch := true } } else e

/-- The entries at and after the punch's cursor are diverted (R91). -/
def Essence.diverted (x : Essence) : Essence :=
  { x with entries := x.entries.take x.cursors.punch ++ (x.entries.drop x.cursors.punch).map divertedEntry }

/-- A local clear is in progress in SELECTING and CONNECTED alone (R61). -/
def Essence.inOrder (x : Essence) : Prop := x.clearing = true → x.call = .selecting ∨ x.call = .connected

/-- The counts after a character of the line: received, and stored, unrouted or lost (R77, R80). -/
def Arrival (c d : Nat × Nat × Nat × Nat) : Prop :=
  d = (bump c.1, bump c.2.1, c.2.2.1, c.2.2.2) ∨ d = (bump c.1, c.2.1, bump c.2.2.1, c.2.2.2) ∨
    d = (bump c.1, c.2.1, c.2.2.1, bump c.2.2.2)

/-- The moves of the essence: whatever an operation does to it is a run of these. -/
inductive Essence.Move : Essence → Essence → Prop
  | consumed (x : Essence) (k : Sink) (n : Nat) : Move x (x.consumed k n)
  | advanced (x : Essence) (k : Sink) : Move x (x.advanced k)
  | stored (x : Essence) (e : Entry) (owed : e.pending.isEmpty = false)
      (sinks : ∀ k, e.holds k = true → x.attached.has k = true) : Move x { x with entries := x.entries ++ [e] }
  | released (x : Essence) (k : Sink) (a : SinkSet) (others : ∀ j, j ≠ k → a.has j = x.attached.has j) :
      Move x (x.released k a)
  | attached (x : Essence) (a : SinkSet) (more : ∀ k, x.attached.has k = true → a.has k = true) :
      Move x { x with attached := a }
  | atEnd (x : Essence) (k : Sink) (apart : x.attached.has k = false) : Move x (x.atEnd k)
  | diverted (x : Essence) (punch : x.attached.punch = true) : Move x x.diverted
  | arrived (x : Essence) (f : Nat × Nat × Nat × Nat → Nat × Nat × Nat × Nat) (counts : ∀ c, Arrival c (f c)) :
      Move x { x with counts := x.counts.map f }
  | called (x : Essence) (st : CallState) (lc : Bool) (before : x.inOrder → x.call ≠ .free) (after : st ≠ .free)
      (clear : x.inOrder → lc = true → st = .selecting ∨ st = .connected) :
      Move x { x with call := st, clearing := lc }
  | opened (x : Essence) (st : CallState) (lc : Bool) (after : st ≠ .free)
      (clear : x.inOrder → lc = true → st = .selecting ∨ st = .connected) :
      Move x { x with counts := some (0, 0, 0, 0), call := st, clearing := lc }
  | closed (x : Essence) : Move x { x with counts := none, call := .free, clearing := false }
  | emptied (x : Essence) (a : SinkSet) :
      Move x
        { entries := [], cursors := { print := 0, punch := 0, capture := 0 }, attached := a, counts := none
          call := .free, clearing := false }

/-- The essence of one state leads to that of another by moves. -/
def Reaches (s t : State) : Prop := Relation.ReflTransGen Essence.Move s.essence t.essence

theorem Reaches.of_eq {s t : State} (h : t.essence = s.essence) : Reaches s t := by
  unfold Reaches; rw [h]

theorem Reaches.trans {s t u : State} (h : Reaches s t) (g : Reaches t u) : Reaches s u :=
  Relation.ReflTransGen.trans h g

/-- A move, up to the essence that an operation leaves. -/
theorem Reaches.move {s t : State} {x : Essence} (h : Essence.Move s.essence x) (e : t.essence = x) : Reaches s t := by
  unfold Reaches; rw [e]; exact Relation.ReflTransGen.single h

theorem Reaches.refl (s : State) : Reaches s s := Relation.ReflTransGen.refl

/-- A law of the essence that every move keeps. -/
theorem Reaches.keeps {s t : State} (h : Reaches s t) (P : Essence → Prop) (hP : ∀ x y, Essence.Move x y → P x → P y)
    (hs : P s.essence) : P t.essence := by
  unfold Reaches at h
  generalize t.essence = y at h ⊢
  induction h with
  | refl => exact hs
  | tail _ hm ih => exact hP _ _ hm ih

/-! ## The laws, move by move -/

/-- R75: the oldest entry is owed to a sink. -/
def Essence.headOwed (x : Essence) : Prop := ∀ e, x.entries.head? = some e → e.pending.isEmpty = false

theorem emptyHeads_head (es : List Entry) (e : Entry) (h : (es.drop (emptyHeads es)).head? = some e) :
    e.pending.isEmpty = false := by
  rw [(emptyHeads_dropWhile es).1] at h
  have := List.head?_dropWhile_not (fun e : Entry => e.pending.isEmpty) es
  rw [h] at this
  simpa using this

theorem Essence.trimmed_headOwed (x : Essence) : x.trimmed.headOwed := fun e h => emptyHeads_head x.entries e h

theorem divertedEntry_isEmpty (e : Entry) (h : e.pending.isEmpty = false) :
    (divertedEntry e).pending.isEmpty = false := by
  unfold divertedEntry
  split
  · simp [SinkSet.isEmpty]
  · exact h

theorem Essence.Move.headOwed {x y : Essence} (m : Essence.Move x y) (h : x.headOwed) : y.headOwed := by
  cases m with
  | consumed k n => exact Essence.trimmed_headOwed _
  | released k a _ => exact Essence.trimmed_headOwed _
  | stored e owed _ =>
    intro f hf
    cases he : x.entries with
    | nil => rw [he] at hf; cases hf; exact owed
    | cons g es => rw [he] at hf; exact h f (by rw [he]; exact hf)
  | diverted _ =>
    intro f hf
    cases he : x.entries with
    | nil => simp [Essence.diverted, he] at hf
    | cons g es =>
      have hg : g.pending.isEmpty = false := h g (by rw [he]; rfl)
      cases hc : x.cursors.punch with
      | zero =>
        simp only [Essence.diverted, he, hc, List.take_zero, List.drop_zero, List.nil_append, List.map_cons,
          List.head?_cons, Option.some.injEq] at hf
        exact hf ▸ divertedEntry_isEmpty g hg
      | succ n =>
        simp only [Essence.diverted, he, hc, List.take_succ_cons, List.cons_append, List.head?_cons,
          Option.some.injEq] at hf
        exact hf ▸ hg
  | emptied a => exact fun e he => nomatch he
  | _ => exact h

/-- R80: what was received is what was stored, unrouted and lost. -/
def Essence.countLaw (x : Essence) : Prop :=
  ∀ c, x.counts = some c → c.1 < 65535 → c.1 = c.2.1 + c.2.2.1 + c.2.2.2

theorem Essence.Move.countLaw {x y : Essence} (m : Essence.Move x y) (h : x.countLaw) : y.countLaw := by
  cases m with
  | arrived f hf =>
    intro d hd hlt
    obtain ⟨c, hc, rfl⟩ := Option.map_eq_some_iff.1 hd
    obtain ⟨r, st, u, l⟩ := c
    have hl := h _ hc
    simp only at hl
    rcases hf (r, st, u, l) with e | e | e
    all_goals
      rw [e] at hlt ⊢
      simp only [bump] at hlt ⊢
      omega
  | opened st lc _ _ => intro c hc _; cases hc; rfl
  | closed => exact fun c hc => nomatch hc
  | emptied a => exact fun c hc => nomatch hc
  | _ => exact h

/-- R61, R181, R184: a record is open exactly while the call is not FREE, and a local clear stands where it may. -/
def Essence.callLaw (x : Essence) : Prop := (x.counts.isSome = true ↔ x.call ≠ .free) ∧ x.inOrder

theorem Essence.Move.callLaw {x y : Essence} (m : Essence.Move x y) (h : x.callLaw) : y.callLaw := by
  obtain ⟨hr, ho⟩ := h
  cases m with
  | arrived f hf => exact ⟨by simpa using hr, ho⟩
  | called st lc before after clear => exact ⟨⟨fun _ => after, fun _ => hr.2 (before ho)⟩, clear ho⟩
  | opened st lc after clear => exact ⟨⟨fun _ => after, fun _ => rfl⟩, clear ho⟩
  | closed => exact ⟨⟨fun hc => (nomatch hc), fun hc => absurd rfl hc⟩, fun hc => nomatch hc⟩
  | emptied a => exact ⟨⟨fun hc => (nomatch hc), fun hc => absurd rfl hc⟩, fun hc => nomatch hc⟩
  | _ => exact ⟨hr, ho⟩

/-- R71, R72: every cursor stands within the store, and a sink in a pending set is attached, its cursor at or before the
entry. -/
def Essence.sinkLaw (x : Essence) : Prop :=
  ∀ k : Sink, x.cursors.get k ≤ x.entries.length ∧
    ∀ (i : Nat) (e : Entry), x.entries[i]? = some e → e.holds k = true → x.attached.has k = true ∧ x.cursors.get k ≤ i

theorem Cursors.get_set (c : Cursors) (j k : Sink) (n : Nat) : (c.set k n).get j = if j = k then n else c.get j := by
  cases j <;> cases k <;> rfl

theorem Cursors.get_back (c : Cursors) (k : Sink) (n : Nat) : (c.back n).get k = c.get k - n := by cases k <;> rfl

theorem SinkSet.has_without (p : SinkSet) (j k : Sink) : (p.without k).has j = (p.has j && decide (j ≠ k)) := by
  cases j <;> cases k <;> simp [SinkSet.without, SinkSet.has]

/-- No entry between the cursor and the next one that holds the sink holds it. -/
theorem nextHeld_getD_le (k : Sink) (i m : Nat) (es : List Entry) (e : Entry) (him : i ≤ m) (he : es[m]? = some e)
    (hk : e.holds k = true) : (nextHeld k i es).getD es.length ≤ m := by
  have hd : (es.drop i)[m - i]? = some e := by rw [List.getElem?_drop, Nat.add_sub_cancel' him]; exact he
  unfold nextHeld
  cases hf : (es.drop i).findIdx? fun e => e.holds k with
  | none =>
    have := List.findIdx?_eq_none_iff.1 hf e (List.mem_of_getElem? hd)
    exact absurd (hk.symm.trans this) (by decide)
  | some d =>
    obtain ⟨_, _, hmin⟩ := List.findIdx?_eq_some_iff_getElem.1 hf
    obtain ⟨hlt, hg⟩ := List.getElem?_eq_some_iff.1 hd
    have hdm : d ≤ m - i := by
      by_contra hcon
      have := hmin (m - i) (by omega)
      rw [hg] at this
      exact this hk
    simp only [Option.map_some, Option.getD_some]
    omega

theorem nextHeld_getD_le_length (k : Sink) (i : Nat) (es : List Entry) (h : i ≤ es.length) :
    (nextHeld k i es).getD es.length ≤ es.length := by
  rw [nextHeld_getD k i es h]
  have := (List.takeWhile_sublist (fun e : Entry => !e.holds k) (l := es.drop i)).length_le
  rw [List.length_drop] at this
  omega

/-- An entry whose pending set is part of another's. -/
def Entry.within (e f : Entry) : Prop := ∀ j, e.holds j = true → f.holds j = true

theorem releaseHeld_within (k : Sink) : ∀ (n : Nat) (l : List Entry) (m : Nat) (e : Entry),
    (releaseHeld k n l)[m]? = some e → ∃ f, l[m]? = some f ∧ e.within f
  | 0, l, m, e, h => ⟨e, by simpa [releaseHeld] using h, fun _ => id⟩
  | _ + 1, [], m, e, h => by simp [releaseHeld] at h
  | n + 1, f :: l, m, e, h => by
    unfold releaseHeld at h
    split at h
    · cases m with
      | zero =>
        refine ⟨f, rfl, fun j hj => ?_⟩
        cases h
        have hj : (f.pending.without k).has j = true := hj
        rw [SinkSet.has_without, Bool.and_eq_true] at hj
        exact hj.1
      | succ m => exact releaseHeld_within k n l m e h
    · cases m with
      | zero => cases h; exact ⟨f, rfl, fun _ => id⟩
      | succ m => exact releaseHeld_within k (n + 1) l m e h

/-- What a sink releases from its cursor on leaves every entry at its place. -/
theorem take_releaseHeld_within (k : Sink) (n i : Nat) (l : List Entry) (m : Nat) (e : Entry)
    (h : (l.take i ++ releaseHeld k n (l.drop i))[m]? = some e) :
    ∃ f, l[m]? = some f ∧ e.within f ∧ (m < i → f = e) := by
  rw [List.getElem?_append] at h
  split at h
  · rename_i hm
    have hmi : m < i := by rw [List.length_take] at hm; omega
    rw [List.getElem?_take_of_lt hmi] at h
    exact ⟨e, h, fun _ => id, fun _ => rfl⟩
  · rename_i hm
    obtain ⟨f, hf, hw⟩ := releaseHeld_within k n _ _ e h
    rw [List.getElem?_drop] at hf
    obtain ⟨hlt, _⟩ := List.getElem?_eq_some_iff.1 hf
    rw [List.length_take] at hm hf hlt
    have hi : i + (m - min i l.length) = m := by omega
    rw [hi] at hf
    exact ⟨f, hf, hw, fun hmi => by omega⟩

theorem Essence.trimmed_sinkLaw (x : Essence) (h : x.sinkLaw) : x.trimmed.sinkLaw := by
  intro k
  obtain ⟨hlen, hheld⟩ := h k
  unfold Essence.trimmed
  dsimp only
  rw [Cursors.get_back, List.length_drop]
  refine ⟨by omega, fun i e he hk => ?_⟩
  rw [List.getElem?_drop] at he
  obtain ⟨ha, hc⟩ := hheld _ e he hk
  exact ⟨ha, by omega⟩

theorem Essence.consumed_sinkLaw (x : Essence) (k : Sink) (n : Nat) (h : x.sinkLaw) : (x.consumed k n).sinkLaw := by
  refine Essence.trimmed_sinkLaw _ fun j => ?_
  obtain ⟨hlen, hheld⟩ := h j
  have hl : (x.entries.take (x.cursors.get k) ++ releaseHeld k n (x.entries.drop (x.cursors.get k))).length
      = x.entries.length := by
    rw [List.length_append, releaseHeld_length, ← List.length_append, List.take_append_drop]
  dsimp only
  rw [Cursors.get_set]
  refine ⟨?_, fun i e he hj => ?_⟩
  · split
    · exact nextHeld_getD_le_length _ _ _ (by rw [hl]; exact (h k).1)
    · rw [hl]; exact hlen
  · obtain ⟨f, hf, hw, hlt⟩ := take_releaseHeld_within k n _ _ i e he
    obtain ⟨ha, hc⟩ := hheld i f hf (hw j hj)
    refine ⟨ha, ?_⟩
    split
    · rename_i hjk
      subst hjk
      exact nextHeld_getD_le j _ i _ e hc he hj
    · exact hc

theorem Essence.advanced_sinkLaw (x : Essence) (k : Sink) (h : x.sinkLaw) : (x.advanced k).sinkLaw := by
  intro j
  obtain ⟨hlen, hheld⟩ := h j
  unfold Essence.advanced
  dsimp only
  rw [Cursors.get_set]
  split
  · rename_i hjk
    subst hjk
    refine ⟨nextHeld_getD_le_length _ _ _ hlen, fun i e he hj => ?_⟩
    obtain ⟨ha, hc⟩ := hheld i e he hj
    exact ⟨ha, nextHeld_getD_le j _ i _ e hc he hj⟩
  · exact ⟨hlen, hheld⟩

theorem Essence.stored_sinkLaw (x : Essence) (e : Entry) (hs : ∀ k, e.holds k = true → x.attached.has k = true)
    (h : x.sinkLaw) : Essence.sinkLaw { x with entries := x.entries ++ [e] } := by
  intro k
  obtain ⟨hlen, hheld⟩ := h k
  dsimp only
  refine ⟨by rw [List.length_append]; omega, fun i f hf hk => ?_⟩
  rw [List.getElem?_append] at hf
  split at hf
  · exact hheld i f hf hk
  · rename_i hi
    obtain ⟨_, hfe⟩ := List.getElem?_eq_some_iff.1 hf
    rw [List.getElem_singleton] at hfe
    exact ⟨hs k (hfe ▸ hk), by omega⟩

theorem Essence.released_sinkLaw (x : Essence) (k : Sink) (a : SinkSet)
    (ho : ∀ j, j ≠ k → a.has j = x.attached.has j) (h : x.sinkLaw) : (x.released k a).sinkLaw := by
  refine Essence.trimmed_sinkLaw _ fun j => ?_
  obtain ⟨hlen, hheld⟩ := h j
  dsimp only
  rw [Cursors.get_set, List.length_map]
  refine ⟨by split <;> omega, fun i e he hj => ?_⟩
  rw [List.getElem?_map] at he
  obtain ⟨f, hf, rfl⟩ := Option.map_eq_some_iff.1 he
  have hj : (f.pending.without k).has j = true := hj
  rw [SinkSet.has_without, Bool.and_eq_true, decide_eq_true_iff] at hj
  obtain ⟨ha, hc⟩ := hheld i f hf hj.1
  exact ⟨(ho j hj.2).trans ha, by rw [if_neg hj.2]; exact hc⟩

theorem divertedEntry_holds (e : Entry) (j : Sink) (h : (divertedEntry e).holds j = true) :
    j = .punch ∨ e.holds j = true := by
  unfold divertedEntry at h
  split at h
  · cases j
    · exact Or.inr h
    · exact Or.inl rfl
    · exact Or.inr h
  · exact Or.inr h

theorem Essence.diverted_sinkLaw (x : Essence) (hp : x.attached.punch = true) (h : x.sinkLaw) : x.diverted.sinkLaw := by
  intro j
  obtain ⟨hlen, hheld⟩ := h j
  unfold Essence.diverted
  dsimp only
  refine ⟨by rw [List.length_append, List.length_map, ← List.length_append, List.take_append_drop]; exact hlen,
    fun i e he hj => ?_⟩
  rw [List.getElem?_append] at he
  split at he
  · rename_i hi
    rw [List.getElem?_take_of_lt (by rw [List.length_take] at hi; omega)] at he
    exact hheld i e he hj
  · rename_i hi
    rw [List.getElem?_map, List.getElem?_drop] at he
    obtain ⟨f, hf, rfl⟩ := Option.map_eq_some_iff.1 he
    have hpl : x.cursors.punch ≤ x.entries.length := (h .punch).1
    rw [List.length_take] at hi hf
    rw [show x.cursors.punch + (i - min x.cursors.punch x.entries.length) = i by omega] at hf
    rcases divertedEntry_holds f j hj with rfl | hfj
    · exact ⟨hp, by show x.cursors.punch ≤ i; omega⟩
    · exact hheld i f hf hfj

theorem Essence.Move.sinkLaw {x y : Essence} (m : Essence.Move x y) (h : x.sinkLaw) : y.sinkLaw := by
  cases m with
  | consumed k n => exact x.consumed_sinkLaw k n h
  | advanced k => exact x.advanced_sinkLaw k h
  | stored e _ sinks => exact x.stored_sinkLaw e sinks h
  | released k a others => exact x.released_sinkLaw k a others h
  | diverted punch => exact x.diverted_sinkLaw punch h
  | attached a more =>
    exact fun k => ⟨(h k).1, fun i e he hk => ⟨more k ((h k).2 i e he hk).1, ((h k).2 i e he hk).2⟩⟩
  | atEnd k apart =>
    intro j
    obtain ⟨hlen, hheld⟩ := h j
    unfold Essence.atEnd
    dsimp only
    rw [Cursors.get_set]
    split
    · rename_i hjk
      subst hjk
      refine ⟨Nat.le_refl _, fun i e he hj => ?_⟩
      exact absurd ((hheld i e he hj).1.symm.trans apart) (by decide)
    · exact ⟨hlen, hheld⟩
  | emptied a => exact fun k => ⟨by cases k <;> exact Nat.zero_le _, fun i e he => nomatch he⟩
  | _ => exact h

/-! ## What leaves the essence alone -/

@[simp] theorem State.modPins_essence (f) (s : State) : (s.modPins f).essence = s.essence := rfl
@[simp] theorem State.modTranslate_essence (f) (s : State) : (s.modTranslate f).essence = s.essence := rfl
@[simp] theorem State.modSettings_essence (f) (s : State) : (s.modSettings f).essence = s.essence := rfl
@[simp] theorem State.modRx_essence (f) (s : State) : (s.modRx f).essence = s.essence := rfl
@[simp] theorem State.modCal_essence (f) (s : State) : (s.modCal f).essence = s.essence := rfl
@[simp] theorem State.modTx_essence (f) (s : State) : (s.modTx f).essence = s.essence := rfl
@[simp] theorem State.modRoute_essence (f) (s : State) : (s.modRoute f).essence = s.essence := rfl
@[simp] theorem State.modMatcher_essence (f) (s : State) : (s.modMatcher f).essence = s.essence := rfl
@[simp] theorem State.modAnswer_essence (f) (s : State) : (s.modAnswer f).essence = s.essence := rfl
@[simp] theorem State.modKb_essence (f) (s : State) : (s.modKb f).essence = s.essence := rfl
@[simp] theorem State.modBell_essence (f) (s : State) : (s.modBell f).essence = s.essence := rfl
@[simp] theorem State.modMotor_essence (f) (s : State) : (s.modMotor f).essence = s.essence := rfl
@[simp] theorem State.modCond_essence (f) (s : State) : (s.modCond f).essence = s.essence := rfl
@[simp] theorem State.modHostRx_essence (f) (s : State) : (s.modHostRx f).essence = s.essence := rfl
@[simp] theorem State.modFreeCount_essence (f) (s : State) : (s.modFreeCount f).essence = s.essence := rfl
@[simp] theorem State.modPending_essence (f) (s : State) : (s.modPending f).essence = s.essence := rfl
@[simp] theorem State.modSend_essence (f) (s : State) : (s.modSend f).essence = s.essence := rfl

@[simp] theorem State.modLink_essence (f : Link → Link) (s : State) (h : ∀ l, (f l).capture.state = l.capture.state) :
    (s.modLink f).essence = s.essence := by
  simp [State.essence, State.attachedSet, State.attached, State.modLink, h]

@[simp] theorem State.modCapture_essence (f : CaptureChannel → CaptureChannel) (s : State)
    (h : ∀ c, (f c).state = c.state) : (s.modCapture f).essence = s.essence :=
  State.modLink_essence _ s fun l => h l.capture

@[simp] theorem State.modPrinter_essence (f : Printer → Printer) (s : State) (h : ∀ p, (f p).state = p.state) :
    (s.modPrinter f).essence = s.essence := by
  simp [State.essence, State.attachedSet, State.attached, State.modPrinter, h]

@[simp] theorem State.modPunch_essence (f : Punch → Punch) (s : State) (h : ∀ p, (f p).state = p.state) :
    (s.modPunch f).essence = s.essence := by
  simp [State.essence, State.attachedSet, State.attached, State.modPunch, h]

@[simp] theorem State.modStation_essence (f : Station → Station) (s : State) (h : ∀ u, (f u).record = u.record) :
    (s.modStation f).essence = s.essence := by
  simp [State.essence, State.attachedSet, State.attached, State.modStation, h]

@[simp] theorem State.modStore_essence (f : Store → Store) (s : State) (he : ∀ t, (f t).entries = t.entries)
    (hc : ∀ t, (f t).cursors = t.cursors) : (s.modStore f).essence = s.essence := by
  simp [State.essence, State.attachedSet, State.attached, State.modStore, he, hc]

@[simp] theorem State.modCall_essence (f : Call → Call) (s : State) (hs : ∀ c, (f c).state = c.state)
    (hl : ∀ c, (f c).localClear = c.localClear) : (s.modCall f).essence = s.essence := by
  simp [State.essence, State.attachedSet, State.attached, State.modCall, hs, hl]

@[simp] theorem State.modRecord_essence (f : CallRecord → CallRecord) (s : State)
    (h : ∀ r, (f r).lineCounts = r.lineCounts) : (s.modRecord f).essence = s.essence := by
  simp only [State.essence, State.attachedSet, State.attached, State.modRecord, State.modStation, Option.map_map]
  congr 2
  exact funext h

@[simp] theorem State.note_essence (n : Notice) (s : State) : (s.note n).essence = s.essence := by simp [State.note]

@[simp] theorem State.noteMaybe_essence (n : Option Notice) (s : State) : (s.noteMaybe n).essence = s.essence := by
  cases n <;> simp [State.noteMaybe]

@[simp] theorem State.latch_essence (k : Nat) (s : State) : (s.latch k).essence = s.essence := by
  unfold State.latch; split <;> simp

@[simp] theorem State.latchIf_essence (b : Bool) (k : Nat) (s : State) : (s.latchIf b k).essence = s.essence := by
  unfold State.latchIf; split <;> simp

@[simp] theorem State.setOutcome_essence (o : CallOutcome) (s : State) : (s.setOutcome o).essence = s.essence :=
  State.modRecord_essence _ s fun _ => rfl

@[simp] theorem State.flagRecord_essence (f : RecordFlags → RecordFlags) (s : State) :
    (s.flagRecord f).essence = s.essence :=
  State.modRecord_essence _ s fun _ => rfl

/-- The counts of the station's own characters are no counts of the line (R80). -/
theorem State.countStored_essence (src : Source) (s : State) (h : src ≠ .line) :
    (s.countStored src).essence = s.essence :=
  State.modRecord_essence _ s fun r => by rw [if_neg h]; rfl

theorem State.countUnrouted_essence (src : Source) (s : State) (h : src ≠ .line) :
    (s.countUnrouted src).essence = s.essence :=
  State.modRecord_essence _ s fun r => by rw [if_neg h]; rfl

@[simp] theorem State.startCause_essence (s : State) : s.startCause.essence = s.essence := by
  unfold State.startCause; split <;> simp

@[simp] theorem State.bellPulse_essence (s : State) : s.bellPulse.essence = s.essence := rfl

@[simp] theorem State.moveSendShift_essence (c : Code) (s : State) : (s.moveSendShift c).essence = s.essence := by
  unfold State.moveSendShift; split <;> simp

@[simp] theorem State.storeNotice_essence (s : State) : s.storeNotice.essence = s.essence := by
  unfold State.storeNotice; split <;> simp

@[simp] theorem State.countSend_essence (s : State) : s.countSend.essence = s.essence := by
  unfold State.countSend; split <;> simp

@[simp] theorem State.endSend_essence (why : EndReason) (s : State) : (s.endSend why).essence = s.essence := by
  unfold State.endSend; split <;> simp

@[simp] theorem State.discardWork_essence (s : State) : s.discardWork.essence = s.essence := rfl
@[simp] theorem State.receiverOff_essence (s : State) : s.receiverOff.essence = s.essence := rfl
@[simp] theorem State.receiverOn_essence (s : State) : s.receiverOn.essence = s.essence := rfl
@[simp] theorem State.closeWindow_essence (s : State) : s.closeWindow.essence = s.essence := rfl

@[simp] theorem State.leaveConnected_essence (s : State) : s.leaveConnected.essence = s.essence := by
  rw [State.leaveConnected, State.modRecord_essence]
  · rfl
  · exact fun _ => rfl

@[simp] theorem State.emptyQueues_essence (s : State) : s.emptyQueues.essence = s.essence := by simp [State.emptyQueues]

@[simp] theorem State.answerbackRequest_essence (s : State) : s.answerbackRequest.essence = s.essence := by
  unfold State.answerbackRequest; (repeat' split) <;> simp

@[simp] theorem State.restartIdle_essence (s : State) : s.restartIdle.essence = s.essence := by
  unfold State.restartIdle; split <;> simp

@[simp] theorem State.startCalibration_essence (s : State) : s.startCalibration.essence = s.essence := rfl
@[simp] theorem State.switchesAtConnect_essence (s : State) : s.switchesAtConnect.essence = s.essence := rfl
@[simp] theorem State.clearProgress_essence (s : State) : s.clearProgress.essence = s.essence := rfl

@[simp] theorem State.beginIdentity_essence (dir : Direction) (s : State) :
    (s.beginIdentity dir).essence = s.essence := by
  unfold State.beginIdentity; (repeat' split) <;> simp

@[simp] theorem State.receiverHunt_essence (s : State) : s.receiverHunt.essence = s.essence := rfl

@[simp] theorem State.windowError_essence (s : State) : s.windowError.essence = s.essence := by simp [State.windowError]

@[simp] theorem State.windowGood_essence (candidate bias : Int) (s : State) :
    (s.windowGood candidate bias).essence = s.essence := by
  unfold State.windowGood; dsimp only; (repeat' split) <;> simp

@[simp] theorem State.windowEnd_essence (s : State) : s.windowEnd.essence = s.essence := by
  unfold State.windowEnd; dsimp only; (repeat' split) <;> simp

@[simp] theorem State.calibrate_essence (ds : List Int) (s : State) : (s.calibrate ds).essence = s.essence := by
  unfold State.calibrate; dsimp only; (repeat' split) <;> simp

@[simp] theorem State.appendIdentity_essence (c : IChar) (n : Nat) (s : State) :
    (s.appendIdentity c n).essence = s.essence := by
  unfold State.appendIdentity
  dsimp only
  split <;> simp <;> exact State.modRecord_essence _ s fun _ => rfl

@[simp] theorem State.captureIdentity_essence (good : Bool) (e : TransEntry) (s : State) :
    (s.captureIdentity good e).essence = s.essence := by
  unfold State.captureIdentity; dsimp only; (repeat' split) <;> simp

@[simp] theorem State.matchProgress_essence (good : Bool) (e : TransEntry) (s : State) :
    (s.matchProgress good e).essence = s.essence := by
  unfold State.matchProgress; split <;> rfl

@[simp] theorem State.receiveBreak_essence (s : State) : s.receiveBreak.essence = s.essence := by
  simp [State.receiveBreak]

@[simp] theorem State.beginCode_essence (c : Code) (u : TxUnit) (f : Follow) (s : State) :
    (s.beginCode c u f).essence = s.essence := rfl

@[simp] theorem State.goOn_essence (may : Bool) (c : Code) (u : TxUnit) (s : State) :
    (s.goOn may c u).essence = s.essence := by
  unfold State.goOn; split <;> simp

@[simp] theorem State.endRun_essence (s : State) : s.endRun.essence = s.essence := rfl

@[simp] theorem State.openWindow_essence (s : State) : s.openWindow.essence = s.essence := by
  unfold State.openWindow
  rw [State.modAnswer_essence]
  exact State.modRecord_essence _ s fun _ => rfl

@[simp] theorem State.charPress_essence (c : IChar) (s : State) : (s.charPress c).essence = s.essence := by
  unfold State.charPress; split <;> simp

@[simp] theorem State.operatorPress_essence (pos : Nat) (e : KeyEntry) (s : State) :
    (s.operatorPress pos e).essence = s.essence := by
  unfold State.operatorPress; split <;> simp

@[simp] theorem State.beginAction_essence (a : PrinterAction) (rest : List PrinterPart) (t : Timer) (s : State) :
    (s.beginAction a rest t).essence = s.essence := by
  simp [State.beginAction]

@[simp] theorem State.beginStrike_essence (c : IChar) (rest : List PrinterPart) (s : State) :
    (s.beginStrike c rest).essence = s.essence := by
  simp [State.beginStrike]

@[simp] theorem State.beginFeed_essence (c : Option IChar) (rest : List PrinterPart) (s : State) :
    (s.beginFeed c rest).essence = s.essence := by
  simp [State.beginFeed]

@[simp] theorem State.beginStep_essence (w : Slew) (c : Option IChar) (rest : List PrinterPart) (s : State) :
    (s.beginStep w c rest).essence = s.essence := by
  simp [State.beginStep]

@[simp] theorem State.strikeLands_essence (s : State) : s.strikeLands.essence = s.essence := by
  unfold State.strikeLands; dsimp only; split <;> simp

@[simp] theorem State.countPunched_essence (s : State) : s.countPunched.essence = s.essence := by
  unfold State.countPunched
  dsimp only
  rw [State.latchIf_essence, State.modRecord_essence]
  · simp
  · exact fun _ => rfl

@[simp] theorem State.beginFrame_essence (f : OutFrame) (s : State) : (s.beginFrame f).essence = s.essence := by
  simp [State.beginFrame]

@[simp] theorem State.sendNotice_essence (n : Notice) (s : State) : (s.sendNotice n).essence = s.essence := by
  simp [State.sendNotice]

@[simp] theorem State.flushExpiry_essence (s : State) : s.flushExpiry.essence = s.essence := by
  unfold State.flushExpiry; split <;> simp

@[simp] theorem State.timersTick_essence (s : State) : s.timersTick.essence = s.essence := by
  unfold State.timersTick; simp

@[simp] theorem State.tick_essence (s : State) : s.tick.essence = s.essence := by
  unfold State.tick
  split
  · rfl
  · unfold State.hostRxTick State.receiveByte
    dsimp only
    (repeat' split) <;> simp

/-! ## What each operation does to the essence -/

/-- An essence leads to that of a state by moves. -/
def Leads (x : Essence) (t : State) : Prop := Relation.ReflTransGen Essence.Move x t.essence

theorem Leads.then {x : Essence} {s t : State} (h : Leads x s) (g : Reaches s t) : Leads x t :=
  Relation.ReflTransGen.trans h g

theorem Leads.move {x y : Essence} {t : State} (h : Essence.Move x y) (e : t.essence = y) : Leads x t := by
  unfold Leads; rw [e]; exact Relation.ReflTransGen.single h

theorem Leads.after {x y : Essence} {t : State} (h : Essence.Move x y) (g : Leads y t) : Leads x t :=
  Relation.ReflTransGen.head h g

theorem Leads.of_eq {x : Essence} {t : State} (e : t.essence = x) : Leads x t := by
  unfold Leads; rw [e]

/-- A fold of an operation that leads on leads on. -/
theorem foldl_reaches {α : Type} (f : State → α → State) (h : ∀ s a, Reaches s (f s a)) :
    ∀ (l : List α) (s : State), Reaches s (l.foldl f s)
  | [], s => Reaches.refl s
  | a :: l, s => (h s a).trans (foldl_reaches f h l (f s a))

/-- An operation that may not take place leads on when it does. -/
theorem getD_reaches (s : State) (o : Option State) (h : ∀ t, o = some t → Reaches s t) : Reaches s (o.getD s) := by
  cases o with
  | none => exact Reaches.refl s
  | some t => exact h t rfl

/-- An attached sink more, or none more (R87). -/
theorem Reaches.attached {s t : State} (e : t.essence = { s.essence with attached := t.attachedSet })
    (h : ∀ k, s.attached k = true → t.attached k = true) : Reaches s t :=
  Reaches.move (.attached s.essence t.attachedSet fun k hk => by
    rw [State.attachedSet_has]; exact h k (by rw [← State.attachedSet_has]; exact hk)) e

/-! ### The call -/

/-- A call with an open record changes its state, or a local clear begins or ends (R61, R181). -/
theorem Reaches.called {s t : State} (st : CallState) (lc : Bool)
    (e : t.essence = { s.essence with call := st, clearing := lc })
    (before : s.call.state ≠ .free ∨ s.call.localClear = true) (after : st ≠ .free)
    (clear : lc = true → st = .selecting ∨ st = .connected) : Reaches s t := by
  refine Reaches.move (.called s.essence st lc (fun ho => ?_) after fun _ => clear) e
  rcases before with hf | hc
  · exact hf
  · rcases ho hc with h | h <;> (rw [h]; decide)

/-- A call that is neither SELECTING nor CONNECTED has no local clear in progress, and keeps none (R61). -/
theorem Reaches.calledQuiet {s t : State} (st : CallState) (e : t.essence = { s.essence with call := st })
    (before : s.call.state ≠ .free) (hs : s.call.state ≠ .selecting) (hc : s.call.state ≠ .connected)
    (after : st ≠ .free) :
    Reaches s t := by
  refine Reaches.move (.called s.essence st s.call.localClear (fun _ => before) after fun ho hl => ?_) e
  rcases ho hl with h | h
  · exact absurd h hs
  · exact absurd h hc

theorem State.enterClearing_essence (s : State) :
    s.enterClearing.essence = { s.essence with call := .clearing, clearing := false } := by
  unfold State.enterClearing
  split
  · show { s.leaveConnected.essence with call := CallState.clearing, clearing := false } = _
    rw [State.leaveConnected_essence]
  · rfl

theorem State.enterClearing_reaches (s : State) (h : s.call.state ≠ .free ∨ s.call.localClear = true) :
    Reaches s s.enterClearing :=
  Reaches.called .clearing false s.enterClearing_essence h (by decide) fun h => nomatch h

/-- Of a local clear that begins, the essence shows the flag, or the entry to CLEARING (R61). -/
theorem State.beginLocalClear_reaches (o : CallOutcome) (s : State) : Reaches s (s.beginLocalClear o) := by
  unfold State.beginLocalClear
  split
  · exact Reaches.refl s
  · rename_i hs
    have hc : s.call.state = .connected := by simp at hs; exact hs.1
    let t := ((s.setOutcome o).latchIf (o == .recorderLost) Cond.recorderLost).emptyQueues
    have ht : t.essence = s.essence := by simp [t]
    let u := t.modCall fun c => { c with localClear := true, idleClear := none, identity := none }
    have hu : u.essence = { s.essence with clearing := true } := by
      rw [← ht]; rfl
    have hsu : Reaches s u :=
      Reaches.called .connected true (by rw [hu, ← hc]; rfl) (Or.inl (by simp [hc])) (by decide) fun _ => Or.inr rfl
    dsimp only
    split
    · exact hsu
    · exact hsu.trans (State.enterClearing_reaches u (Or.inr rfl))

theorem State.beginSelectionClear_reaches (s : State) (h : s.call.state = .selecting) :
    Reaches s s.beginSelectionClear := by
  unfold State.beginSelectionClear
  split
  · exact Reaches.refl s
  · let t := s.setOutcome .localClear
    have ht : t.essence = s.essence := State.setOutcome_essence _ s
    let u := (t.modCall fun c => { c with localClear := true }).modTx fun t => { t with selection := [] }
    have hu : u.essence = { s.essence with clearing := true } := by
      rw [← ht]; rfl
    have hsu : Reaches s u :=
      Reaches.called .selecting true (by rw [hu, ← h]; rfl) (Or.inl (by simp [h])) (by decide) fun _ => Or.inl rfl
    dsimp only
    split
    · exact hsu
    · exact hsu.trans (State.enterClearing_reaches u (Or.inr rfl))

theorem State.recorderTest_reaches (s : State) : Reaches s s.recorderTest := by
  unfold State.recorderTest
  split
  · exact s.beginLocalClear_reaches _
  · exact Reaches.refl s

theorem State.enterConnected_reaches (s : State) (h : s.call.state ≠ .free) : Reaches s s.enterConnected := by
  unfold State.enterConnected
  dsimp only
  refine Reaches.trans ?_ (State.recorderTest_reaches _)
  refine Reaches.called .connected s.call.localClear ?_ (Or.inl h) (by decide) fun _ => Or.inr rfl
  rw [State.beginIdentity_essence, State.note_essence]
  split <;> rfl

/-- The entry to ANSWERING, from an essence that may move there, and on to CONNECTED (R52). -/
theorem State.enterAnswering_leads (x : Essence) (s : State)
    (h : Essence.Move x { s.essence with call := .answering }) :
    Leads x s.enterAnswering := by
  unfold State.enterAnswering
  dsimp only
  have hl : Leads x (s.startCause.modCall fun c =>
      { c with state := .answering, answerDelay := none, connect := startSec (s.cfg .connectTimeout) }) := by
    refine Leads.move h ?_
    show { s.startCause.essence with call := CallState.answering } = _
    rw [State.startCause_essence]
  split
  · exact hl.then (State.enterConnected_reaches _ (by simp))
  · exact hl

theorem State.acceptanceTest_leads (x : Essence) (s : State) (ha : Essence.Move x { s.essence with call := .answering })
    (hr : Essence.Move x { s.essence with call := .refused }) : Leads x s.acceptanceTest := by
  have hl (b : Bool) (k : Nat) : (s.latchIf b k).essence = s.essence := State.latchIf_essence b k s
  unfold State.acceptanceTest
  dsimp only
  split
  · exact State.enterAnswering_leads x _ (by rw [hl]; exact ha)
  · refine Leads.move hr ?_
    show { (State.latchIf _ _ s).essence with call := CallState.refused } = _
    rw [hl]

/-- An offer from FREE, or from CALLING at a collision, with a record of its own (R45 to R48, R55). -/
theorem State.offer_leads (x : Essence) (s : State) (h : s.essence = { x with counts := s.essence.counts })
    (hs : x.call ≠ .selecting) (hc : x.call ≠ .connected) : Leads x s.offer := by
  have opened (st : CallState) (hf : st ≠ .free) :
      Essence.Move x { (s.createRecord .incoming []).essence with call := st } := by
    have he : { (s.createRecord .incoming []).essence with call := st }
        = { x with counts := some (0, 0, 0, 0), call := st, clearing := x.clearing } := by
      have h1 : (s.createRecord .incoming []).essence = { s.essence with counts := some (0, 0, 0, 0) } := rfl
      rw [h1, h]
    rw [he]
    refine .opened x st x.clearing hf fun ho hl => ?_
    rcases ho hl with h | h
    · exact absurd h hs
    · exact absurd h hc
  unfold State.offer
  dsimp only
  split
  · exact Leads.move (opened .refused (by decide)) rfl
  · refine Leads.move (opened .offered (by decide)) ?_
    rw [State.note_essence]
    rfl
  · exact State.acceptanceTest_leads x _ (opened _ (by decide)) (opened _ (by decide))

theorem State.closeRecord_essence (s : State) : s.closeRecord.essence = { s.essence with counts := none } := by
  unfold State.closeRecord
  split
  · rename_i h
    simp [State.essence, h]
  · rw [State.noteMaybe_essence]
    rfl

/-- The return to FREE closes the record; the offer of a CALL_IN that stands opens another (R65, R184). -/
theorem State.returnToFree_reaches (s : State) : Reaches s s.returnToFree := by
  let t := ((s.closeRecord.modStore fun t => { t with gap := 0 }).clearProgress).modCall fun c => c.quiet .free
  have ht : t.essence = { s.essence with counts := none, call := .free, clearing := false } := by
    have h1 : t.essence = { s.closeRecord.essence with call := .free, clearing := false } := rfl
    rw [h1, State.closeRecord_essence]
  have hst : Reaches s t := Reaches.move (.closed s.essence) ht
  unfold State.returnToFree
  dsimp only
  split
  · refine hst.trans (State.offer_leads t.essence t rfl ?_ ?_) <;> (rw [ht]; simp)
  · exact hst

theorem State.endUnanswered_reaches (o : CallOutcome) (s : State) : Reaches s (s.endUnanswered o) :=
  (Reaches.of_eq (State.setOutcome_essence o s)).trans (State.returnToFree_reaches _)

theorem State.collide_reaches (s : State) (h : s.call.state = .calling) : Reaches s s.collide := by
  unfold State.collide
  refine State.offer_leads s.essence _ ?_ (by show s.call.state ≠ _; simp [h]) (by show s.call.state ≠ _; simp [h])
  rw [State.closeRecord_essence, State.setOutcome_essence]
  rfl

theorem State.clearRequest_reaches (s t : State) (e : s.clearRequest = some t) : Reaches s t := by
  unfold State.clearRequest at e
  split at e
  case h_1 | h_2 | h_3 => cases e
  case h_4 h =>
    cases e
    exact Reaches.calledQuiet .refused rfl (by simp [h]) (by simp [h]) (by simp [h]) (by decide)
  case h_5 h | h_6 h =>
    cases e
    exact (Reaches.of_eq (State.setOutcome_essence _ s)).trans
      (State.enterClearing_reaches _ (Or.inl (by show s.call.state ≠ _; simp [h])))
  case h_7 h => cases e; exact s.beginSelectionClear_reaches h
  case h_8 h => cases e; exact s.beginLocalClear_reaches _

theorem State.answerRequest_reaches (s t : State) (e : s.answerRequest = some t) : Reaches s t := by
  unfold State.answerRequest at e
  split at e
  · rename_i h
    cases e
    refine State.enterAnswering_leads s.essence s
      (.called s.essence .answering s.call.localClear (fun _ => ?_) (by decide) fun ho hl => ?_)
    · show s.call.state ≠ _; simp [h]
    · rcases ho hl with h' | h' <;> exact absurd (h.symm.trans h') (by decide)
  · cases e

theorem State.breakRequest_reaches (s t : State) (e : s.breakRequest = some t) : Reaches s t := by
  unfold State.breakRequest at e
  split at e
  · cases e; exact Reaches.of_eq rfl
  · cases e

theorem State.changeMode_reaches (new : Mode) (byWatchdog : Bool) (s : State) :
    Reaches s (s.changeMode new byWatchdog) := by
  unfold State.changeMode
  dsimp only
  split
  · exact Reaches.refl s
  · split
    · exact Reaches.of_eq (by simp)
    · split
      · rename_i h
        have h : s.call.state = .offered := h
        refine State.acceptanceTest_leads s.essence _ ?_ ?_
        all_goals
          refine .called s.essence _ s.call.localClear (fun _ => ?_) (by decide) fun ho hl => ?_
          · show s.call.state ≠ _; simp [h]
          · rcases ho hl with h' | h' <;> exact absurd (h.symm.trans h') (by decide)
      · exact Reaches.trans (Reaches.of_eq (by simp)) (State.recorderTest_reaches _)
      · exact Reaches.of_eq (by simp)

/-! ### The traffic store -/

theorem Essence.trimmed_of_none (x : Essence) (h : emptyHeads x.entries = 0) : x.trimmed = x := by
  simp [Essence.trimmed, h, Cursors.back]

theorem State.trim_essence (s : State) : s.trim.essence = s.essence.trimmed := by
  unfold State.trim
  dsimp only
  split
  · rename_i h
    exact (Essence.trimmed_of_none s.essence h).symm
  · rfl

theorem State.consume_reaches (k : Sink) (n : Nat) (s : State) : Reaches s (s.consume k n) :=
  Reaches.move (.consumed s.essence k n) (State.trim_essence _)

/-- A detachment, from the essence before the sink's state changed (R89). -/
theorem State.detach_leads (x : Essence) (k : Sink) (t : State) (h : t.essence = { x with attached := t.attachedSet })
    (others : ∀ j, j ≠ k → t.attached j = x.attached.has j) : Leads x (t.detach k) := by
  unfold State.detach
  refine Leads.then (Leads.move (.released x k t.attachedSet fun j hj => ?_) ?_) (State.recorderTest_reaches _)
  · rw [State.attachedSet_has]; exact others j hj
  · rw [State.trim_essence]
    show ({ t.essence with
      entries := t.essence.entries.map fun e => { e with pending := e.pending.without k }
      cursors := t.essence.cursors.set k t.essence.entries.length } : Essence).trimmed = _
    rw [h]
    rfl

theorem State.modPrinter_attached (f : Printer → Printer) (s : State) (j : Sink) (h : j ≠ .print) :
    (s.modPrinter f).attached j = s.attachedSet.has j := by
  cases j with
  | print => exact absurd rfl h
  | punch => rfl
  | capture => rfl

theorem State.modPunch_attached (f : Punch → Punch) (s : State) (j : Sink) (h : j ≠ .punch) :
    (s.modPunch f).attached j = s.attachedSet.has j := by
  cases j with
  | print => rfl
  | punch => exact absurd rfl h
  | capture => rfl

theorem State.modCapture_attached (f : CaptureChannel → CaptureChannel) (s : State) (j : Sink) (h : j ≠ .capture) :
    (s.modCapture f).attached j = s.attachedSet.has j := by
  cases j with
  | print => rfl
  | punch => rfl
  | capture => exact absurd rfl h

/-- The printer's state changes, and it is detached (R89). -/
theorem State.printerDetach_reaches (f : Printer → Printer) (s : State) :
    Reaches s ((s.modPrinter f).detach .print) :=
  State.detach_leads s.essence .print _ rfl (State.modPrinter_attached f s)

theorem State.punchDetach_reaches (f : Punch → Punch) (s : State) : Reaches s ((s.modPunch f).detach .punch) :=
  State.detach_leads s.essence .punch _ rfl (State.modPunch_attached f s)

theorem State.captureDetach_reaches (f : CaptureChannel → CaptureChannel) (s : State) :
    Reaches s ((s.modCapture f).detach .capture) :=
  State.detach_leads s.essence .capture _ rfl (State.modCapture_attached f s)

/-- A sink that was apart comes back at the end of the store (R88). -/
theorem Reaches.back {s t : State} (k : Sink) (e : t.essence = { s.essence.atEnd k with attached := t.attachedSet })
    (apart : s.attached k = false) (others : ∀ j, j ≠ k → t.attached j = s.attachedSet.has j) : Reaches s t := by
  refine Leads.after (.atEnd s.essence k ((State.attachedSet_has s k).trans apart)) ?_
  refine Leads.move (.attached (s.essence.atEnd k) t.attachedSet fun j hj => ?_) e
  have hj : s.attachedSet.has j = true := hj
  have hk : j ≠ k := by
    intro h
    subst h
    exact Bool.false_ne_true (apart.symm.trans ((State.attachedSet_has s j).symm.trans hj))
  rw [State.attachedSet_has, others j hk]
  exact hj

theorem State.endCapture_reaches (why : EndReason) (s : State) : Reaches s (s.endCapture why) := by
  unfold State.endCapture
  split
  · exact Reaches.refl s
  · exact (State.captureDetach_reaches _ s).trans (Reaches.of_eq (State.note_essence _ _))

theorem State.gather_reaches (s : State) : Reaches s s.gather := by
  unfold State.gather
  dsimp only
  split
  · exact Reaches.refl s
  · refine Reaches.trans ?_ (Reaches.of_eq (State.modCapture_essence _ _ fun _ => rfl))
    split
    · exact Reaches.move (.advanced s.essence .capture) rfl
    · exact Reaches.refl s

/-- An append, from an essence that may take the entry (R77). -/
theorem State.append_leads (x : Essence) (e : Entry) (s : State)
    (h : ∀ f : Entry, f.pending = e.pending →
      Leads x ((s.countStored e.source).modStore fun t => { t with entries := t.entries ++ [f] })) :
    Leads x (s.append e) := by
  unfold State.append
  dsimp only
  refine Leads.then (s := (s.modStore fun t =>
    { t with entries := t.entries ++ [{ e with gapBefore := t.gap != 0 }], gap := 0 }).countStored e.source)
    (h { e with gapBefore := s.store.gap != 0 } rfl) (Reaches.trans ?_ (State.gather_reaches _))
  refine Reaches.of_eq ?_
  rw [State.storeNotice_essence]
  split
  · exact State.startCause_essence _
  · rfl

/-- A sink of a new entry is attached (R76). -/
theorem State.sinkSet_attached (src : Source) (s : State) (k : Sink) (h : (s.sinkSet src).has k = true) :
    s.attachedSet.has k = true := by
  rw [State.attachedSet_has]
  cases k <;> (simp only [State.sinkSet, SinkSet.has, Bool.and_eq_true] at h; exact h.2)

/-- An entry of the station's own characters is stored (R37, R85). -/
theorem State.append_reaches (e : Entry) (s : State) (src : Source) (hl : src ≠ .line) (hsrc : e.source = src)
    (hp : e.pending = s.sinkSet src) (hn : (s.sinkSet src).isEmpty = false) : Reaches s (s.append e) := by
  subst hsrc
  refine State.append_leads s.essence e s fun f hf => ?_
  have he : ((s.countStored e.source).modStore fun t => { t with entries := t.entries ++ [f] }).essence
      = { (s.countStored e.source).essence with entries := (s.countStored e.source).essence.entries ++ [f] } := rfl
  rw [State.countStored_essence _ s hl] at he
  refine Leads.move (.stored s.essence f (by rw [hf, hp, hn]) fun k hk => ?_) he
  refine State.sinkSet_attached e.source s k ?_
  rw [← hp, ← hf]
  exact hk

theorem State.countUnrouted_reaches (src : Source) (s : State) (hl : src ≠ .line) : Reaches s (s.countUnrouted src) :=
  Reaches.of_eq (State.countUnrouted_essence src s hl)

/-! ### The line's counts -/

/-- What a change of the open record does to the line's counts. -/
theorem State.modRecord_counts (f : CallRecord → CallRecord) (g : Nat × Nat × Nat × Nat → Nat × Nat × Nat × Nat)
    (s : State) (h : ∀ r, (f r).lineCounts = g r.lineCounts) :
    (s.modRecord f).essence = { s.essence with counts := s.essence.counts.map g } := by
  simp only [State.essence, State.attachedSet, State.attached, State.modRecord, State.modStation, Option.map_map]
  congr 2
  exact funext h

theorem State.countStored_line_essence (s : State) :
    (s.countStored .line).essence
      = { s.essence with counts := s.essence.counts.map fun c => (c.1, bump c.2.1, c.2.2.1, c.2.2.2) } :=
  State.modRecord_counts _ _ s fun _ => rfl

theorem State.countUnrouted_line_essence (s : State) :
    (s.countUnrouted .line).essence
      = { s.essence with counts := s.essence.counts.map fun c => (c.1, c.2.1, bump c.2.2.1, c.2.2.2) } :=
  State.modRecord_counts _ _ s fun _ => rfl

/-- A character of the line that the record has counted as received is stored, unrouted or lost (R77, R80). -/
theorem State.routeLine_leads (x : Essence) (code : Code) (sh : Shift) (e : TransEntry) (m : Bool) (s : State)
    (h : s.essence = { x with counts := x.counts.map fun c => (bump c.1, c.2) }) :
    Leads x (s.routeLine code sh e m) := by
  unfold State.routeLine
  dsimp only
  split
  · refine Leads.move (.arrived x (fun c => (bump c.1, c.2.1, bump c.2.2.1, c.2.2.2)) fun c => Or.inr (Or.inl rfl)) ?_
    rw [State.countUnrouted_line_essence, h]
    simp [Option.map_map, Function.comp_def]
  · rename_i hset
    split
    · refine Leads.move (.arrived x (fun c => (bump c.1, c.2.1, c.2.2.1, bump c.2.2.2)) fun c => Or.inr (Or.inr rfl)) ?_
      rw [State.latch_essence, State.modRecord_counts _ (fun c => (c.1, c.2.1, c.2.2.1, bump c.2.2.2)) _ fun _ => rfl]
      have hg : (s.modStore fun t => { t with gap := bump t.gap }).essence = s.essence := rfl
      rw [hg, h]
      simp [Option.map_map, Function.comp_def]
    · refine State.append_leads x _ s fun f hf => ?_
      have he : ((s.countStored .line).modStore fun t => { t with entries := t.entries ++ [f] }).essence
          = { (s.countStored .line).essence with entries := (s.countStored .line).essence.entries ++ [f] } := rfl
      have ha : x.attached = s.attachedSet := by
        have := congrArg Essence.attached h
        exact this.symm
      refine Leads.after
        (.arrived x (fun c => (bump c.1, bump c.2.1, c.2.2.1, c.2.2.2)) fun c => Or.inl rfl)
        (Leads.move (.stored _ f ?_ fun k hk => ?_) (he.trans ?_))
      · rw [hf]
        simpa [newEntry] using hset
      · show x.attached.has k = true
        rw [ha]
        refine State.sinkSet_attached .line s k ?_
        simpa [Entry.holds, hf, newEntry] using hk
      · rw [State.countStored_line_essence, h]
        simp [Option.map_map, Function.comp_def]

theorem State.actOn_reaches (a : SeqAction) (s : State) : Reaches s (s.actOn a) := by
  cases a with
  | endOfMessage => exact Reaches.of_eq (State.modRecord_essence _ s fun _ => rfl)
  | clear =>
    show Reaches s (if s.station.mode = .unattended then s.beginLocalClear .sequenceClear else s)
    split
    · exact s.beginLocalClear_reaches _
    · exact Reaches.refl s
  | _ => exact Reaches.of_eq rfl

theorem State.complete1_reaches (s : State) (x : Nat × SeqEntry) : Reaches s (s.complete1 x) := by
  unfold State.complete1
  dsimp only
  split
  · exact (State.actOn_reaches _ s).trans (Reaches.of_eq (State.note_essence _ _))
  · exact State.actOn_reaches _ s

/-- A delivered character up to its routing: count, shift, calibrator and matcher (R5 to R7, R21). -/
def State.beforeRouting (code : Code) (good : Bool) (ds : List Int) (s : State) : State :=
  let connected := s.call.state == .connected
  let e := s.entryAt s.rx.shift code
  let s := s.receiverHunt.modRecord fun r => { r with received := bump r.received }
  let after := s.receiveShiftAfter e
  let s := if good then s.modRx fun r => { r with shift := after } else s
  let s := if good && connected then s.calibrate ds else s
  if connected then s.matchProgress good e else s

/-- A delivered character after its routing: idle-clear timer, window and identity request (R21). -/
def State.afterRouting (connected good : Bool) (e : TransEntry) (s : State) : State :=
  let s := s.restartIdle
  let s := if connected then s.captureIdentity good e else s
  if good && connected && e.cls == .ident then s.answerbackRequest else s

/-- The sequence entries that a delivered character completes: their actions come last (R100). -/
def State.completed (code : Code) (good : Bool) (s : State) : List (Nat × SeqEntry) :=
  if good && s.call.state == .connected then s.completions (s.entryAt s.rx.shift code) else []

/-- What the calibrator touches: itself, the fault store, a notice and the flags of the record (R26 to R29). -/
def State.measuredFrom (s t : State) : State :=
  { s with
    cal := t.cal, cond := t.cond, link := { s.link with notices := t.link.notices }
    station := { s.station with record := t.station.record } }

theorem State.windowError_frame (s : State) : s.windowError = s.measuredFrom s.windowError := by
  unfold State.windowError
  rw [State.latch_frame]
  rfl

theorem State.windowGood_frame (candidate bias : Int) (s : State) :
    s.windowGood candidate bias = s.measuredFrom (s.windowGood candidate bias) := by
  unfold State.windowGood
  dsimp only
  (repeat' split) <;> rfl

theorem State.windowEnd_frame (s : State) : s.windowEnd = s.measuredFrom s.windowEnd := by
  unfold State.windowEnd
  dsimp only
  split
  · rfl
  · split
    · rw [State.windowError_frame]; rfl
    · rw [State.windowGood_frame]; rfl

theorem State.calibrate_frame (ds : List Int) (s : State) : s.calibrate ds = s.measuredFrom (s.calibrate ds) := by
  unfold State.calibrate
  dsimp only
  split
  · split
    · rw [State.windowEnd_frame]; rfl
    · rfl
  · rfl

theorem State.calibrate_completions (ds : List Int) (s : State) (e : TransEntry) :
    (s.calibrate ds).completions e = s.completions e := by
  rw [State.calibrate_frame]; rfl

/-- A delivered character in its stages. -/
theorem State.deliver_eq (code : Code) (good : Bool) (ds : List Int) (s : State) :
    s.deliver code good ds =
      (s.completed code good).foldl State.complete1
        (((s.beforeRouting code good ds).routeLine code s.rx.shift (s.entryAt s.rx.shift code) (!good)).afterRouting
          (s.call.state == .connected) good (s.entryAt s.rx.shift code)) := by
  have hd (t : State) (h : t.completions (s.entryAt s.rx.shift code) = s.completions (s.entryAt s.rx.shift code)) :
      (if good && s.call.state == .connected then
          (if good && s.call.state == .connected then t.calibrate ds else t).completions (s.entryAt s.rx.shift code)
        else []) = s.completed code good := by
    unfold State.completed
    split
    · rw [State.calibrate_completions, h]
    · rfl
  unfold State.deliver
  dsimp only
  rw [hd _ (by split <;> rfl)]
  rfl

theorem State.beforeRouting_essence (code : Code) (good : Bool) (ds : List Int) (s : State) :
    (s.beforeRouting code good ds).essence
      = { s.essence with counts := s.essence.counts.map fun c => (bump c.1, c.2) } := by
  have hr : (s.receiverHunt.modRecord fun r => { r with received := bump r.received }).essence
      = { s.essence with counts := s.essence.counts.map fun c => (bump c.1, c.2) } :=
    State.modRecord_counts _ _ s.receiverHunt fun _ => rfl
  unfold State.beforeRouting
  dsimp only
  (repeat' split) <;> simpa using hr

theorem State.afterRouting_essence (connected good : Bool) (e : TransEntry) (s : State) :
    (s.afterRouting connected good e).essence = s.essence := by
  unfold State.afterRouting
  dsimp only
  (repeat' split) <;> simp

theorem State.deliver_reaches (code : Code) (good : Bool) (ds : List Int) (s : State) :
    Reaches s (s.deliver code good ds) := by
  rw [State.deliver_eq]
  refine Reaches.trans ?_ (foldl_reaches State.complete1 State.complete1_reaches _ _)
  exact Leads.then (State.routeLine_leads s.essence _ _ _ _ _ (s.beforeRouting_essence code good ds))
    (Reaches.of_eq (State.afterRouting_essence _ _ _ _))

theorem State.characterDelivered_reaches (line : List Level) (s : State) :
    Reaches s (s.characterDelivered line) := by
  unfold State.characterDelivered
  split
  · split
    · exact State.deliver_reaches _ _ _ s
    · exact Reaches.refl s
  · exact State.deliver_reaches _ _ _ s
  · exact Reaches.refl s

theorem State.lineReturnToMark_reaches (s : State) : Reaches s s.lineReturnToMark := by
  unfold State.lineReturnToMark
  dsimp only
  split
  case h_3 => exact Reaches.trans (Reaches.of_eq (State.modPins_essence _ s)) (State.deliver_reaches _ _ _ _)
  all_goals exact Reaches.of_eq rfl

theorem State.startEdge_essence (s : State) : s.startEdge.essence = s.essence := by
  unfold State.startEdge; dsimp only; split <;> rfl

theorem State.stopSampleAtSpace_essence (line : List Level) (s : State) :
    (s.stopSampleAtSpace line).essence = s.essence := by
  unfold State.stopSampleAtSpace
  split
  · dsimp only; split <;> simp
  · rfl

theorem State.holdoffExpiry_essence (s : State) : s.holdoffExpiry.essence = s.essence := by
  unfold State.holdoffExpiry; split <;> rfl

/-! ### The transmitter and the local path -/

theorem State.reserve_essence {u : TxUnit} {s t : State} (h : s.reserve u = some t) : t.essence = s.essence := by
  unfold State.reserve at h
  split at h
  · cases h; rfl
  · split at h
    · cases h; rfl
    · split at h
      · cases h
      · cases h; rfl

theorem State.takeUnit_essence {codes : List Code} {u : TxUnit} {s t : State} (h : s.takeUnit codes u = some t) :
    t.essence = s.essence := by
  cases codes with
  | nil => cases h
  | cons c cs =>
    obtain ⟨v, hv, rfl⟩ := Option.map_eq_some_iff.1 h
    exact (State.beginCode_essence _ _ _ v).trans (State.reserve_essence hv)

/-- A take of a unit, then the unit's removal from its source. -/
theorem State.takeUnit_map_essence {codes : List Code} {u : TxUnit} {f : State → State} {s t : State}
    (h : (s.takeUnit codes u).map f = some t) (hf : ∀ v : State, (f v).essence = v.essence) :
    t.essence = s.essence := by
  obtain ⟨v, hv, rfl⟩ := Option.map_eq_some_iff.1 h
  exact (hf v).trans (State.takeUnit_essence hv)

theorem State.takeIdent_essence {r : IdentRequest} {s t : State} (h : s.takeIdent r = some t) :
    t.essence = s.essence := by
  unfold State.takeIdent at h
  dsimp only at h
  split at h
  · cases h; rfl
  · exact State.takeUnit_map_essence h fun _ => rfl

theorem State.arbiter_essence {s t : State} (h : s.arbiter = some t) : t.essence = s.essence := by
  unfold State.arbiter at h
  dsimp only at h
  split at h
  · cases h; rfl
  · split at h
    · exact State.takeUnit_map_essence h fun _ => rfl
    · exact State.takeIdent_essence h
    · split at h
      · split at h
        · cases h
        · exact State.takeUnit_map_essence h fun _ => rfl
      · split at h
        · exact State.takeUnit_map_essence h fun _ => rfl
        · split at h
          · exact State.takeUnit_map_essence h fun _ => rfl
          · cases h

theorem State.txTake_essence {s t : State} (h : s.txTake = some t) : t.essence = s.essence := by
  unfold State.txTake at h
  split at h
  · split at h
    · exact State.arbiter_essence h
    · cases h
  · obtain ⟨v, hv, rfl⟩ := Option.map_eq_some_iff.1 h
    exact (State.goOn_essence _ _ _ v).trans (State.reserve_essence hv)
  · split at h
    · cases h; rfl
    · cases h
  · cases h

/-- A copy is made of the station's own characters alone (R37). -/
theorem TxUnit.source_ne_line {u : TxUnit} {src : Source} (h : u.source = some src) : src ≠ .line := by
  cases u <;> cases h
  all_goals decide

theorem State.makeCopy_reaches (code : Code) (sh : Shift) (u : TxUnit) (s : State) :
    Reaches s (s.makeCopy code sh u) := by
  unfold State.makeCopy
  split
  · exact Reaches.refl s
  · rename_i src hsrc
    have hl : src ≠ .line := TxUnit.source_ne_line hsrc
    have hr : Reaches s (s.modTx fun t => { t with reservation := false }) := Reaches.of_eq rfl
    dsimp only
    split
    · exact hr.trans (State.countUnrouted_reaches src _ hl)
    · rename_i hset
      split
      · exact hr.trans (State.append_reaches _ _ src hl rfl rfl (Bool.eq_false_of_not_eq_true hset))
      · exact hr.trans (State.countUnrouted_reaches src _ hl)

theorem State.unitDone_reaches (u : TxUnit) (s : State) : Reaches s (s.unitDone u) := by
  unfold State.unitDone
  split
  · exact Reaches.of_eq (State.countSend_essence s)
  · exact Reaches.refl s
  · exact Reaches.refl s
  · exact Reaches.of_eq (State.endRun_essence s)
  · split
    · exact Reaches.of_eq (State.openWindow_essence s)
    · exact Reaches.refl s
  · split
    · exact Reaches.of_eq (State.openWindow_essence s)
    · exact Reaches.refl s
  · split
    · rename_i h
      exact s.enterConnected_reaches (by rw [h.1]; decide)
    · exact Reaches.refl s

theorem State.beginSecond_essence (code : Code) (u : TxUnit) (s : State) :
    (s.beginSecond code u).essence = s.essence := by
  unfold State.beginSecond
  split
  · rfl
  · split
    · rename_i t ht
      exact (State.goOn_essence _ _ _ t).trans (State.reserve_essence ht)
    · rfl

theorem State.settleClear_reaches (s : State) : Reaches s s.settleClear := by
  unfold State.settleClear
  split
  · rename_i h
    simp only [Bool.and_eq_true] at h
    exact s.enterClearing_reaches (Or.inr h.1)
  · exact Reaches.refl s

theorem State.codeCompletion_reaches (s : State) : Reaches s s.codeCompletion := by
  unfold State.codeCompletion
  split
  · rename_i code u f el st _
    dsimp only
    refine Reaches.trans ?_ (State.settleClear_reaches _)
    have hc : Reaches s ((if u = .selection then
          (s.modTx fun t => { t with phase := .free, timer := none }).moveSendShift code
        else
          ((s.modTx fun t => { t with phase := .free, timer := none }).moveSendShift code).modRecord fun r =>
            { r with sent := bump r.sent }).makeCopy code s.tx.shift u) := by
      refine Reaches.trans (Reaches.of_eq ?_) (State.makeCopy_reaches _ _ _ _)
      split
      · simp
      · rw [State.modRecord_essence]
        · simp
        · exact fun _ => rfl
    have hd {v : State} (h : Reaches s v) : Reaches s (if f = .last then v.unitDone u else v).restartIdle := by
      refine Reaches.trans h (Reaches.trans ?_ (Reaches.of_eq (State.restartIdle_essence _)))
      split
      · exact v.unitDone_reaches u
      · exact Reaches.refl v
    split
    · exact (hd hc).trans (Reaches.of_eq (State.beginSecond_essence _ _ _))
    · exact hd hc
    · exact hd hc
  · exact Reaches.refl s

theorem State.placeLocal_reaches (src : Source) (x : Code × TransEntry) (s : State) (hl : src ≠ .line) :
    Reaches s (s.placeLocal src x) := by
  unfold State.placeLocal
  dsimp only
  refine Reaches.trans ?_ (Reaches.of_eq (State.moveSendShift_essence _ _))
  split
  · exact State.countUnrouted_reaches src s hl
  · rename_i hset
    exact State.append_reaches _ s src hl rfl rfl (Bool.eq_false_of_not_eq_true hset)

theorem State.placeAll_reaches {src : Source} {xs : List (Code × TransEntry)} {s t : State} (hl : src ≠ .line)
    (h : s.placeAll src xs = some t) : Reaches s t := by
  unfold State.placeAll at h
  split at h
  · cases h
    exact foldl_reaches _ (fun v x => v.placeLocal_reaches src x hl) xs s
  · cases h

theorem State.localTake_reaches {q : TextQueue} {s t : State} (h : s.localTake q = some t) : Reaches s t := by
  cases q with
  | keyboard =>
    simp only [State.localTake] at h
    split at h
    · split at h
      · obtain ⟨v, hv, rfl⟩ := Option.map_eq_some_iff.1 h
        exact (State.placeAll_reaches (by decide) hv).trans (Reaches.of_eq rfl)
      · cases h
    · cases h
  | send =>
    simp only [State.localTake] at h
    split at h
    · split at h
      · obtain ⟨v, hv, rfl⟩ := Option.map_eq_some_iff.1 h
        exact (Reaches.of_eq rfl : Reaches s _).trans
          ((State.placeAll_reaches (by decide) hv).trans (Reaches.of_eq (State.countSend_essence v)))
      · cases h
    · cases h

/-! ### The line control signals and the call timers -/

theorem State.callInAsserted_reaches (s : State) : Reaches s s.callInAsserted := by
  unfold State.callInAsserted
  split
  · exact Reaches.refl s
  · dsimp only
    split
    · rename_i h
      refine State.offer_leads s.essence _ rfl ?_ ?_ <;>
        (show s.call.state ≠ _; rw [show s.call.state = _ from h]; decide)
    · rename_i h
      exact (Reaches.of_eq rfl : Reaches s (s.modPins fun p => { p with callIn := true })).trans
        (State.collide_reaches _ h)
    · exact Reaches.of_eq rfl

theorem State.callInDeasserted_reaches (s : State) : Reaches s s.callInDeasserted := by
  have hp : Reaches s (s.modPins fun p => { p with callIn := false }) := Reaches.of_eq rfl
  unfold State.callInDeasserted
  split
  · exact Reaches.refl s
  · dsimp only
    split
    · exact hp.trans (State.endUnanswered_reaches _ _)
    · exact hp.trans (State.endUnanswered_reaches _ _)
    · exact hp

theorem State.loopOkAsserted_reaches (s : State) : Reaches s s.loopOkAsserted := by
  have hp : Reaches s ((s.modPins fun p => { p with loopOk := true }).modCall fun c => { c with loss := none }) :=
    Reaches.of_eq rfl
  unfold State.loopOkAsserted
  split
  · exact Reaches.refl s
  · dsimp only
    split
    · rename_i h
      exact hp.trans (State.enterConnected_reaches _ (by rw [h]; decide))
    · rename_i h
      have h : s.call.state = .calling := h
      exact Reaches.calledQuiet .selecting rfl (by simp [h]) (by simp [h]) (by simp [h]) (by decide)
    · exact hp

theorem State.loopOkDeasserted_essence (s : State) : s.loopOkDeasserted.essence = s.essence := by
  unfold State.loopOkDeasserted
  dsimp only
  (repeat' split) <;> rfl

/-- The outcome is set, and the call enters CLEARING (R64). -/
theorem State.setOutcome_enterClearing_reaches (o : CallOutcome) (s : State) (h : s.call.state ≠ .free) :
    Reaches s (s.setOutcome o).enterClearing :=
  (Reaches.of_eq (State.setOutcome_essence o s)).trans (State.enterClearing_reaches _ (Or.inl h))

theorem State.lossExpiry_reaches (s : State) : Reaches s s.lossExpiry := by
  have hp : Reaches s (s.modCall fun c => { c with loss := none }) := Reaches.of_eq rfl
  unfold State.lossExpiry
  split
  · exact Reaches.refl s
  · dsimp only
    split
    · rename_i h
      exact hp.trans (State.setOutcome_enterClearing_reaches _ _ (by rw [h]; decide))
    · rename_i h
      refine hp.trans (Reaches.trans (Reaches.of_eq ?_) (State.enterClearing_reaches _ (Or.inl ?_)))
      · simp
      · have he : ((((s.modCall fun c => { c with loss := none }).setOutcome .remoteClear).latch
            Cond.lineLost).emptyQueues).essence = (s.modCall fun c => { c with loss := none }).essence := by simp
        have hc := congrArg Essence.call he
        exact fun hf => absurd (h.symm.trans (hc.symm.trans hf)) (by decide)
    · exact hp

theorem State.answerDelayExpiry_reaches (s : State) : Reaches s s.answerDelayExpiry := by
  unfold State.answerDelayExpiry
  split
  · exact Reaches.refl s
  · exact (Reaches.of_eq rfl : Reaches s (s.modCall fun c => { c with answerDelay := none })).trans
      (getD_reaches _ _ (State.answerRequest_reaches _))

theorem State.connectExpiry_reaches (s : State) : Reaches s s.connectExpiry := by
  have hp : Reaches s (s.modCall fun c => { c with connect := none }) := Reaches.of_eq rfl
  unfold State.connectExpiry
  split
  · exact Reaches.refl s
  · dsimp only
    split
    · rename_i h
      exact hp.trans (State.setOutcome_enterClearing_reaches _ _ (by rw [h]; decide))
    · exact hp

theorem State.proceedExpiry_reaches (s : State) : Reaches s s.proceedExpiry := by
  have hp : Reaches s (s.modCall fun c => { c with proceed := none }) := Reaches.of_eq rfl
  unfold State.proceedExpiry
  split
  · exact Reaches.refl s
  · dsimp only
    split
    · rename_i h
      exact hp.trans (State.setOutcome_enterClearing_reaches _ _ (by rw [h]; decide))
    · exact hp

theorem State.identityExpiry_essence (s : State) : s.identityExpiry.essence = s.essence := by
  unfold State.identityExpiry
  split
  · rfl
  · rw [State.answerbackRequest_essence]; rfl

theorem State.idleClearExpiry_reaches (s : State) : Reaches s s.idleClearExpiry := by
  have hp : Reaches s (s.modCall fun c => { c with idleClear := none }) := Reaches.of_eq rfl
  unfold State.idleClearExpiry
  split
  · exact Reaches.refl s
  · dsimp only
    split
    · exact hp.trans (State.beginLocalClear_reaches _ _)
    · exact hp

theorem State.guardExpiry_reaches (s : State) : Reaches s s.guardExpiry := by
  have hp : Reaches s (s.modCall fun c => { c with guard := none }) := Reaches.of_eq rfl
  unfold State.guardExpiry
  split
  · exact Reaches.refl s
  · dsimp only
    split
    · exact hp.trans (State.returnToFree_reaches _)
    · exact hp

theorem State.orderCall_reaches (chars : List Byte) (s : State) : Reaches s (s.orderCall chars).1 := by
  unfold State.orderCall
  split
  · exact Reaches.refl s
  · rename_i h
    have hf : s.call.state = .free := by_contra fun hn => h (Or.inl hn)
    split
    · exact Reaches.refl s
    · rename_i cs _
      split
      · exact Reaches.refl s
      · have hlc (ho : s.essence.inOrder) (hl : s.call.localClear = true) (P : Prop) : P := by
          rcases ho hl with h' | h' <;> exact absurd (hf.symm.trans h') (by decide)
        have hopen (t : State) (st : CallState) (hst : st ≠ .free)
            (e : t.essence = { s.essence with counts := some (0, 0, 0, 0), call := st }) : Reaches s t :=
          Reaches.move (.opened s.essence st s.call.localClear hst fun ho hl => hlc ho hl _) e
        have he : ((s.createRecord .outgoing cs).startCause.modTx fun t => { t with selection := cs }).essence
            = { s.essence with counts := some (0, 0, 0, 0) } := by
          rw [State.modTx_essence, State.startCause_essence]
          rfl
        dsimp only
        unfold State.enterCalling
        dsimp only
        split
        · refine hopen _ .selecting (by decide) ?_
          show ({ ((s.createRecord .outgoing cs).startCause.modTx fun t => { t with selection := cs }).essence with
            call := CallState.selecting } : Essence) = _
          rw [he]
        · refine hopen _ .calling (by decide) ?_
          show ({ ((s.createRecord .outgoing cs).startCause.modTx fun t => { t with selection := cs }).essence with
            call := CallState.calling } : Essence) = _
          rw [he]

/-! ### The keyboard -/

theorem State.functionPress_reaches (f : KeyFunction) (pos : Nat) (s : State) : Reaches s (s.functionPress f pos) := by
  cases f with
  | hereIs => exact Reaches.of_eq (State.answerbackRequest_essence s)
  | brk => exact getD_reaches s _ (State.breakRequest_reaches s)
  | answer => exact getD_reaches s _ (State.answerRequest_reaches s)
  | clear => exact getD_reaches s _ (State.clearRequest_reaches s)
  | _ => exact Reaches.of_eq (State.note_essence _ s)

theorem State.press_reaches (s : State) (pos : Nat) : Reaches s (s.press pos) := by
  have hp : Reaches s (s.startCause.operatorPress pos (s.kb.keymap.getD pos .none)) := Reaches.of_eq (by simp)
  unfold State.press
  dsimp only
  split
  · exact hp
  · exact hp.trans (Reaches.of_eq (State.charPress_essence _ _))
  · exact hp.trans (State.functionPress_reaches _ _ _)

theorem State.keyboardScan_reaches (closed : BitVec 64) (s : State) : Reaches s (s.keyboardScan closed) := by
  unfold State.keyboardScan
  dsimp only
  exact (Reaches.of_eq (by simp) : Reaches s _).trans (foldl_reaches State.press State.press_reaches _ _)

/-! ### The printer -/

theorem State.modPrinter_essence' (f : Printer → Printer) (s : State) :
    (s.modPrinter f).essence = { s.essence with attached := (s.modPrinter f).attachedSet } := rfl

/-- The printer comes to a state in which it is attached (R87, R133). -/
theorem State.printerAttached_reaches (f : Printer → Printer) (s : State)
    (h : (s.modPrinter f).attached .print = true) :
    Reaches s (s.modPrinter f) :=
  Reaches.attached rfl fun k hk => by
    cases k with
    | print => exact h
    | punch => exact hk
    | capture => exact hk

/-- The printer comes back from a state in which it was not attached (R88). -/
theorem State.printerAttach_reaches (f : Printer → Printer) (s : State) (h : s.attached .print = false) :
    Reaches s ((s.modPrinter f).attach .print) :=
  Reaches.back .print rfl h (State.modPrinter_attached f s)

theorem State.divert_essence (s : State) :
    s.divert.essence = s.essence ∨ (s.attached .punch = true ∧ s.divert.essence = s.essence.diverted) := by
  unfold State.divert
  split
  · rename_i h
    exact Or.inr ⟨h.2.2, rfl⟩
  · exact Or.inl rfl

theorem State.flagRecord_attached (f : RecordFlags → RecordFlags) (s : State) (k : Sink) :
    (s.flagRecord f).attached k = s.attached k := by
  cases k <;> rfl

theorem State.divert_attached (s : State) (k : Sink) : s.divert.attached k = s.attached k := by
  unfold State.divert
  split
  · cases k <;> rfl
  · rfl

theorem State.divert_attachedSet (s : State) : s.divert.attachedSet = s.attachedSet := by
  simp [State.attachedSet, State.divert_attached]

/-- The printer is lost: its entries are diverted where they may be, then released (R89, R91). -/
theorem State.printerOut_reaches (jam : Bool) (s : State) : Reaches s (s.printerOut jam) := by
  unfold State.printerOut
  dsimp only
  generalize hf : (fun p : Printer =>
    { p with
      state := .out, jamHold := jam, op := none, timer := p.stepTimer, haltGrace := none, offRequest := false }) = f
  have hs : ((s.modPrinter f).flagRecord fun f => { f with printerLost := true }).essence
      = { s.essence with
          attached := ((s.modPrinter f).flagRecord fun f => { f with printerLost := true }).attachedSet } :=
    (State.flagRecord_essence _ _).trans rfl
  have others (j : Sink) (hj : j ≠ .print) :
      ((s.modPrinter f).flagRecord fun f => { f with printerLost := true }).divert.attached j =
        s.attachedSet.has j := by
    rw [State.divert_attached, State.flagRecord_attached]
    exact State.modPrinter_attached f s j hj
  rcases State.divert_essence ((s.modPrinter f).flagRecord fun f => { f with printerLost := true }) with h | ⟨hp, h⟩
  · refine State.detach_leads s.essence .print _ ?_ others
    rw [h, hs, State.divert_attachedSet]
  · refine Leads.after (.diverted s.essence ?_) (State.detach_leads s.essence.diverted .print _ ?_ others)
    · exact hp
    · rw [h, hs, State.divert_attachedSet]
      rfl

theorem State.printerJam_reaches (s : State) : Reaches s s.printerJam :=
  (Reaches.of_eq (State.latch_essence _ s)).trans (State.printerOut_reaches true _)

theorem State.enterHalted_reaches (s : State) : Reaches s s.enterHalted := by
  have h : Reaches s (s.modPrinter fun p =>
      { p with state := .halted, op := none, timer := p.stepTimer, haltGrace := startSec (s.cfg .haltGrace) }) :=
    State.printerAttached_reaches _ s rfl
  unfold State.enterHalted
  dsimp only
  split
  · exact h.trans (State.printerOut_reaches false _)
  · exact h

theorem State.operationDone_reaches (s : State) : Reaches s s.operationDone := by
  have h : Reaches s ((s.modPrinter fun p => { p with op := none, timer := none }).consume .print 1) := by
    refine Reaches.trans (Reaches.of_eq ?_) (State.consume_reaches _ _ _)
    exact State.modPrinter_essence _ s fun _ => rfl
  unfold State.operationDone
  dsimp only
  split
  · exact h.trans (State.printerDetach_reaches _ _)
  · split
    · exact h.trans (State.enterHalted_reaches _)
    · exact h.trans (State.printerAttached_reaches _ _ rfl)

theorem State.runParts_reaches : ∀ (ps : List PrinterPart) (s : State), Reaches s (s.runParts ps)
  | [], s => s.operationDone_reaches
  | .strike c :: rest, s => by
    unfold State.runParts
    split
    · exact Reaches.of_eq (State.beginStep_essence _ _ _ _)
    · exact Reaches.of_eq (State.beginStrike_essence _ _ _)
  | .space :: rest, s => by
    unfold State.runParts
    split
    · exact State.runParts_reaches rest s
    · exact Reaches.of_eq (State.beginAction_essence _ _ _ _)
  | .slew :: rest, s => by
    unfold State.runParts
    split
    · exact Reaches.of_eq (State.beginStep_essence _ _ _ _)
    · split
      · refine Reaches.trans (Reaches.of_eq ?_) (State.runParts_reaches rest _)
        exact State.modPrinter_essence _ s fun _ => rfl
      · exact Reaches.of_eq (State.beginStep_essence _ _ _ _)
  | .feed :: rest, s => Reaches.of_eq (State.beginFeed_essence _ _ _)
  | .bell :: rest, s => (Reaches.of_eq (State.bellPulse_essence s)).trans (State.runParts_reaches rest _)
  | .silent :: rest, s => State.runParts_reaches rest s

/-- The entry that a sink would take stands where its cursor advances to (R73). -/
theorem State.nextFor_cursor {s : State} {k : Sink} {i : Nat} {e : Entry} (h : s.nextFor k = some (i, e)) :
    nextHeld k (s.store.cursors.get k) s.store.entries = some i := by
  unfold State.nextFor at h
  split at h
  · cases h
  · rename_i j hj
    obtain ⟨f, _, hf⟩ := Option.map_eq_some_iff.1 h
    cases hf
    exact hj

/-- The sink's cursor goes to the entry that it takes (R73). -/
theorem State.cursorTaken_reaches {s : State} {k : Sink} {i : Nat} {e : Entry} (h : s.nextFor k = some (i, e)) :
    Reaches s (s.modStore fun t => { t with cursors := t.cursors.set k i }) := by
  refine Reaches.move (.advanced s.essence k) ?_
  unfold Essence.advanced
  rw [show nextHeld k (s.essence.cursors.get k) s.essence.entries = some i from State.nextFor_cursor h]
  rfl

theorem State.printerTake_reaches {home : Bool} {s t : State} (h : s.printerTake home = some t) : Reaches s t := by
  unfold State.printerTake at h
  split at h
  · split at h
    · cases h
    · rename_i i e hn
      cases h
      refine Reaches.trans ?_ (State.runParts_reaches _ _)
      exact (State.cursorTaken_reaches (s := s.modPins fun p => { p with home := home }) hn : Reaches s _).trans
        (State.printerAttached_reaches _ _ rfl)
  · cases h

theorem State.strikeDone_reaches (s : State) : Reaches s s.strikeDone := by
  have h : Reaches s s.strikeLands := Reaches.of_eq (State.strikeLands_essence s)
  unfold State.strikeDone
  split
  · dsimp only
    split
    · exact h.trans (Reaches.of_eq (State.beginAction_essence _ _ _ _))
    · exact h.trans (State.runParts_reaches _ _)
  · exact Reaches.refl s

theorem State.coolingEnd_reaches (s : State) : Reaches s s.coolingEnd := by
  unfold State.coolingEnd
  split
  · exact State.runParts_reaches _ s
  · exact Reaches.refl s

theorem State.feedDone_reaches (s : State) : Reaches s s.feedDone := by
  unfold State.feedDone
  split
  · have h : Reaches s (s.modRecord fun r => { r with linesPrinted := bump r.linesPrinted }) :=
      Reaches.of_eq (State.modRecord_essence _ s fun _ => rfl)
    dsimp only
    split
    · exact h.trans (Reaches.of_eq (State.beginStrike_essence _ _ _))
    · exact h.trans (State.runParts_reaches _ _)
  · exact Reaches.refl s

theorem State.printerResponseLimit_reaches (s : State) : Reaches s s.printerResponseLimit := by
  unfold State.printerResponseLimit
  split
  · exact s.printerJam_reaches
  · exact s.printerJam_reaches
  · exact Reaches.refl s

theorem State.slewDone_reaches (c : Option IChar) (rest : List PrinterPart) (s : State) :
    Reaches s (s.slewDone c rest) := by
  have h : Reaches s (s.modPrinter fun p => { p with column := 1 }) :=
    Reaches.of_eq (State.modPrinter_essence _ s fun _ => rfl)
  unfold State.slewDone
  dsimp only
  split
  · exact h.trans (Reaches.of_eq (State.beginFeed_essence _ _ _))
  · exact h.trans (State.runParts_reaches _ _)

theorem State.slewStep_reaches (w : Slew) (c : Option IChar) (rest : List PrinterPart) (s : State) :
    Reaches s (s.slewStep w c rest) := by
  have h (n : Nat) : Reaches s (s.modPrinter fun p => { p with column := n }) :=
    Reaches.of_eq (State.modPrinter_essence _ s fun _ => rfl)
  unfold State.slewStep
  dsimp only
  generalize (if w.extra = 0 then s.printer.column - w.len else s.printer.column) = column
  split
  · exact (h _).trans (State.slewDone_reaches _ _ _)
  · split
    · exact (h _).trans (Reaches.of_eq (State.beginStep_essence _ _ _ _))
    · split
      · exact (h _).trans (Reaches.of_eq (State.beginStep_essence _ _ _ _))
      · exact (h _).trans (State.printerJam_reaches _)

theorem State.carriageStepEnd_reaches (home : Bool) (s : State) : Reaches s (s.carriageStepEnd home) := by
  have hp : Reaches s (s.modPins fun p => { p with home := home }) := Reaches.of_eq rfl
  unfold State.carriageStepEnd
  split
  · exact hp.trans (Reaches.of_eq (State.modPrinter_essence _ _ fun _ => rfl))
  · refine hp.trans (Reaches.trans (Reaches.of_eq ?_) (State.runParts_reaches _ _))
    exact State.modPrinter_essence _ _ fun _ => rfl
  · exact hp.trans (State.slewStep_reaches _ _ _ _)
  · exact Reaches.refl s

theorem State.haltTest_reaches (s : State) : Reaches s s.haltTest := by
  unfold State.haltTest
  split
  · split
    · exact s.enterHalted_reaches
    · exact Reaches.refl s
  · split
    · exact Reaches.refl s
    · exact State.printerAttached_reaches _ s rfl
  · rename_i h
    split
    · exact Reaches.refl s
    · exact State.printerAttach_reaches _ s (by simp [State.attached, h])
  · exact Reaches.refl s
  · exact Reaches.refl s

theorem State.haltCauseChange_reaches (paperOut headHot : Bool) (s : State) :
    Reaches s (s.haltCauseChange paperOut headHot) := by
  unfold State.haltCauseChange
  dsimp only
  split
  · exact Reaches.refl s
  · exact Reaches.trans (Reaches.of_eq (by simp)) (State.haltTest_reaches _)

theorem State.haltGraceExpiry_reaches (s : State) : Reaches s s.haltGraceExpiry := by
  have h : Reaches s (s.modPrinter fun p => { p with haltGrace := none }) :=
    Reaches.of_eq (State.modPrinter_essence _ s fun _ => rfl)
  unfold State.haltGraceExpiry
  split
  · exact Reaches.refl s
  · dsimp only
    split
    · exact h.trans (State.printerOut_reaches _ _)
    · exact h

theorem State.headWarmChange_essence (warm : Bool) (s : State) : (s.headWarmChange warm).essence = s.essence := by
  simp [State.headWarmChange]

theorem State.printerOff_reaches (s : State) : Reaches s s.printerOff := by
  unfold State.printerOff
  split
  · exact State.printerDetach_reaches _ s
  · exact State.printerDetach_reaches _ s
  · split
    · exact Reaches.refl s
    · split
      · exact State.printerDetach_reaches _ s
      · exact Reaches.of_eq (State.modPrinter_essence _ s fun _ => rfl)
  · rename_i h
    refine Reaches.of_eq ?_
    rw [State.modPrinter_essence']
    simp [State.essence, State.attachedSet, State.attached, State.modPrinter, h]
    decide
  · exact Reaches.refl s

theorem State.printerBack_reaches (s : State) (h : s.attached .print = false) : Reaches s s.printerBack := by
  have hb : Reaches s ((s.modPrinter fun p => { p with state := .idle, jamHold := false }).attach .print) :=
    State.printerAttach_reaches _ s h
  unfold State.printerBack
  dsimp only
  split
  · exact hb.trans (State.enterHalted_reaches _)
  · exact hb

theorem State.printerOn_reaches (s t : State) (h : s.printerOn = some t) : Reaches s t := by
  unfold State.printerOn at h
  split at h
  · rename_i hs
    cases h
    exact s.printerBack_reaches (by simp [State.attached, hs])
  · rename_i hs
    split at h
    · cases h
      exact s.printerBack_reaches (by simp [State.attached, hs])
    · cases h
  all_goals
    cases h
    exact Reaches.refl s

/-! ### The punch -/

/-- The punch comes to a state in which it is attached (R87, R163). -/
theorem State.punchAttached_reaches (f : Punch → Punch) (s : State) (h : (s.modPunch f).attached .punch = true) :
    Reaches s (s.modPunch f) :=
  Reaches.attached rfl fun k hk => by
    cases k with
    | print => exact hk
    | punch => exact h
    | capture => exact hk

theorem State.punchOut_reaches (jam : Bool) (s : State) : Reaches s (s.punchOut jam) := by
  unfold State.punchOut
  dsimp only
  refine State.detach_leads s.essence .punch _ ((State.flagRecord_essence _ _).trans rfl) fun j hj => ?_
  rw [State.flagRecord_attached]
  exact State.modPunch_attached _ s j hj

theorem State.setTape_reaches (n : Nat) (s : State) : Reaches s (s.setTape n) := by
  have h (b : Bool) : Reaches s ((s.modPunch fun p => { p with tape := n }).latchIf b Cond.tapeOut) :=
    Reaches.of_eq (by simp)
  unfold State.setTape
  dsimp only
  split
  · exact (h _).trans (State.punchOut_reaches _ _)
  · exact h _

theorem State.cutTape_reaches (s : State) : Reaches s s.cutTape := by
  unfold State.cutTape
  split
  · exact State.setTape_reaches _ s
  · exact Reaches.refl s

theorem State.beginPunch_reaches (op : PunchOp) (s : State) : Reaches s (s.beginPunch op) :=
  State.punchAttached_reaches _ s rfl

theorem State.punchTake_reaches {s t : State} (h : s.punchTake = some t) : Reaches s t := by
  unfold State.punchTake at h
  split at h
  · cases h
  · split at h
    · cases h
      exact s.beginPunch_reaches _
    · split at h
      · cases h
      · rename_i i e hn
        cases h
        exact (State.cursorTaken_reaches hn).trans (State.beginPunch_reaches _ _)

theorem State.punchOffNow_reaches (s : State) : Reaches s s.punchOffNow := State.punchDetach_reaches _ s

theorem State.punchOperationDone_reaches (s : State) : Reaches s s.punchOperationDone := by
  unfold State.punchOperationDone
  split
  · exact s.punchOut_reaches false
  · split
    · exact s.punchOffNow_reaches
    · exact State.punchAttached_reaches _ s rfl

theorem State.punchDone_reaches (s : State) : Reaches s s.punchDone := by
  have hc : Reaches s s.countPunched := Reaches.of_eq (State.countPunched_essence s)
  unfold State.punchDone
  split
  · exact Reaches.refl s
  · exact hc.trans ((State.consume_reaches _ _ _).trans (State.punchOperationDone_reaches _))
  · dsimp only
    split
    · exact hc.trans (State.punchOut_reaches _ _)
    · exact hc.trans (State.beginPunch_reaches _ _)
  · have hl : Reaches s (s.countPunched.modPunch fun p => { p with leader := p.leader - 1 }) :=
      hc.trans (Reaches.of_eq (State.modPunch_essence _ _ fun _ => rfl))
    dsimp only
    split
    · exact hl.trans (State.beginPunch_reaches _ _)
    · exact hl.trans (State.punchOperationDone_reaches _)

theorem State.punchResponseLimit_reaches (s : State) : Reaches s s.punchResponseLimit := by
  unfold State.punchResponseLimit
  split
  · exact (Reaches.of_eq (State.latch_essence _ s)).trans (State.punchOut_reaches _ _)
  · exact Reaches.refl s

theorem State.tapeLowChange_reaches (low : Bool) (s : State) : Reaches s (s.tapeLowChange low) := by
  unfold State.tapeLowChange
  split
  · exact Reaches.refl s
  · dsimp only
    split
    · exact (Reaches.of_eq (by simp) : Reaches s _).trans (State.cutTape_reaches _)
    · exact Reaches.of_eq rfl

theorem State.punchBack_reaches (s : State) (h : s.attached .punch = false) : Reaches s s.punchBack :=
  Reaches.back .punch rfl h
    (State.modPunch_attached (fun p => { p with state := .idle, jamHold := false }) s)

theorem State.setTape_state (n : Nat) (s : State) (h : s.punch.state ≠ .idle) :
    (s.setTape n).punch.state = s.punch.state := by
  unfold State.setTape
  dsimp only
  rw [if_neg]
  · simp
  · exact fun hi => h (by simpa using hi.2)

theorem State.tapeLoaded_reaches (n : Nat) (s : State) : Reaches s (s.tapeLoaded n) := by
  have ht : Reaches s (s.setTape (s.loadedTape n)) := State.setTape_reaches _ s
  unfold State.tapeLoaded
  dsimp only
  split
  · rename_i h
    simp only [Bool.and_eq_true, State.awaitsTape, Bool.or_eq_true, beq_iff_eq] at h
    have hs : s.punch.state = .off ∨ s.punch.state = .out := h.1.imp id And.left
    refine ht.trans (State.punchBack_reaches _ ?_)
    unfold State.attached
    dsimp only
    rcases hs with hs | hs
    all_goals
      rw [State.setTape_state _ _ (by rw [hs]; decide), hs]
      rfl
  · exact ht

theorem State.punchLeader_essence {n : Nat} {s t : State} (h : s.punchLeader n = some t) : t.essence = s.essence := by
  unfold State.punchLeader at h
  split at h
  · cases h
  · cases h
    rw [State.startCause_essence, State.modPunch_essence]
    exact fun _ => rfl

theorem State.punchOff_reaches (s : State) : Reaches s s.punchOff := by
  unfold State.punchOff
  split
  · exact s.punchOffNow_reaches
  · exact Reaches.of_eq (State.modPunch_essence _ s fun _ => rfl)
  · rename_i h
    refine Reaches.of_eq ?_
    simp [State.essence, State.attachedSet, State.attached, State.modPunch, h]
    decide
  · exact Reaches.refl s

theorem State.punchOn_reaches (s t : State) (h : s.punchOn = some t) : Reaches s t := by
  unfold State.punchOn at h
  split at h
  · cases h; exact Reaches.refl s
  · cases h; exact Reaches.refl s
  · rename_i hs
    split at h
    · cases h
    · cases h; exact s.punchBack_reaches (by simp [State.attached, hs])
  · rename_i hs
    split at h
    · cases h
    · cases h; exact s.punchBack_reaches (by simp [State.attached, hs])

/-! ### The channels and the link -/

/-- The CAPTURE channel comes to a state in which it is attached (R87, R201). -/
theorem State.captureAttached_reaches (f : CaptureChannel → CaptureChannel) (s : State)
    (h : (s.modCapture f).attached .capture = true) : Reaches s (s.modCapture f) :=
  Reaches.attached rfl fun k hk => by
    cases k with
    | print => exact hk
    | punch => exact hk
    | capture => exact h

theorem State.armCapture_reaches (n f : Nat) (s : State) : Reaches s (s.armCapture n f).1 := by
  unfold State.armCapture
  split
  · exact Reaches.refl s
  · split
    · exact Reaches.refl s
    · rename_i h
      refine Reaches.trans ?_ (State.gather_reaches _)
      exact Reaches.back .capture rfl (by simpa [State.attached] using h)
        (State.modCapture_attached (fun _ =>
          { state := .armed, remaining := n, size := f, taken := 0, closed := false, flush := none }) s)

theorem State.disarmCapture_reaches (s : State) : Reaches s s.disarmCapture.1 := by
  unfold State.disarmCapture
  split
  · exact Reaches.refl s
  · exact s.endCapture_reaches _

theorem State.holdCapture_reaches (on : Byte) (s : State) : Reaches s (s.holdCapture on).1 := by
  unfold State.holdCapture
  split
  · exact Reaches.refl s
  · split
    · exact Reaches.refl s
    · dsimp only
      split
      · exact State.captureAttached_reaches _ s rfl
      · exact Reaches.refl s
    · dsimp only
      split
      · exact Reaches.refl s
      · exact (State.captureAttached_reaches _ s rfl).trans (State.gather_reaches _)

theorem State.sendData_reaches (s : State) : Reaches s s.sendData := by
  have hc : Reaches s ((s.beginFrame (.data ((s.heldForCapture.take s.link.capture.taken).flatMap Entry.item))).consume
      .capture s.link.capture.taken) :=
    (Reaches.of_eq (State.beginFrame_essence _ s)).trans (State.consume_reaches _ _ _)
  have hm (t : State) (left : Nat) : Reaches t (t.modCapture fun c =>
      { c with remaining := left, taken := 0, closed := false, flush := none }) :=
    Reaches.of_eq (State.modCapture_essence _ t fun _ => rfl)
  unfold State.sendData
  dsimp only
  split
  · exact hc.trans ((hm _ _).trans
      ((State.captureDetach_reaches _ _).trans (Reaches.of_eq (State.note_essence _ _))))
  · exact hc.trans ((hm _ _).trans (State.gather_reaches _))

theorem State.linkTake_reaches {s t : State} (h : s.linkTake = some t) : Reaches s t := by
  unfold State.linkTake at h
  split at h
  · cases h
  · split at h
    · cases h
      exact Reaches.of_eq (by simp)
    · split at h
      · cases h
        exact Reaches.of_eq (by simp)
      · split at h
        · cases h
        · split at h
          · cases h
            exact s.sendData_reaches
          · obtain ⟨n, _, rfl⟩ := Option.map_eq_some_iff.1 h
            exact Reaches.of_eq (State.sendNotice_essence n s)

/-! ### The resets -/

theorem State.offerIfCalled_reaches (s : State) (h : s.call.state = .free) : Reaches s s.offerIfCalled := by
  unfold State.offerIfCalled
  split
  · refine State.offer_leads s.essence s rfl ?_ ?_ <;> (show s.call.state ≠ _; rw [h]; decide)
  · exact Reaches.refl s

theorem State.noteRefill_essence (s : State) : s.noteRefill.essence = s.essence := by
  unfold State.noteRefill
  split
  · rfl
  · exact State.note_essence _ s

theorem State.endReset_reaches (warm : Bool) (closed : Option CallRecord) (s : State) (h : s.call.state = .free) :
    Reaches s (s.endReset warm closed) := by
  have he : ((((s.refillFaults.note (.restart warm s.station.nextNumber ((closed.map (·.number)).getD 0))).noteMaybe
      (closed.bind closedNotice)).noteRefill)).essence = s.essence := by
    rw [State.noteRefill_essence, State.noteMaybe_essence, State.note_essence]
    rfl
  unfold State.endReset
  exact (Reaches.of_eq he).trans (State.offerIfCalled_reaches _ ((congrArg Essence.call he).trans h))

/-- The halt of a reset touches the printer and the store's entries for it; the call stays FREE (R156). -/
theorem State.printerAtReset_reaches (s : State) : Reaches s s.printerAtReset := by
  unfold State.printerAtReset
  split
  · exact s.enterHalted_reaches
  · exact Reaches.refl s

theorem State.divert_call (s : State) : s.divert.call = s.call := by
  unfold State.divert; split <;> rfl

/-- Outside CONNECTED the loss of the printer clears no call (R92). -/
theorem State.printerOut_call (jam : Bool) (s : State) (h : s.call.state ≠ .connected) :
    (s.printerOut jam).call = s.call := by
  unfold State.printerOut
  dsimp only
  have hc (f : Printer → Printer) (g : RecordFlags → RecordFlags) :
      ((s.modPrinter f).flagRecord g).divert.call = s.call := State.divert_call _
  rw [State.detach_of_not_connected _ _ (by rw [hc]; exact h)]
  exact hc _ _

theorem State.printerAtReset_call (s : State) (h : s.call.state ≠ .connected) : s.printerAtReset.call = s.call := by
  unfold State.printerAtReset State.enterHalted
  dsimp only
  split
  · split
    · exact State.printerOut_call _ _ h
    · rfl
  · rfl

/-- The end of a reset, from any state, once the store is empty, no record is open and the call is FREE (R67, R68). -/
theorem Reaches.reset (s t : State) (warm : Bool) (closed : Option CallRecord)
    (h : t.essence =
      { entries := [], cursors := { print := 0, punch := 0, capture := 0 }, attached := t.attachedSet, counts := none
        call := .free, clearing := false }) :
    Reaches s (t.printerAtReset.endReset warm closed) := by
  have hf : t.call.state = .free := congrArg Essence.call h
  have ht : Reaches s t := Reaches.move (.emptied s.essence t.attachedSet) h
  refine ht.trans (t.printerAtReset_reaches.trans (State.endReset_reaches warm closed _ ?_))
  rw [State.printerAtReset_call t (by rw [hf]; decide), hf]

theorem State.coldReset_reaches (inputs : Inputs) (s : State) : Reaches s (s.coldReset inputs) := by
  unfold State.coldReset
  split
  · exact Reaches.move (.emptied s.essence (s.coldState inputs).attachedSet) rfl
  · exact Reaches.reset s _ false none rfl

theorem State.warmReset_reaches (s : State) : Reaches s s.warmReset := Reaches.reset s _ true s.abandoned rfl

theorem State.frameSent_reaches (rate : BitVec 2) (s : State) : Reaches s (s.frameSent rate) := by
  unfold State.frameSent
  split
  · exact Reaches.refl s
  · have h : Reaches s ((s.modLink fun l => { l with sending := none, timer := none }).modPins fun p =>
        { p with rate := rate }) := Reaches.of_eq (State.modLink_essence _ s fun _ => rfl)
    dsimp only
    split
    · exact h.trans (State.warmReset_reaches _)
    · exact h

/-! ### The host's frames -/

theorem State.watchdogExpiry_reaches (s : State) : Reaches s s.watchdogExpiry := by
  unfold State.watchdogExpiry
  split
  · exact Reaches.refl s
  · refine Reaches.trans ?_ (State.endCapture_reaches _ _)
    refine Reaches.trans (Reaches.of_eq ?_) (State.changeMode_reaches _ _ _)
    rw [State.latch_essence]
    exact State.modStation_essence _ s fun _ => rfl

theorem State.orderMode_reaches (mode : Byte) (s : State) : Reaches s (s.orderMode mode).1 := by
  unfold State.orderMode
  split
  · exact Reaches.refl s
  · split
    · exact Reaches.refl s
    · split
      · exact Reaches.refl s
      · exact State.changeMode_reaches _ _ s

theorem State.writeRoute_reaches (first : Byte) (data : List Byte) (s : State) :
    Reaches s (s.writeRoute first data).1 := by
  unfold State.writeRoute
  split
  · exact Reaches.refl s
  · split
    · exact Reaches.refl s
    · dsimp only
      split
      · exact (Reaches.of_eq (State.modRoute_essence _ s)).trans (State.recorderTest_reaches _)
      · exact Reaches.of_eq rfl

theorem State.applySettings_reaches (first : Byte) (n : Nat) (new : List Nat) (s : State) :
    Reaches s (s.applySettings first n new) := by
  have hcut (u : State) (b : Bool) (hu : Reaches s u) : Reaches s (if b then u.cutTape else u) := by
    split
    · exact hu.trans (State.cutTape_reaches u)
    · exact hu
  unfold State.applySettings
  dsimp only
  refine hcut _ _ ?_
  split <;> exact Reaches.of_eq rfl

theorem State.writeSettings_reaches (first : Byte) (data : List Byte) (s : State) :
    Reaches s (s.writeSettings first data).1 := by
  unfold State.writeSettings
  split
  · exact Reaches.refl s
  · dsimp only
    split
    · exact Reaches.refl s
    · split
      · exact Reaches.refl s
      · exact State.applySettings_reaches _ _ _ s

theorem State.grantOr_reaches (s : State) (o : Option State) (h : ∀ t, o = some t → Reaches s t) :
    Reaches s (s.grantOr o).1 := by
  rw [State.grantOr_fst]
  exact getD_reaches s o h

theorem State.orderPunchLeader_reaches (n : Byte) (s : State) : Reaches s (s.orderPunchLeader n).1 := by
  unfold State.orderPunchLeader
  split
  · exact Reaches.refl s
  · exact s.grantOr_reaches _ fun t ht => Reaches.of_eq (State.punchLeader_essence ht)

theorem State.orderTapeLoaded_reaches (n : BitVec 16) (s : State) : Reaches s (s.orderTapeLoaded n).1 := by
  unfold State.orderTapeLoaded
  split
  · exact Reaches.refl s
  · exact State.tapeLoaded_reaches _ s

theorem State.motorStop_reaches (s t : State) (h : s.motorStop = some t) : Reaches s t := by
  unfold State.motorStop at h
  split at h
  · cases h; exact Reaches.of_eq rfl
  · cases h

theorem State.writeTranslate_essence (first : Byte) (data : List Byte) (s : State) :
    (s.writeTranslate first data).1.essence = s.essence := by
  unfold State.writeTranslate; (repeat' split) <;> rfl

theorem State.writeSequence_essence (first : Byte) (data : List Byte) (s : State) :
    (s.writeSequence first data).1.essence = s.essence := by
  unfold State.writeSequence; (repeat' split) <;> rfl

theorem State.writeKeymap_essence (first : Byte) (data : List Byte) (s : State) :
    (s.writeKeymap first data).1.essence = s.essence := by
  unfold State.writeKeymap; (repeat' split) <;> rfl

theorem State.writeAnswerback_essence (first : Byte) (data : List Byte) (s : State) :
    (s.writeAnswerback first data).1.essence = s.essence := by
  unfold State.writeAnswerback; (repeat' split) <;> rfl

theorem State.writeSignals_essence (first : Byte) (data : List Byte) (s : State) :
    (s.writeSignals first data).1.essence = s.essence := by
  unfold State.writeSignals; (repeat' split) <;> rfl

theorem State.readTable_essence (body : List Byte) (s : State) : (s.readTable body).1.essence = s.essence := by
  unfold State.readTable; (repeat' split) <;> rfl

theorem State.statusFrame_essence (body : List Byte) (s : State) : (s.statusFrame body).1.essence = s.essence := by
  unfold State.statusFrame; (repeat' split) <;> rfl

theorem State.textFrame_essence (chars : List Byte) (s : State) : (s.textFrame chars).1.essence = s.essence := by
  unfold State.textFrame; (repeat' split) <;> rfl

theorem State.armSend_essence (n : Nat) (s : State) : (s.armSend n).1.essence = s.essence := by
  unfold State.armSend; (repeat' split) <;> rfl

theorem State.disarmSend_essence (s : State) : s.disarmSend.1.essence = s.essence := by
  unfold State.disarmSend
  split
  · exact State.endSend_essence _ s
  · rfl

theorem State.holdSend_essence (on : Byte) (s : State) : (s.holdSend on).1.essence = s.essence := by
  unfold State.holdSend; (repeat' split) <;> rfl

theorem State.orderAnswerback_essence (s : State) : s.orderAnswerback.1.essence = s.essence :=
  State.answerbackRequest_essence s

theorem State.orderIdentify_essence (s : State) : s.orderIdentify.1.essence = s.essence := by
  unfold State.orderIdentify; (repeat' split) <;> rfl

theorem State.orderClearFaults_essence (named : CondSet) (s : State) :
    (s.orderClearFaults named).1.essence = s.essence := by
  unfold State.orderClearFaults; split <;> rfl

theorem State.orderNoticeMask_essence (mask : BitVec 16) (s : State) :
    (s.orderNoticeMask mask).1.essence = s.essence := by
  unfold State.orderNoticeMask
  split
  · rfl
  · exact State.modLink_essence _ s fun _ => rfl

theorem State.orderCalibrate_essence (s : State) : s.orderCalibrate.1.essence = s.essence := by
  unfold State.orderCalibrate; split <;> rfl

theorem State.orderLogDiscard_essence (n : Byte) (s : State) : (s.orderLogDiscard n).1.essence = s.essence := by
  unfold State.orderLogDiscard
  split
  · rfl
  · exact State.modStation_essence _ s fun _ => rfl

/-- What the rule of a good frame does is a run of moves. -/
theorem frameRule_reaches (c : Instr) (s : State) : Reaches s (frameRule c s).1 := by
  cases c
  case writeTranslate => exact Reaches.of_eq (State.writeTranslate_essence _ _ s)
  case writeRoute => exact State.writeRoute_reaches _ _ s
  case writeSequence => exact Reaches.of_eq (State.writeSequence_essence _ _ s)
  case writeKeymap => exact Reaches.of_eq (State.writeKeymap_essence _ _ s)
  case writeAnswerback => exact Reaches.of_eq (State.writeAnswerback_essence _ _ s)
  case writeSettings => exact State.writeSettings_reaches _ _ s
  case writeSignals => exact Reaches.of_eq (State.writeSignals_essence _ _ s)
  case read => exact Reaches.of_eq (State.readTable_essence _ s)
  case status => exact Reaches.of_eq (State.statusFrame_essence _ s)
  case text => exact Reaches.of_eq (State.textFrame_essence _ s)
  case orderMode => exact State.orderMode_reaches _ s
  case orderAckRestart => exact Reaches.of_eq (State.modStation_essence _ s fun _ => rfl)
  case orderReset => exact Reaches.of_eq (State.modLink_essence _ s fun _ => rfl)
  case orderCall => exact State.orderCall_reaches _ s
  case orderAnswer => exact s.grantOr_reaches _ (State.answerRequest_reaches s)
  case orderClear => exact s.grantOr_reaches _ (State.clearRequest_reaches s)
  case orderAnswerback => exact Reaches.of_eq s.orderAnswerback_essence
  case orderIdentify => exact Reaches.of_eq s.orderIdentify_essence
  case orderBreak => exact s.grantOr_reaches _ (State.breakRequest_reaches s)
  case orderArmSend => exact Reaches.of_eq (State.armSend_essence _ s)
  case orderArmCapture => exact State.armCapture_reaches _ _ s
  case orderDisarmSend => exact Reaches.of_eq s.disarmSend_essence
  case orderDisarmCapture => exact s.disarmCapture_reaches
  case orderHoldSend => exact Reaches.of_eq (State.holdSend_essence _ s)
  case orderHoldCapture => exact State.holdCapture_reaches _ s
  case orderPrinterOff => exact s.printerOff_reaches
  case orderPrinterOn => exact s.grantOr_reaches _ (State.printerOn_reaches s)
  case orderPunchOff => exact s.punchOff_reaches
  case orderPunchOn => exact s.grantOr_reaches _ (State.punchOn_reaches s)
  case orderPunchLeader => exact State.orderPunchLeader_reaches _ s
  case orderTapeLoaded => exact State.orderTapeLoaded_reaches _ s
  case orderMotorStart => exact Reaches.of_eq s.startCause_essence
  case orderMotorStop => exact s.grantOr_reaches _ (State.motorStop_reaches s)
  case orderClearFaults => exact Reaches.of_eq (State.orderClearFaults_essence _ s)
  case orderNoticeMask => exact Reaches.of_eq (State.orderNoticeMask_essence _ s)
  case orderCalibrate => exact Reaches.of_eq s.orderCalibrate_essence
  case orderLogDiscard => exact Reaches.of_eq (State.orderLogDiscard_essence _ s)
  all_goals exact Reaches.refl s

theorem State.answerFrame_reaches (f : State → State × Reply) (s : State) (h : Reaches s (f s).1) :
    Reaches s (s.answerFrame f) := by
  unfold State.answerFrame
  split
  · exact h.trans (Reaches.of_eq (State.modLink_essence _ _ fun _ => rfl))
  · exact Reaches.of_eq (State.modLink_essence _ _ fun _ => rfl)

theorem State.frameHunt_essence (s : State) : s.frameHunt.essence = s.essence :=
  State.modLink_essence _ s fun _ => rfl

theorem State.endSilence_essence (s : State) : s.endSilence.essence = s.essence :=
  State.modStation_essence _ s fun _ => rfl

theorem State.takeFrame_reaches (f : State → State × Reply) (s : State) (h : Reaches s (f s).1) :
    Reaches s (s.takeFrame f) := by
  unfold State.takeFrame
  split
  · exact Reaches.refl s
  · refine (State.answerFrame_reaches f s h).trans (Reaches.of_eq ?_)
    rw [State.frameHunt_essence, State.endSilence_essence]

theorem State.refuseFrame_reaches (why : RejectReason) (s : State) : Reaches s (s.refuseFrame why) := by
  unfold State.refuseFrame
  split
  · exact Reaches.refl s
  · refine (State.answerFrame_reaches (fun s => (s, .reject why)) s (Reaches.refl s)).trans (Reaches.of_eq ?_)
    exact State.frameHunt_essence _

/-- What every other command does is a run of moves. -/
theorem event_reaches (c : Instr) (s : State) : Reaches s (event c s) := by
  cases c
  case coldReset => exact State.coldReset_reaches _ s
  case characterDelivered => exact State.characterDelivered_reaches _ s
  case receivedBreak =>
    show Reaches s (if s.rx.framing = .stopSpace ∧ s.pins.lineRx = .space then s.receiveBreak else s)
    split
    · exact Reaches.of_eq s.receiveBreak_essence
    · exact Reaches.refl s
  case holdoffExpiry => exact Reaches.of_eq s.holdoffExpiry_essence
  case identityCaptureGapExpiry =>
    show Reaches s (if s.answer.gapTimer.isSome then s.closeWindow else s)
    split <;> exact Reaches.of_eq rfl
  case transmitterTake => exact getD_reaches s _ fun t ht => Reaches.of_eq (State.txTake_essence ht)
  case codeCompletion => exact s.codeCompletion_reaches
  case breakSendEnd =>
    dsimp only [event]
    split <;> exact Reaches.of_eq rfl
  case breakGuardEnd =>
    dsimp only [event]
    split
    · exact (Reaches.of_eq (State.modTx_essence _ s)).trans (State.settleClear_reaches _)
    · exact Reaches.refl s
  case localPathTake => exact getD_reaches s _ fun t ht => State.localTake_reaches ht
  case callInAsserted => exact s.callInAsserted_reaches
  case callInDeasserted => exact s.callInDeasserted_reaches
  case answerDelayExpiry => exact s.answerDelayExpiry_reaches
  case loopOkAsserted => exact s.loopOkAsserted_reaches
  case loopOkDeasserted => exact Reaches.of_eq s.loopOkDeasserted_essence
  case lossTimerExpiry => exact s.lossExpiry_reaches
  case connectTimerExpiry => exact s.connectExpiry_reaches
  case proceedTimerExpiry => exact s.proceedExpiry_reaches
  case identityTimerExpiry => exact Reaches.of_eq s.identityExpiry_essence
  case idleClearExpiry => exact s.idleClearExpiry_reaches
  case clearingGuardExpiry => exact s.guardExpiry_reaches
  case keyboardScan => exact State.keyboardScan_reaches _ s
  case printerTakeEntry => exact getD_reaches s _ fun t ht => State.printerTake_reaches ht
  case strikeDone => exact s.strikeDone_reaches
  case coolingPauseEnd => exact s.coolingEnd_reaches
  case feedDone => exact s.feedDone_reaches
  case printerResponseLimitExpiry => exact s.printerResponseLimit_reaches
  case carriageStepEnd => exact State.carriageStepEnd_reaches _ s
  case haltCauseChange => exact State.haltCauseChange_reaches _ _ s
  case printerHaltGraceExpiry => exact s.haltGraceExpiry_reaches
  case headWarmChange => exact Reaches.of_eq (State.headWarmChange_essence _ s)
  case punchTakeWork => exact getD_reaches s _ fun t ht => State.punchTake_reaches ht
  case punchDone => exact s.punchDone_reaches
  case punchResponseLimitExpiry => exact s.punchResponseLimit_reaches
  case tapeLowChange => exact State.tapeLowChange_reaches _ s
  case runUpExpiry =>
    dsimp only [event, State.runUpExpiry]
    split <;> exact Reaches.of_eq rfl
  case idleStopExpiry =>
    dsimp only [event, State.idleStopExpiry]
    split <;> exact Reaches.of_eq rfl
  case hostWatchdogExpiry => exact s.watchdogExpiry_reaches
  case frameBadCheck => exact s.refuseFrame_reaches _
  case frameBadLength => exact s.refuseFrame_reaches _
  case frameGapTimeout => exact Reaches.of_eq s.frameHunt_essence
  case frameByteError => exact Reaches.of_eq s.frameHunt_essence
  case captureFlushExpiry => exact Reaches.of_eq s.flushExpiry_essence
  case linkTransmitterTake => exact getD_reaches s _ fun t ht => State.linkTake_reaches ht
  case linkFrameSent => exact State.frameSent_reaches _ s
  case startEdge => exact Reaches.of_eq s.startEdge_essence
  case falseStart =>
    dsimp only [event]
    split <;> exact Reaches.of_eq rfl
  case stopSampleAtSpace => exact Reaches.of_eq (State.stopSampleAtSpace_essence _ s)
  case lineReturnToMark => exact s.lineReturnToMark_reaches
  all_goals exact Reaches.of_eq rfl

/-- Every command is a run of moves. -/
theorem effect_reaches (c : Instr) (s : State) : Reaches s (effect c s) := by
  unfold effect
  split
  · exact State.takeFrame_reaches _ s (frameRule_reaches c s)
  · exact event_reaches c s

/-! ## The laws that every step keeps -/

/-- A law of the essence that every move keeps, every step keeps. -/
theorem step_keeps_essence (P : Essence → Prop) (hP : ∀ x y, Essence.Move x y → P x → P y) (s t : State)
    (h : P s.essence) (e : step s = .next t) : P t.essence :=
  step_keeps_of_effect (fun u => P u.essence) (fun _ _ h => h) (fun _ _ h => h)
    (fun c u hu => (effect_reaches c u).keeps P hP hu) (fun u hu => by rw [State.tick_essence]; exact hu) s t h e

/-! ## The laws of the store, the record and the call -/

theorem State.sinkLaw_iff (s : State) : s.sinkLaw ↔ s.essence.sinkLaw := by
  unfold State.sinkLaw Essence.sinkLaw
  simp only [State.essence, State.attachedSet_has]

theorem State.countLaw_iff (s : State) : s.countLaw ↔ s.essence.countLaw := by
  refine ⟨fun h c hc hlt => ?_, fun h r hr hlt => h r.lineCounts (by simp [State.essence, hr]) hlt⟩
  obtain ⟨r, hr, rfl⟩ := Option.map_eq_some_iff.1 hc
  exact h r hr hlt

theorem State.callLaw_iff (s : State) : (s.recordLaw ∧ s.clearLaw) ↔ s.essence.callLaw := by
  unfold State.recordLaw State.clearLaw Essence.callLaw Essence.inOrder
  simp only [State.essence, Option.isSome_map]

/-- Settles O9: every command is a run of moves of the essence, and each move keeps the laws of the store. -/
theorem everyStepKeepsTheStoreLaws : Obligations.EveryStepKeepsTheStoreLaws := by
  refine ⟨fun s t h e => step_storeBound s t h e, fun s t h e => ?head, fun s t h e => ?sinks, fun s t h e => ?counts⟩
  case head => exact step_keeps_essence Essence.headOwed (fun _ _ m => m.headOwed) s t h e
  case sinks =>
    rw [State.sinkLaw_iff] at h ⊢
    exact step_keeps_essence Essence.sinkLaw (fun _ _ m => m.sinkLaw) s t h e
  case counts =>
    rw [State.countLaw_iff] at h ⊢
    exact step_keeps_essence Essence.countLaw (fun _ _ m => m.countLaw) s t h e

/-- Settles O10: the log and the punch by their own operations, the record and the local clear by the moves. -/
theorem everyStepKeepsTheLogAndPunchLaws : Obligations.EveryStepKeepsTheLogAndPunchLaws := by
  refine ⟨fun s t h e => step_logBound s t h e, fun s t h e => step_punchLaw s t h e, fun s t hr hc e => ?call⟩
  rw [State.callLaw_iff]
  exact step_keeps_essence Essence.callLaw (fun _ _ m => m.callLaw) s t ((State.callLaw_iff s).1 ⟨hr, hc⟩) e

end Sys2Proof.Machine
end

section
/-! PROOFS. The resets, and the line receiver: framing, calibration, routing, the identity-capture window, and
the actions of the sequence entries that a character completes. -/

namespace Sys2Proof.Machine

/-! ## Commands by their effect -/

/-- A command that is no good frame, its event known. -/
theorem exec_event (c : Instr) (s t : State) (hc : goodFrame c = false) (h : event c s = t) :
    exec c s = .next (s.idleWatched t) := by
  rw [exec_eq_next, effect, hc]
  exact congrArg (fun u => Host.Outcome.next (s.idleWatched u)) h

/-- A good frame that is taken, its rule's effect and reply known (R191). -/
theorem exec_frame (c : Instr) (s t : State) (r : Reply) (hc : goodFrame c = true) (hs : s.ready)
    (h : frameRule c s = (t, r)) : exec c s = .next (s.idleWatched (t.answered r)) := by
  rw [exec_eq_next, effect, hc, if_pos rfl, State.takeFrame_ready _ s hs, h]

/-- A good frame that is refused changes nothing but what every good frame does (R191). -/
theorem exec_frame_refused (c : Instr) (s : State) (r : RejectReason) (hc : goodFrame c = true) (hs : s.ready)
    (h : frameRule c s = s.reject r) : exec c s = .next (s.idleWatched (s.answered (.reject r))) :=
  exec_frame c s s (.reject r) hc hs h

/-- A command that is no good frame, something of its event known. -/
theorem exec_event_exists (c : Instr) (s : State) (P : State → Prop) (hc : goodFrame c = false)
    (h : P (s.idleWatched (event c s))) : ∃ t, exec c s = .next t ∧ P t :=
  ⟨_, exec_event c s _ hc rfl, h⟩

/-- With the motor not RUNNING the idle-stop timer is left alone (R160). -/
theorem State.idleWatched_of_not_running (s t : State) (h : t.motor.state ≠ .running) : s.idleWatched t = t := by
  unfold State.idleWatched
  rw [if_neg h]

/-! ## The cold reset -/

/-- The live faults of the levels at a cold reset; the punch has no tape (R205, R208). -/
def coldFaults (i : Inputs) : CondSet :=
  (if i.paperOut then 0x000001 else 0) ||| (if i.headWarm then 0x000002 else 0)
    ||| (if i.headHot then 0x000004 else 0) ||| (if i.tapeLow then 0x000008 else 0) ||| 0x000010

theorem coldFaults_ne_zero (i : Inputs) : coldFaults i ≠ 0 := by
  unfold coldFaults
  cases i.paperOut <;> cases i.headWarm <;> cases i.headHot <;> cases i.tapeLow <;> decide

/-- ANSWERBACK_EMPTY is no live fault (R205). -/
theorem coldFaults_answerbackEmpty (i : Inputs) : (coldFaults i).getLsbD Cond.answerbackEmpty = false := by
  unfold coldFaults
  cases i.paperOut <;> cases i.headWarm <;> cases i.headHot <;> cases i.tapeLow <;> decide

/-- The printer of a cold reset with the halt causes of the pins (R156). -/
def coldPrinter (i : Inputs) : Printer :=
  { State.reset.printer with
    state := if i.paperOut || i.headHot then .halted else .idle
    haltGrace := if i.paperOut || i.headHot then some (288000 * 30) else none }

theorem State.coldState_printerAtReset (i : Inputs) (s : State) :
    (s.coldState i).printerAtReset = { s.coldState i with printer := coldPrinter i } := by
  have hh : (s.coldState i).haltCause = (i.paperOut || i.headHot) := rfl
  unfold State.printerAtReset coldPrinter
  rw [hh]
  cases i.paperOut || i.headHot
  · rfl
  · rfl

/-- A cold reset before the offer of a CALL_IN that stands asserted (R68, R197, R208). -/
def State.coldEnded (i : Inputs) (s : State) : State :=
  { s.coldState i with
    printer := coldPrinter i
    link := { (s.coldState i).link with notices := [.restart false 1 0, .fault (coldFaults i)] }
    cond := { (s.coldState i).cond with faults := coldFaults i } }

theorem State.noteRefill_eq (t : State) (h : t.cond.faults ≠ 0) : t.noteRefill = t.note (.fault t.cond.faults) :=
  if_neg h

theorem State.coldReset_eq (i : Inputs) (s : State) (h : i.reset = false) :
    s.coldReset i = (s.coldEnded i).offerIfCalled := by
  have hf : State.refillFaults { s.coldState i with printer := coldPrinter i }
      = { s.coldState i with
          printer := coldPrinter i, cond := { (s.coldState i).cond with faults := coldFaults i } } := by
    have hl := live_masked { s.coldState i with printer := coldPrinter i } rfl rfl
    unfold State.refillFaults State.modCond
    rw [hl]
    rfl
  unfold State.coldReset
  rw [h, if_neg (by simp), State.coldState_printerAtReset]
  unfold State.endReset
  rw [hf]
  dsimp only
  rw [State.noteRefill_eq _ (coldFaults_ne_zero i)]
  rfl

/-- No answerback stands after a cold reset: the offer is refused (R48). -/
theorem State.coldEnded_offered (i : Inputs) (s : State) :
    (s.coldEnded i).offered =
      { s.coldEnded i with
        call := { State.reset.call with state := .refused }
        station :=
          { State.reset.station with
            record := some (State.reset.newRecord .incoming []), nextNumber := 2 }
        link := { (s.coldEnded i).link with notices := [.restart false 1 0, .fault (coldFaults i ||| 0x010000)] }
        cond := { (s.coldEnded i).cond with faults := coldFaults i ||| 0x010000 } } := by
  have ha : (coldFaults i).getLsbD Cond.answerbackEmpty = false := coldFaults_answerbackEmpty i
  have hl : (State.recorded .incoming [] (s.coldEnded i)).latch Cond.answerbackEmpty =
      { State.recorded .incoming [] (s.coldEnded i) with
        link := { (s.coldEnded i).link with notices := [.restart false 1 0, .fault (coldFaults i ||| 0x010000)] }
        cond := { (s.coldEnded i).cond with faults := coldFaults i ||| 0x010000 } } :=
    if_neg (by rw [show (State.recorded .incoming [] (s.coldEnded i)).cond.faults = coldFaults i from rfl, ha]; simp)
  have he : (s.coldEnded i).offered =
      ((State.recorded .incoming [] (s.coldEnded i)).latch Cond.answerbackEmpty).refused := rfl
  rw [he, hl]
  rfl

/-- Settles O5: the reset's levels decide the printer, the fault store and the offer, each by its own lemma. -/
theorem coldResetLeaves : Obligations.ColdResetLeaves := by
  intro i s
  refine ⟨fun h => ?held, fun h => ?ended⟩
  case held =>
    refine (exec_event (.coldReset i) s (s.coldState i) rfl (if_pos h)).trans ?_
    rw [State.idleWatched_of_not_running s (s.coldState i) (show MotorState.stopped ≠ .running by decide)]
    rfl
  case ended =>
    refine (exec_event (.coldReset i) s _ rfl (State.coldReset_eq i s h)).trans ?_
    unfold State.offerIfCalled
    cases hc : i.callIn with
    | false =>
      rw [if_neg (show ¬ (s.coldEnded i).pins.callIn = true from Bool.eq_false_iff.1 hc),
        State.idleWatched_of_not_running s (s.coldEnded i)
          (show MotorState.stopped ≠ .running by decide)]
      simp [State.coldEnded, State.coldState, coldFaults, coldPrinter, State.reset]
    | true =>
      rw [if_pos (show (s.coldEnded i).pins.callIn = true from hc), State.offer_eq, State.coldEnded_offered,
        State.idleWatched_of_not_running s _ (show MotorState.stopped ≠ .running by decide)]
      rfl

/-- Settles O6: the reset as `warmReset_eq` gives it, with the straps of the frame's end. -/
theorem warmResetKeepsAndSets : Obligations.WarmResetKeepsAndSets := by
  intro rate s h
  let u := (s.modLink fun l => { l with sending := none, timer := none }).modPins fun p => { p with rate := rate }
  have hu : s.frameSent rate = u.warmReset := by
    unfold State.frameSent
    rw [h]
    rfl
  have hw : u.warmed u.pins.rate = s.warmed rate := rfl
  refine exec_event (.linkFrameSent rate) s _ rfl ?_
  show s.frameSent rate = _
  rw [hu, State.warmReset_eq, hw, State.offerIfCalled, State.offer_eq]
  rfl

/-! ## Framing (R16, R17, R20) -/

theorem State.startEdge_of_hunt (s : State) (h : s.rx.framing = .hunt) :
    s.startEdge =
      { s with
        pins := { s.pins with lineRx := .space }
        rx :=
          { s.rx with
            framing := .assemble, samplePoint := s.cal.p, threshold := s.breakUnits, sinceEdge := 0
            levels := [], displacements := [] } } :=
  if_pos h

theorem State.startEdge_of_ne_hunt (s : State) (h : s.rx.framing ≠ .hunt) :
    s.startEdge = { s with pins := { s.pins with lineRx := .space } } :=
  if_neg h

/-- A delivery begins with the line at mark, so that it does not matter where the pin stood (R20). -/
theorem State.deliver_lineRx (code : Code) (good : Bool) (ds : List Int) (s : State) :
    (s.modPins fun p => { p with lineRx := .mark }).deliver code good ds = s.deliver code good ds := rfl

theorem exec_lineReturnToMark_stopSpace (s : State) (h : s.rx.framing = .stopSpace) :
    exec .lineReturnToMark s = exec (.characterDelivered []) s := by
  have hl : s.lineReturnToMark = s.deliver (codeOf s.rx.levels) false [] := by
    unfold State.lineReturnToMark
    dsimp only
    rw [show (s.modPins fun p => { p with lineRx := .mark }).rx.framing = .stopSpace from h]
    exact State.deliver_lineRx _ _ _ s
  have hc : s.characterDelivered [] = s.deliver (codeOf s.rx.levels) false [] := by
    unfold State.characterDelivered
    rw [h]
  rw [exec_event .lineReturnToMark s _ rfl hl, exec_event (.characterDelivered []) s _ rfl hc]

/-- Settles O12, one framing state after the other. -/
theorem receiverFramingEvents : Obligations.ReceiverFramingEvents := by
  intro s
  refine ⟨fun h => ?edge, fun h => ?noEdge, fun h => ?falseStart, fun h => ?noStart, fun h => ?hunting,
    exec_lineReturnToMark_stopSpace s, fun h => ?pinAlone⟩
  case edge => exact exec_event .startEdge s _ rfl (s.startEdge_of_hunt h)
  case noEdge => exact exec_event .startEdge s _ rfl (s.startEdge_of_ne_hunt h)
  case falseStart => exact exec_event .falseStart s _ rfl (if_pos h)
  case noStart => exact exec_event .falseStart s _ rfl (if_neg h)
  case hunting =>
    refine exec_event .lineReturnToMark s _ rfl ?_
    show s.lineReturnToMark = _
    unfold State.lineReturnToMark
    dsimp only
    rcases h with h | h
    all_goals
      rw [show (s.modPins fun p => { p with lineRx := .mark }).rx.framing = _ from h]
      rfl
  case pinAlone =>
    refine exec_event .lineReturnToMark s _ rfl ?_
    show s.lineReturnToMark = _
    unfold State.lineReturnToMark
    dsimp only
    rcases h with h | h | h
    all_goals
      rw [show (s.modPins fun p => { p with lineRx := .mark }).rx.framing = _ from h]
      rfl

/-! ## A space at the stop sample, and the break (R20, R22) -/

/-- A RECEIVED BREAK event, whole (R22). -/
theorem State.receiveBreak_eq (s : State) :
    s.receiveBreak =
      { State.queuesEmptied .brk
          { s with
            pins := { s.pins with lineRx := .space }
            rx := { s.rx with framing := .brk, levels := [], displacements := [] } } with
        station :=
          { s.station with
            record := s.station.record.map fun r => { r with flags := { r.flags with breakReceived := true } } } } := by
  unfold State.receiveBreak
  dsimp only
  rw [State.endSend_eq]
  rfl

/-- The receiver in STOP_SPACE with the unit levels of the line that it sampled (R18, R20). -/
def State.stopSpaced (line : List Level) (s : State) : State :=
  { s with
    pins := { s.pins with lineRx := .space }
    rx :=
      { s.rx with
        framing := .stopSpace
        levels := [1, 2, 3, 4, 5].map fun k => levelAt line (16 * k + s.rx.samplePoint)
        displacements := displacementsFrom line 1 .space (sampleLevels s.rx.samplePoint line)
        sinceEdge := s.stopSampleUnits } }

theorem State.stopSampleAtSpace_eq (line : List Level) (s : State) (h : s.rx.framing = .assemble)
    (hs : levelAt line 8 = .space) (hl : levelAt line s.stopSample = .space) :
    s.stopSampleAtSpace line =
      if s.rx.threshold ≤ s.stopSampleUnits then (s.stopSpaced line).receiveBreak else s.stopSpaced line :=
  if_pos ⟨h, by rw [startHolds, hs]; rfl, hl⟩

/-- A line at mark is what comes first in STOP_SPACE (log 2). -/
theorem State.nextDue_of_mark (s : State) (hr : s.pins.reset = false) (h : s.rx.framing = .stopSpace)
    (hm : s.pins.lineRx = .mark) : s.nextDue = some .lineReturnToMark := by
  have hd : s.dueEvents.head? = some (some .lineReturnToMark) := by
    simp [State.dueEvents, h, hm, dueWhen]
  unfold State.nextDue
  rw [hr, if_neg (by simp)]
  cases hl : s.dueEvents with
  | nil => rw [hl] at hd; cases hd
  | cons e es =>
    rw [hl] at hd
    cases hd
    rfl

/-- Settles O13: the framing states by their equations, the break by `receiveBreak_eq`. -/
theorem spaceAtTheStopSampleAndReceivedBreak : Obligations.SpaceAtTheStopSampleAndReceivedBreak := by
  refine ⟨fun s line h hs hl => ⟨fun ht => ?stopSpace, fun ht => ?atOnce⟩,
    fun s => ⟨s.nextDue_of_mark, fun h => ?noBreak, fun h hl => ?received⟩⟩
  case stopSpace =>
    refine exec_event (.stopSampleAtSpace line) s _ rfl ((s.stopSampleAtSpace_eq line h hs hl).trans ?_)
    exact if_neg (by omega)
  case atOnce =>
    refine exec_event_exists (.stopSampleAtSpace line) s _ rfl ?_
    have he : event (.stopSampleAtSpace line) s = _ :=
      ((s.stopSampleAtSpace_eq line h hs hl).trans (if_pos ht)).trans (s.stopSpaced line).receiveBreak_eq
    rw [he]
    unfold State.queuesEmptied State.idleWatched
    refine ⟨rfl, rfl, ?_, ?_, rfl, rfl⟩
    · cases ha : s.link.send.armed <;> simp [State.stopSpaced, ha]
    · cases ha : s.link.send.armed <;> simp [State.stopSpaced, ha]
  case noBreak =>
    refine exec_event .receivedBreak s s rfl (if_neg fun hb => ?_)
    rcases h with h | h
    · exact h hb.1
    · rw [h] at hb; exact absurd hb.2 (by decide)
  case received =>
    have hp : ({ s.pins with lineRx := .space } : Inputs) = s.pins := by rw [← hl]
    refine exec_event .receivedBreak s _ rfl ((if_pos ⟨h, hl⟩).trans (s.receiveBreak_eq.trans ?_))
    rw [hp]
    rfl

/-! ## The calibrator's holdoff (R29, R30) -/

theorem Calibrator.measures_iff (c : Calibrator) : c.measures = true ↔ c.state = .measuring ∨ c.state = .settled := by
  simp [Calibrator.measures]

/-- Settles O18. -/
theorem holdoffExpiryAndOrderCalibrate : Obligations.HoldoffExpiryAndOrderCalibrate := by
  intro s
  refine ⟨fun h => ?expiry, fun h => ?order⟩
  case expiry =>
    refine exec_event .holdoffExpiry s _ rfl ?_
    show s.holdoffExpiry = _
    unfold State.holdoffExpiry
    rw [if_neg (by simpa [Option.isSome_iff_ne_none] using h)]
    simp [State.modCal, Calibrator.fresh]
  case order =>
    by_cases hc : s.cfg .calibrationMode = 2 ∧ (s.cal.state = .measuring ∨ s.cal.state = .settled)
    · rw [if_pos hc]
      exact exec_frame .orderCalibrate s _ .grant rfl h (if_pos ⟨hc.1, s.cal.measures_iff.2 hc.2⟩)
    · rw [if_neg hc]
      exact exec_frame_refused .orderCalibrate s .state rfl h
        (if_neg fun hn => hc ⟨hn.1, s.cal.measures_iff.1 hn.2⟩)

/-! ## Notices and faults that stay -/

theorem mem_putNotice_self (n : Notice) : ∀ l : List Notice, n ∈ putNotice n l
  | [] => List.mem_singleton.2 rfl
  | m :: ms => by
    unfold putNotice
    split
    · exact List.mem_cons_self
    · split
      · exact List.mem_cons_self
      · exact List.mem_cons_of_mem _ (mem_putNotice_self n ms)

/-- A notice stays pending while one of another kind is made (R204). -/
theorem mem_putNotice {n m : Notice} (hk : n.kind ≠ m.kind) : ∀ {l : List Notice}, n ∈ l → n ∈ putNotice m l
  | p :: l, h => by
    unfold putNotice
    split
    · exact List.mem_cons_of_mem _ h
    · rename_i h1
      split
      · rename_i h2
        rcases List.mem_cons.1 h with rfl | h
        · exact absurd h2.symm hk
        · exact List.mem_cons_of_mem _ h
      · rcases List.mem_cons.1 h with rfl | h
        · exact List.mem_cons_self
        · exact List.mem_cons_of_mem _ (mem_putNotice hk h)

theorem State.latch_faults {k j : Nat} {s : State} (h : s.cond.faults.getLsbD j = true) :
    (s.latch k).cond.faults.getLsbD j = true := by
  unfold State.latch
  split
  · exact h
  · show (s.cond.faults ||| BitVec.ofNat 24 (2 ^ k)).getLsbD j = true
    rw [BitVec.getLsbD_or, h, Bool.true_or]

theorem State.latch_notices {k : Nat} {s : State} {n : Notice} (hn : n.kind ≠ 7) (h : n ∈ s.link.notices) :
    n ∈ (s.latch k).link.notices := by
  unfold State.latch
  split
  · exact h
  · exact mem_putNotice hn h

/-! ## The stages of a delivered character -/

/-- The character that a CHARACTER_DELIVERED gives, as a delivery. -/
theorem State.characterDelivered_eq {s : State} {line : List Level} {code : Code} {good : Bool}
    (h : s.delivers line = some (code, good)) : ∃ ds, s.characterDelivered line = s.deliver code good ds := by
  cases hf : s.rx.framing
  case assemble =>
    unfold State.delivers at h
    unfold State.characterDelivered
    rw [hf] at h ⊢
    dsimp only at h ⊢
    split at h
    · rename_i hl
      cases h
      rw [if_pos (by simp [startHolds, State.stopLevel, hl.1, hl.2])]
      exact ⟨_, rfl⟩
    · cases h
  case stopSpace =>
    unfold State.delivers at h
    unfold State.characterDelivered
    rw [hf] at h ⊢
    cases h
    exact ⟨_, rfl⟩
  all_goals
    unfold State.delivers at h
    rw [hf] at h
    cases h

/-- A good character is delivered at its stop sample with the displacements of its transitions (R26). -/
theorem State.characterDelivered_assemble {s : State} {line : List Level} {code : Code}
    (hf : s.rx.framing = .assemble) (h : s.delivers line = some (code, true)) :
    s.characterDelivered line = s.deliver code true (displacementsOf line (sampleLevels s.rx.samplePoint line)) := by
  unfold State.delivers at h
  unfold State.characterDelivered
  rw [hf] at h ⊢
  dsimp only at h ⊢
  split at h
  · rename_i hl
    cases h
    rw [if_pos (by simp [startHolds, State.stopLevel, hl.1, hl.2])]
  · cases h

/-- What a character touches before its routing. -/
theorem State.beforeRouting_frame (code : Code) (good : Bool) (ds : List Int) (s : State) :
    s.beforeRouting code good ds =
      { s with
        pins := { s.pins with lineRx := .mark }
        rx := (s.beforeRouting code good ds).rx
        cal := (s.beforeRouting code good ds).cal
        cond := (s.beforeRouting code good ds).cond
        matcher := (s.beforeRouting code good ds).matcher
        link := { s.link with notices := (s.beforeRouting code good ds).link.notices }
        station := { s.station with record := (s.beforeRouting code good ds).station.record } } := by
  have hm (u : State) (e : TransEntry) : u.matchProgress good e =
      { u with matcher := (u.matchProgress good e).matcher } := by
    unfold State.matchProgress
    split <;> rfl
  unfold State.beforeRouting
  dsimp only
  rw [hm, State.calibrate_frame]
  (repeat' split) <;> rfl

/-- The open record with the stored character of the line counted, or the station's (R80). -/
def CallRecord.stored (src : Source) (r : CallRecord) : CallRecord :=
  if src = .line then { r with storedLine := bump r.storedLine } else { r with storedStation := bump r.storedStation }

/-- The notices after an append: the STORE notice at the high-water mark (R81). -/
def State.noticesAfter (t : Store) (s : State) : List Notice :=
  if t.armed = true ∧ s.cfg .storeHighWater ≤ t.entries.length then
    putNotice
      (.store t.entries.length t.gap (t.entries.length - t.cursors.print) (t.entries.length - t.cursors.punch)
        (t.entries.length - t.cursors.capture))
      s.link.notices
  else s.link.notices

/-- The store with an entry appended, its GAP_BEFORE mark made and the gap count back to 0 (R77 to R79). -/
def State.storeWith (e : Entry) (s : State) : Store :=
  { s.store with entries := s.store.entries ++ [{ e with gapBefore := s.store.gap != 0 }], gap := 0 }

theorem State.startCause_motor_congr {s t : State} (hm : t.motor = s.motor) (hs : t.settings = s.settings) :
    t.startCause.motor = s.startCause.motor := by
  unfold State.startCause State.modMotor State.cfg
  simp only [hm, hs]
  cases s.motor.state
  · rfl
  · exact hm
  · rfl

/-- An append, whole, up to what CAPTURE gathers (R77 to R81). -/
theorem State.append_eq (e : Entry) (s : State) :
    s.append e =
      State.gather
        { s with
          store :=
            { s.storeWith e with
              armed :=
                if s.store.armed = true ∧ s.cfg .storeHighWater ≤ (s.storeWith e).entries.length then false
                else s.store.armed }
          motor := if (e.pending.print || e.pending.punch) = true then s.startCause.motor else s.motor
          link := { s.link with notices := s.noticesAfter (s.storeWith e) }
          station := { s.station with record := s.station.record.map (CallRecord.stored e.source) } } := by
  let t : State :=
    { s with
      store := s.storeWith e
      station := { s.station with record := s.station.record.map (CallRecord.stored e.source) } }
  let u : State :=
    { t with motor := if (e.pending.print || e.pending.punch) = true then s.startCause.motor else s.motor }
  have hu : (if e.pending.print || e.pending.punch then t.startCause else t) = u := by
    split
    · rename_i h
      rw [State.startCause_frame, State.startCause_motor_congr (s := s) (t := t) rfl rfl]
      simp only [u, h, if_true]
    · rename_i h
      simp only [u, if_neg h]
      rfl
  have hn : u.storeNotice =
      { u with
        store :=
          { s.storeWith e with
            armed :=
              if s.store.armed = true ∧ s.cfg .storeHighWater ≤ (s.storeWith e).entries.length then false
              else s.store.armed }
        link := { s.link with notices := s.noticesAfter (s.storeWith e) } } := by
    unfold State.storeNotice State.noticesAfter
    by_cases h : s.store.armed = true ∧ s.cfg .storeHighWater ≤ (s.storeWith e).entries.length
    · rw [if_pos (by rw [Bool.and_eq_true, decide_eq_true_iff]; exact h), if_pos h,
        if_pos (show (s.storeWith e).armed = true ∧ s.cfg .storeHighWater ≤ (s.storeWith e).entries.length from h)]
      rfl
    · rw [if_neg (by rw [Bool.and_eq_true, decide_eq_true_iff]; exact h), if_neg h,
        if_neg (show ¬((s.storeWith e).armed = true ∧ s.cfg .storeHighWater ≤ (s.storeWith e).entries.length) from h)]
      rfl
  exact (congrArg State.gather ((congrArg State.storeNotice hu).trans hn))

/-- CAPTURE gathers into its own channel and moves its own cursor. -/
theorem State.gather_own (s : State) :
    s.gather =
      { s with
        store := { s.store with cursors := { s.store.cursors with capture := s.gather.store.cursors.capture } }
        link := { s.link with capture := s.gather.link.capture } } := by
  unfold State.gather
  dsimp only
  (repeat' split) <;> rfl

/-- What the gathering reads: the store, the channel and its settings (R73, R202). -/
theorem State.gathered_congr {s t : State} (hs : t.store = s.store) (hc : t.link.capture = s.link.capture)
    (hg : t.settings = s.settings) :
    t.gathered.store = s.gathered.store ∧ t.gathered.link.capture = s.gathered.link.capture := by
  unfold State.gathered State.cfg
  simp only [hs, hc, hg]
  split
  · exact ⟨rfl, rfl⟩
  · exact ⟨hs, hc⟩

/-- What the routing of a character of the line touches (R77 to R81, R202). -/
theorem State.routeLine_frame (code : Code) (sh : Shift) (e : TransEntry) (m : Bool) (s : State) :
    s.routeLine code sh e m =
      { s with
        store := (s.routeLine code sh e m).store
        motor := (s.routeLine code sh e m).motor
        cond := (s.routeLine code sh e m).cond
        link :=
          { s.link with
            notices := (s.routeLine code sh e m).link.notices, capture := (s.routeLine code sh e m).link.capture }
        station := { s.station with record := (s.routeLine code sh e m).station.record } } := by
  unfold State.routeLine
  dsimp only
  split
  · rfl
  · split
    · rw [State.latch_frame]; rfl
    · rw [State.append_eq, State.gather_own]

/-- What a character does after its routing. -/
theorem State.afterRouting_frame (connected good : Bool) (e : TransEntry) (s : State) :
    s.afterRouting connected good e =
      { s with
        call := { s.call with idleClear := (s.afterRouting connected good e).call.idleClear }
        answer := (s.afterRouting connected good e).answer
        cond := (s.afterRouting connected good e).cond
        link := { s.link with notices := (s.afterRouting connected good e).link.notices }
        station := { s.station with record := (s.afterRouting connected good e).station.record } } := by
  have hr : s.restartIdle = { s with call := { s.call with idleClear := s.restartIdle.call.idleClear } } := by
    unfold State.restartIdle; split <;> rfl
  have hc (u : State) : u.captureIdentity good e =
      { u with
        answer := (u.captureIdentity good e).answer
        station := { u.station with record := (u.captureIdentity good e).station.record } } := by
    unfold State.captureIdentity State.appendIdentity
    dsimp only
    (repeat' split) <;> rfl
  have ha (u : State) : u.answerbackRequest =
      { u with
        answer := u.answerbackRequest.answer, cond := u.answerbackRequest.cond
        link := { u.link with notices := u.answerbackRequest.link.notices } } := by
    unfold State.answerbackRequest
    split
    · rfl
    · split
      · rw [State.latch_frame]
      · split <;> rfl
  unfold State.afterRouting
  dsimp only
  rw [ha, hc, hr]
  (repeat' split) <;> rfl

/-! ## What stays after the routing -/

/-- The part of the open record that the counts of the line are not. -/
def CallRecord.rest (r : CallRecord) : Nat × Option CallOutcome × Option (List IChar) × Nat × RecordFlags :=
  (r.number, r.outcome, r.remoteIdentity, r.messages, r.flags)

/-- What no operation after the routing of a character changes: the store, the CAPTURE channel, the line's
counts, the flags of the record, the matcher and the receive shift; a latched fault and a notice of another kind
than the operation's own stay. -/
structure State.Later (s t : State) : Prop where
  store : t.store = s.store
  capture : t.link.capture = s.link.capture
  counts : t.essence.counts = s.essence.counts
  flags : (t.station.record.map fun r => r.flags) = s.station.record.map fun r => r.flags
  matcher : t.matcher = s.matcher
  shift : t.rx.shift = s.rx.shift
  framing : t.rx.framing = s.rx.framing ∨ t.rx.framing = .off
  faults : ∀ k, s.cond.faults.getLsbD k = true → t.cond.faults.getLsbD k = true
  notices : ∀ n ∈ s.link.notices, n.kind ≠ 5 → n.kind ≠ 7 → n.kind ≠ 8 → n ∈ t.link.notices

theorem State.Later.refl (s : State) : s.Later s :=
  ⟨rfl, rfl, rfl, rfl, rfl, rfl, Or.inl rfl, fun _ h => h, fun _ h _ _ _ => h⟩

theorem State.Later.trans {s t u : State} (h : s.Later t) (g : t.Later u) : s.Later u where
  store := g.store.trans h.store
  capture := g.capture.trans h.capture
  counts := g.counts.trans h.counts
  flags := g.flags.trans h.flags
  matcher := g.matcher.trans h.matcher
  shift := g.shift.trans h.shift
  framing := g.framing.elim (fun e => h.framing.imp e.trans e.trans) Or.inr
  faults := fun k hk => g.faults k (h.faults k hk)
  notices := fun n hn h5 h7 h8 => g.notices n (h.notices n hn h5 h7 h8) h5 h7 h8

/-- A change of the record that keeps its counts and flags. -/
theorem State.modRecord_later (f : CallRecord → CallRecord) (s : State) (hc : ∀ r, (f r).lineCounts = r.lineCounts)
    (hf : ∀ r, (f r).flags = r.flags) : s.Later (s.modRecord f) where
  store := rfl
  capture := rfl
  counts := congrArg Essence.counts (State.modRecord_essence f s hc)
  flags := by
    show (s.station.record.map f).map _ = _
    rw [Option.map_map]
    exact congrArg (fun g => s.station.record.map g) (funext hf)
  matcher := rfl
  shift := rfl
  framing := Or.inl rfl
  faults := fun _ h => h
  notices := fun _ h _ _ _ => h

theorem State.note_later (n : Notice) (s : State) (hn : n.kind = 5 ∨ n.kind = 7 ∨ n.kind = 8) : s.Later (s.note n) :=
  ⟨rfl, rfl, rfl, rfl, rfl, rfl, Or.inl rfl, fun _ h => h, fun m hm h5 h7 h8 => mem_putNotice (by
    rcases hn with hn | hn | hn
    all_goals rw [hn]; assumption) hm⟩

theorem State.latch_later (k : Nat) (s : State) : s.Later (s.latch k) where
  store := by rw [State.latch_frame]
  capture := by rw [State.latch_frame]
  counts := congrArg Essence.counts (State.latch_essence k s)
  flags := by rw [State.latch_frame]
  matcher := by rw [State.latch_frame]
  shift := by rw [State.latch_frame]
  framing := Or.inl (by rw [State.latch_frame])
  faults := fun _ h => State.latch_faults h
  notices := fun _ hm _ h7 _ => State.latch_notices h7 hm

theorem State.restartIdle_later (s : State) : s.Later s.restartIdle := by
  unfold State.restartIdle
  split <;> exact ⟨rfl, rfl, rfl, rfl, rfl, rfl, Or.inl rfl, fun _ h => h, fun _ h _ _ _ => h⟩

theorem State.modAnswer_later (f : Answerback → Answerback) (s : State) : s.Later (s.modAnswer f) :=
  ⟨rfl, rfl, rfl, rfl, rfl, rfl, Or.inl rfl, fun _ h => h, fun _ h _ _ _ => h⟩

theorem State.appendIdentity_later (c : IChar) (n : Nat) (s : State) : s.Later (s.appendIdentity c n) := by
  have h : s.Later (s.modRecord fun r => { r with remoteIdentity := r.remoteIdentity.map (· ++ [c]) }) :=
    State.modRecord_later _ s (fun _ => rfl) fun _ => rfl
  unfold State.appendIdentity
  dsimp only
  split
  · exact h.trans (State.modAnswer_later _ _)
  · exact h.trans (State.modAnswer_later _ _)

theorem State.captureIdentity_later (good : Bool) (e : TransEntry) (s : State) :
    s.Later (s.captureIdentity good e) := by
  unfold State.captureIdentity
  split
  · exact State.Later.refl s
  · have h (g : State → State) (hg : ∀ u : State, u.Later (g u)) :
        s.Later (g (s.modAnswer fun a => { a with gapTimer := startSec (s.cfg .identityCaptureGap) })) :=
      (State.modAnswer_later _ s).trans (hg _)
    dsimp only
    split
    · exact h _ (State.appendIdentity_later _ _)
    · split
      · exact h _ (State.appendIdentity_later _ _)
      · exact h _ (State.appendIdentity_later _ _)
      · exact h _ fun u => State.modAnswer_later _ u
      · exact State.modAnswer_later _ s

theorem State.answerbackRequest_later (s : State) : s.Later s.answerbackRequest := by
  unfold State.answerbackRequest
  (repeat' split)
  · exact State.Later.refl s
  · exact State.latch_later _ s
  · exact State.Later.refl s
  · exact State.modAnswer_later _ s

theorem State.afterRouting_later (connected good : Bool) (e : TransEntry) (s : State) :
    s.Later (s.afterRouting connected good e) := by
  have hi : s.Later (if connected then s.restartIdle.captureIdentity good e else s.restartIdle) := by
    split
    · exact s.restartIdle_later.trans (State.captureIdentity_later _ _ _)
    · exact s.restartIdle_later
  unfold State.afterRouting
  dsimp only
  split
  · exact hi.trans (State.answerbackRequest_later _)
  · exact hi

theorem State.queuesEmptied_later (s : State) : s.Later (s.queuesEmptied .cleared) := by
  unfold State.queuesEmptied
  cases s.link.send.armed
  · exact ⟨rfl, rfl, rfl, rfl, rfl, rfl, Or.inl rfl, fun _ h => h, fun _ h _ _ _ => h⟩
  · exact ⟨rfl, rfl, rfl, rfl, rfl, rfl, Or.inl rfl, fun _ h => h, fun m hm h5 _ _ => mem_putNotice h5 hm⟩

theorem State.cleared_later (s : State) : s.Later s.cleared where
  store := rfl
  capture := rfl
  counts := by rw [← State.enterClearing_eq, State.enterClearing_essence]
  flags := by
    unfold State.cleared
    rw [Option.map_map]
    exact congrArg (fun g => s.station.record.map g)
      (funext fun r => by dsimp only [Function.comp_apply]; split <;> rfl)
  matcher := rfl
  shift := rfl
  framing := Or.inr rfl
  faults := fun _ h => h
  notices := fun _ h _ _ _ => h

theorem State.ending_later (o : CallOutcome) (s : State) : s.Later (s.ending o) := by
  rw [← State.setOutcome_eq]
  exact State.modRecord_later _ s (fun _ => rfl) fun _ => rfl

/-- A local clear whose cause latches no fault (R61, R62). -/
theorem State.beginLocalClear_cases (o : CallOutcome) (s : State) (ho : (o == .recorderLost) = false) :
    s.beginLocalClear o = if s.call.state = .connected then s.localClearTaken o else s := by
  by_cases hc : s.call.state = .connected
  · rw [if_pos hc]
    cases hl : s.call.localClear
    · rw [State.beginLocalClear_eq o s hc hl, ho]
      rfl
    · rw [State.beginLocalClear_absorbed o s hl]
      exact (if_pos hl).symm
  · rw [if_neg hc]
    exact if_pos (by simp [hc])

theorem State.localClearTaken_later (o : CallOutcome) (s : State) : s.Later (s.localClearTaken o) := by
  have h : s.Later ((s.ending o).queuesEmptied .cleared) := (s.ending_later o).trans (State.queuesEmptied_later _)
  have hm (u : State) (f : Call → Call) : u.Later (u.modCall f) :=
    ⟨rfl, rfl, rfl, rfl, rfl, rfl, Or.inl rfl, fun _ h => h, fun _ h _ _ _ => h⟩
  have ht := h.trans (hm _ fun c => { c with localClear := true, idleClear := none, identity := none })
  unfold State.localClearTaken
  dsimp only
  split
  · exact State.Later.refl s
  · split
    · exact ht
    · exact ht.trans (State.cleared_later _)

theorem State.actOn_later (a : SeqAction) (s : State) : s.Later (s.actOn a) := by
  cases a with
  | endOfMessage => exact State.modRecord_later _ s (fun _ => rfl) fun _ => rfl
  | clear =>
    show s.Later (if s.station.mode = .unattended then s.beginLocalClear .sequenceClear else s)
    split
    · rw [State.beginLocalClear_cases _ _ rfl]
      split
      · exact State.localClearTaken_later _ s
      · exact State.Later.refl s
    · exact State.Later.refl s
  | _ => exact ⟨rfl, rfl, rfl, rfl, rfl, rfl, Or.inl rfl, fun _ h => h, fun _ h _ _ _ => h⟩

theorem State.complete1_later (s : State) (x : Nat × SeqEntry) : s.Later (s.complete1 x) := by
  unfold State.complete1
  dsimp only
  split
  · exact (State.actOn_later _ s).trans (State.note_later _ _ (Or.inr (Or.inr rfl)))
  · exact State.actOn_later _ s

theorem foldl_complete1_later : ∀ (l : List (Nat × SeqEntry)) (s : State), s.Later (l.foldl State.complete1 s)
  | [], s => State.Later.refl s
  | x :: l, s => (s.complete1_later x).trans (foldl_complete1_later l (s.complete1 x))

/-- A delivered character, from its routing on. -/
def State.routed (code : Code) (good : Bool) (ds : List Int) (s : State) : State :=
  (s.beforeRouting code good ds).routeLine code s.rx.shift (s.entryAt s.rx.shift code) (!good)

theorem State.deliver_later (code : Code) (good : Bool) (ds : List Int) (s : State) :
    (s.routed code good ds).Later (s.deliver code good ds) := by
  rw [State.deliver_eq]
  exact (State.afterRouting_later _ _ _ _).trans (foldl_complete1_later _ _)

/-! ## The receive shift (R6, R7) -/

theorem State.beforeRouting_rx (code : Code) (good : Bool) (ds : List Int) (s : State) :
    (s.beforeRouting code good ds).rx =
      { s.rx with
        framing := .hunt, levels := [], displacements := []
        shift := if good then s.receiveShiftAfter (s.entryAt s.rx.shift code) else s.rx.shift } := by
  have hm (u : State) (e : TransEntry) : (u.matchProgress good e).rx = u.rx := by
    unfold State.matchProgress
    split <;> rfl
  have hc (u : State) : (u.calibrate ds).rx = u.rx := by rw [State.calibrate_frame]; rfl
  have hi (b : Bool) (f : State → State) (u : State) (h : (f u).rx = u.rx) : (if b then f u else u).rx = u.rx := by
    split
    · exact h
    · rfl
  unfold State.beforeRouting
  dsimp only
  rw [hi _ (State.matchProgress good _) _ (hm _ _), hi _ (State.calibrate ds) _ (hc _)]
  cases good <;> rfl

theorem State.routed_rx (code : Code) (good : Bool) (ds : List Int) (s : State) :
    (s.routed code good ds).rx = (s.beforeRouting code good ds).rx := by
  unfold State.routed
  rw [State.routeLine_frame]

theorem State.receiveShiftAfter_eq (s : State) (e : TransEntry) :
    s.receiveShiftAfter e =
      match e.cls with
      | .ltrs => .letters
      | .figs => .figures
      | .space => if s.cfg .unshiftOnSpace = 1 then .letters else s.rx.shift
      | _ => s.rx.shift := by
  unfold State.receiveShiftAfter
  cases e.cls <;> simp [CharClass.names]

/-- Settles O15: the shift is set before the routing, and nothing after it touches the shift. -/
theorem receiveShiftAfterACharacter : Obligations.ReceiveShiftAfterACharacter := by
  intro s line code good h
  obtain ⟨ds, hd⟩ := State.characterDelivered_eq h
  have hl := s.deliver_later code good ds
  have hr := (s.routed_rx code good ds).trans (s.beforeRouting_rx code good ds)
  refine exec_event_exists (.characterDelivered line) s _ rfl ?_
  rw [show event (.characterDelivered line) s = s.deliver code good ds from hd]
  refine ⟨?framing, ?shift⟩
  case framing =>
    show (s.deliver code good ds).rx.framing ≠ .assemble
    rcases hl.framing with hf | hf
    · rw [hf, hr]; exact (nomatch ·)
    · rw [hf]; decide
  case shift =>
    show (s.deliver code good ds).rx.shift = _
    rw [hl.shift, hr]
    cases good with
    | false => rfl
    | true => exact s.receiveShiftAfter_eq _

/-! ## The routing (R77 to R81) -/

/-- Up to the routing nothing that decides it has changed. -/
theorem State.beforeRouting_sinkSet (code : Code) (good : Bool) (ds : List Int) (s : State) (src : Source) :
    (s.beforeRouting code good ds).sinkSet src = s.sinkSet src := by
  rw [State.beforeRouting_frame]; rfl

theorem State.beforeRouting_freeEntries (code : Code) (good : Bool) (ds : List Int) (s : State) :
    (s.beforeRouting code good ds).freeEntries = s.freeEntries := by
  rw [State.beforeRouting_frame]; rfl

/-- A character of the line that has no sink (R77, R80). -/
theorem State.routed_unrouted (code : Code) (good : Bool) (ds : List Int) (s : State)
    (h : (s.sinkSet .line).isEmpty = true) :
    s.routed code good ds = (s.beforeRouting code good ds).countUnrouted .line := by
  unfold State.routed State.routeLine
  dsimp only
  rw [State.beforeRouting_sinkSet, if_pos h]

/-- A character of the line for which there is no place (R77, R79). -/
theorem State.routed_lost (code : Code) (good : Bool) (ds : List Int) (s : State)
    (h : (s.sinkSet .line).isEmpty = false) (hf : s.freeEntries = 0) :
    s.routed code good ds =
      (((s.beforeRouting code good ds).modStore fun t => { t with gap := bump t.gap }).modRecord fun r =>
        { r with lost := bump r.lost }).latch Cond.storeOverrun := by
  unfold State.routed State.routeLine
  dsimp only
  rw [State.beforeRouting_sinkSet, if_neg (by simp [h]), State.beforeRouting_freeEntries, if_pos hf]

/-- A character of the line that is stored (R77). -/
theorem State.routed_stored (code : Code) (good : Bool) (ds : List Int) (s : State)
    (h : (s.sinkSet .line).isEmpty = false) (hf : s.freeEntries ≠ 0) :
    s.routed code good ds =
      (s.beforeRouting code good ds).append
        (newEntry code s.rx.shift (s.entryAt s.rx.shift code) .line (!good) (s.sinkSet .line)) := by
  unfold State.routed State.routeLine
  dsimp only
  rw [State.beforeRouting_sinkSet, if_neg (by simp [h]), State.beforeRouting_freeEntries, if_neg hf]

/-- The store after an append, before CAPTURE gathers (R77 to R81). -/
def State.shelved (e : Entry) (s : State) : State :=
  { s with
    store :=
      { s.storeWith e with
        armed :=
          if s.store.armed = true ∧ s.cfg .storeHighWater ≤ (s.storeWith e).entries.length then false
          else s.store.armed } }

/-- An append, as the store, the channel, the notices and the record show it. -/
theorem State.append_shows (e : Entry) (s : State) :
    (s.append e).store.entries = (s.storeWith e).entries ∧ (s.append e).store.gap = 0 ∧
      (s.append e).link.notices = s.noticesAfter (s.storeWith e) ∧
      (s.append e).station.record = s.station.record.map (CallRecord.stored e.source) ∧
      (s.append e).cond = s.cond ∧
      (s.store.cursors.capture ≤ s.store.entries.length →
        (s.append e).store = (s.shelved e).gathered.store ∧
          (s.append e).link.capture = (s.shelved e).gathered.link.capture) := by
  rw [State.append_eq]
  refine ⟨by rw [State.gather_own], by rw [State.gather_own]; rfl, by rw [State.gather_own], by rw [State.gather_own],
    by rw [State.gather_own], fun h => ?_⟩
  rw [State.gather_eq]
  · exact State.gathered_congr rfl rfl rfl
  · show s.store.cursors.capture ≤ (s.store.entries ++ [_]).length
    rw [List.length_append]
    omega

/-- The STORE notice is made at the high-water mark, while it is armed (R81). -/
theorem State.store_mem_noticesAfter (t : Store) (s : State)
    (h : t.armed = true ∧ s.cfg .storeHighWater ≤ t.entries.length) :
    .store t.entries.length t.gap (t.entries.length - t.cursors.print) (t.entries.length - t.cursors.punch)
      (t.entries.length - t.cursors.capture) ∈ s.noticesAfter t := by
  unfold State.noticesAfter
  rw [if_pos h]
  exact mem_putNotice_self _ _

theorem State.counts_eq (s : State) :
    s.essence.counts = s.station.record.map fun r => (r.received, r.storedLine, r.unroutedLine, r.lost) := rfl

/-- What a delivery and a count after it make of the line's counts. -/
theorem State.beforeRouting_counted (code : Code) (good : Bool) (ds : List Int) (s : State)
    (f : Nat × Nat × Nat × Nat → Nat × Nat × Nat × Nat) :
    (s.beforeRouting code good ds).essence.counts.map f =
      s.station.record.map fun r => f (bump r.received, r.storedLine, r.unroutedLine, r.lost) := by
  rw [State.beforeRouting_essence]
  show ((s.station.record.map _).map _).map f = _
  rw [Option.map_map, Option.map_map]
  rfl

theorem State.deliver_unrouted (code : Code) (good : Bool) (ds : List Int) (s : State)
    (h : (s.sinkSet .line).isEmpty = true) :
    (s.deliver code good ds).store = s.store ∧ (s.deliver code good ds).link.capture = s.link.capture ∧
      (s.deliver code good ds).essence.counts =
        s.station.record.map fun r => (bump r.received, r.storedLine, bump r.unroutedLine, r.lost) := by
  have hl := s.deliver_later code good ds
  have hr := s.routed_unrouted code good ds h
  refine ⟨hl.store.trans ?_, hl.capture.trans ?_, hl.counts.trans ?_⟩
  · rw [hr, State.beforeRouting_frame]; rfl
  · rw [hr, State.beforeRouting_frame]; rfl
  · rw [hr, State.countUnrouted_line_essence]
    exact s.beforeRouting_counted code good ds fun c => (c.1, c.2.1, bump c.2.2.1, c.2.2.2)

theorem State.deliver_lost (code : Code) (good : Bool) (ds : List Int) (s : State)
    (h : (s.sinkSet .line).isEmpty = false) (hf : s.freeEntries = 0) :
    (s.deliver code good ds).store = { s.store with gap := bump s.store.gap } ∧
      (s.deliver code good ds).link.capture = s.link.capture ∧
      (s.deliver code good ds).cond.faults.getLsbD Cond.storeOverrun = true ∧
      (s.deliver code good ds).essence.counts =
        s.station.record.map fun r => (bump r.received, r.storedLine, r.unroutedLine, bump r.lost) := by
  have hl := s.deliver_later code good ds
  have hr := s.routed_lost code good ds h hf
  refine ⟨hl.store.trans ?_, hl.capture.trans ?_, hl.faults _ ?_, hl.counts.trans ?_⟩
  · rw [hr, State.latch_frame, State.beforeRouting_frame]; rfl
  · rw [hr, State.latch_frame, State.beforeRouting_frame]; rfl
  · rw [hr]; exact State.latch_bit _ _ (by decide)
  · rw [hr, State.latch_essence,
      State.modRecord_counts _ (fun c => (c.1, c.2.1, c.2.2.1, bump c.2.2.2)) _ fun _ => rfl]
    exact s.beforeRouting_counted code good ds fun c => (c.1, c.2.1, c.2.2.1, bump c.2.2.2)

/-- The entry of a character of the line, its GAP_BEFORE mark not yet made. -/
def State.lineChar (s : State) (code : Code) (good : Bool) : Entry :=
  newEntry code s.rx.shift (s.entryAt s.rx.shift code) .line (!good) (s.sinkSet .line)

theorem State.beforeRouting_shelved (code : Code) (good : Bool) (ds : List Int) (s : State) (e : Entry) :
    ((s.beforeRouting code good ds).shelved e).gathered.store = (s.shelved e).gathered.store ∧
      ((s.beforeRouting code good ds).shelved e).gathered.link.capture = (s.shelved e).gathered.link.capture := by
  refine State.gathered_congr ?_ ?_ ?_
  all_goals
    rw [State.beforeRouting_frame]
    rfl

theorem State.deliver_stored (code : Code) (good : Bool) (ds : List Int) (s : State)
    (h : (s.sinkSet .line).isEmpty = false) (hf : s.freeEntries ≠ 0) :
    (s.deliver code good ds).store.entries = s.store.entries ++ [s.lineEntry code good] ∧
      (s.deliver code good ds).store.gap = 0 ∧
      (s.store.armed = true ∧ s.cfg .storeHighWater ≤ (s.store.entries ++ [s.lineEntry code good]).length →
        .store (s.store.entries ++ [s.lineEntry code good]).length 0 ((s.shelved (s.lineChar code good)).lag .print)
          ((s.shelved (s.lineChar code good)).lag .punch) ((s.shelved (s.lineChar code good)).lag .capture)
          ∈ (s.deliver code good ds).link.notices) ∧
      (s.store.cursors.capture ≤ s.store.entries.length →
        (s.deliver code good ds).store = (s.shelved (s.lineChar code good)).gathered.store ∧
          (s.deliver code good ds).link.capture = (s.shelved (s.lineChar code good)).gathered.link.capture) ∧
      (s.deliver code good ds).essence.counts =
        s.station.record.map fun r => (bump r.received, bump r.storedLine, r.unroutedLine, r.lost) := by
  have hl := s.deliver_later code good ds
  have hr : s.routed code good ds = (s.beforeRouting code good ds).append (s.lineChar code good) :=
    s.routed_stored code good ds h hf
  have hstore : (s.beforeRouting code good ds).store = s.store := by rw [State.beforeRouting_frame]
  have hcfg : (s.beforeRouting code good ds).cfg .storeHighWater = s.cfg .storeHighWater := by
    rw [State.beforeRouting_frame]; rfl
  have hwith :
    (s.beforeRouting code good ds).storeWith (s.lineChar code good) = s.storeWith (s.lineChar code good) := by
    unfold State.storeWith; rw [hstore]
  obtain ⟨he, hg, hn, hrec, -, hc⟩ := (s.beforeRouting code good ds).append_shows (s.lineChar code good)
  obtain ⟨hs1, hs2⟩ := s.beforeRouting_shelved code good ds (s.lineChar code good)
  rw [← hr] at he hg hn hrec hc
  rw [hwith] at he hn
  refine ⟨?entries, ?gap, fun ha => ?notice, fun hcur => ?gathered, ?counts⟩
  case entries => rw [hl.store, he]; rfl
  case gap => rw [hl.store, hg]
  case notice =>
    refine hl.notices _ ?_ (show 6 ≠ 5 by decide) (show 6 ≠ 7 by decide) (show 6 ≠ 8 by decide)
    rw [hn]
    exact State.store_mem_noticesAfter (s.storeWith (s.lineChar code good)) _ (by rw [hcfg]; exact ha)
  case gathered =>
    obtain ⟨hc1, hc2⟩ := hc (by rw [hstore]; exact hcur)
    exact ⟨hl.store.trans (hc1.trans hs1), hl.capture.trans (hc2.trans hs2)⟩
  case counts =>
    rw [hl.counts, ← s.beforeRouting_counted code good ds fun c => (c.1, bump c.2.1, c.2.2.1, c.2.2.2),
      State.counts_eq, hrec, Option.map_map]
    show _ = ((s.beforeRouting code good ds).station.record.map CallRecord.lineCounts).map _
    rw [Option.map_map]
    rfl

/-- Settles O14: the routing's three cases, and nothing after it changes what it leaves. -/
theorem deliveredCharacterIsRouted : Obligations.DeliveredCharacterIsRouted := by
  intro s line code good h
  obtain ⟨ds, hd⟩ := State.characterDelivered_eq h
  refine exec_event_exists (.characterDelivered line) s _ rfl ?_
  rw [show event (.characterDelivered line) s = s.deliver code good ds from hd]
  simp only [← bump_eq_counted]
  by_cases he : (s.sinkSet .line).isEmpty = true
  · rw [if_pos he]
    exact s.deliver_unrouted code good ds he
  · rw [if_neg he]
    by_cases hf : s.freeEntries = 0
    · rw [if_pos hf]
      exact s.deliver_lost code good ds (Bool.eq_false_iff.2 he) hf
    · rw [if_neg hf]
      exact s.deliver_stored code good ds (Bool.eq_false_iff.2 he) hf

/-! ## What the routing leaves of the record, the faults and the notices -/

theorem CallRecord.stored_rest (src : Source) (r : CallRecord) : (r.stored src).rest = r.rest := by
  unfold CallRecord.stored
  split <;> rfl

/-- The routing changes the counts of the record alone (R80). -/
theorem State.routeLine_rest (code : Code) (sh : Shift) (e : TransEntry) (m : Bool) (s : State) :
    (s.routeLine code sh e m).station.record.map CallRecord.rest = s.station.record.map CallRecord.rest := by
  unfold State.routeLine
  dsimp only
  split
  · show (s.station.record.map _).map _ = _
    rw [Option.map_map]
    rfl
  · split
    · rw [State.latch_frame]
      show (s.station.record.map _).map _ = _
      rw [Option.map_map]
      rfl
    · obtain ⟨-, -, -, hr, -⟩ := s.append_shows (newEntry code sh e .line m (s.sinkSet .line))
      rw [hr, Option.map_map]
      exact congrArg (fun g => s.station.record.map g) (funext (CallRecord.stored_rest _))

theorem State.routeLine_faults {code : Code} {sh : Shift} {e : TransEntry} {m : Bool} {s : State} {k : Nat}
    (h : s.cond.faults.getLsbD k = true) : (s.routeLine code sh e m).cond.faults.getLsbD k = true := by
  unfold State.routeLine
  dsimp only
  split
  · exact h
  · split
    · exact State.latch_faults h
    · obtain ⟨-, -, -, -, hc, -⟩ := s.append_shows (newEntry code sh e .line m (s.sinkSet .line))
      rw [hc]
      exact h

theorem State.routeLine_notices {code : Code} {sh : Shift} {e : TransEntry} {m : Bool} {s : State} {n : Notice}
    (h6 : n.kind ≠ 6) (h7 : n.kind ≠ 7) (h : n ∈ s.link.notices) : n ∈ (s.routeLine code sh e m).link.notices := by
  unfold State.routeLine
  dsimp only
  split
  · exact h
  · split
    · exact State.latch_notices h7 h
    · obtain ⟨-, -, hn, -⟩ := s.append_shows (newEntry code sh e .line m (s.sinkSet .line))
      rw [hn]
      unfold State.noticesAfter
      split
      · exact mem_putNotice h6 h
      · exact h

/-! ## The calibrator (R26 to R29) -/

/-- The window sums after a good character, before the window is read (R26). -/
def State.measured (ds : List Int) (s : State) : State := s.modCal fun c => c.measure ds

theorem State.calibrate_of_measures (ds : List Int) (s : State)
    (h : s.cal.state = .measuring ∨ s.cal.state = .settled) :
    s.calibrate ds = if s.cfg .window ≤ s.cal.count + 1 then (s.measured ds).windowEnd else s.measured ds :=
  if_pos (s.cal.measures_iff.2 h)

/-- The bias of a window and the candidate's error (R27). -/
def Calibrator.bias (c : Calibrator) : Int := Int.tdiv c.sumS c.sumT

def State.windowErr (s : State) : Prop :=
  8 + s.cal.bias < 2 ∨ 14 < 8 + s.cal.bias ∨ s.cfg .distortionLimit < s.cal.maxM

theorem State.windowEnd_empty (s : State) (h : s.cal.sumT = 0) : s.windowEnd = s.modCal Calibrator.fresh := if_pos h

/-- A window that ends with sums is in error or applied (R27). -/
theorem State.windowEnd_error (s : State) (h : s.cal.sumT ≠ 0) (he : s.windowErr) :
    s.windowEnd = (s.modCal fun c => { c with lastBias := s.cal.bias }).windowError := by
  unfold State.windowEnd
  rw [if_neg h]
  exact if_pos he

theorem State.windowEnd_good (s : State) (h : s.cal.sumT ≠ 0) (he : ¬s.windowErr) :
    s.windowEnd = (s.modCal fun c => { c with lastBias := s.cal.bias }).windowGood (8 + s.cal.bias) s.cal.bias := by
  unfold State.windowEnd
  rw [if_neg h]
  exact if_neg he

theorem State.windowError_shows (s : State) :
    s.windowError.cal =
        { s.cal with
          sumT := 0, sumS := 0, maxM := 0, count := 0, state := .holdoff
          holdoff := some (288000 * s.cfg .holdoff) } ∧
      s.windowError.cond.faults.getLsbD Cond.calError = true ∧
      (s.windowError.station.record.map fun r => r.flags.calError) = s.station.record.map fun _ => true := by
  have hb : (s.latch Cond.calError).cond.faults.getLsbD Cond.calError = true := State.latch_bit _ s (by decide)
  refine ⟨?cal, hb, ?flag⟩
  case cal =>
    unfold State.windowError
    rw [State.latch_frame]
    rfl
  case flag =>
    unfold State.windowError
    rw [State.latch_frame]
    show (s.station.record.map _).map _ = _
    rw [Option.map_map]
    rfl

/-- The first window of mode FULL, and a drift in it (R27, R28). -/
def State.windowFirst (s : State) : Prop := s.cfg .calibrationMode = 2 ∧ s.cal.state = .measuring

def State.windowDrift (candidate : Int) (s : State) : Prop :=
  s.cfg .calibrationMode = 2 ∧ s.cal.state = .settled ∧ s.cfg .band < (candidate - (s.cal.p : Int)).natAbs

theorem State.windowGood_shows (candidate bias : Int) (s : State) :
    (s.windowFirst →
      (s.windowGood candidate bias).cal =
          { s.cal with sumT := 0, sumS := 0, maxM := 0, count := 0, p := candidate.toNat, state := .settled } ∧
        .calibration false candidate.toNat bias ∈ (s.windowGood candidate bias).link.notices) ∧
    (¬s.windowFirst → s.windowDrift candidate →
      (s.windowGood candidate bias).cal =
          { s.cal with sumT := 0, sumS := 0, maxM := 0, count := 0, p := candidate.toNat } ∧
        .calibration true candidate.toNat bias ∈ (s.windowGood candidate bias).link.notices) ∧
    (¬s.windowFirst → ¬s.windowDrift candidate →
      (s.windowGood candidate bias).cal = { s.cal with sumT := 0, sumS := 0, maxM := 0, count := 0 }) := by
  unfold State.windowGood
  dsimp only
  refine ⟨fun hf => ?first, fun hf hd => ?drift, fun hf hd => ?neither⟩
  case first =>
    unfold State.windowFirst at hf
    rw [if_pos hf]
    exact ⟨rfl, mem_putNotice_self _ _⟩
  case drift =>
    unfold State.windowFirst at hf
    unfold State.windowDrift at hd
    rw [if_neg hf, if_pos hd]
    exact ⟨rfl, mem_putNotice_self _ _⟩
  case neither =>
    unfold State.windowFirst at hf
    unfold State.windowDrift at hd
    rw [if_neg hf, if_neg hd]
    rfl

/-- A good character in CONNECTED up to its calibration: the record's count and the receive shift (R6, R80). -/
def State.heard (code : Code) (s : State) : State :=
  let s' := s.receiverHunt.modRecord fun r => { r with received := bump r.received }
  s'.modRx fun r => { r with shift := s'.receiveShiftAfter (s.entryAt s.rx.shift code) }

theorem State.beforeRouting_connected (code : Code) (ds : List Int) (s : State) (h : s.call.state = .connected) :
    s.beforeRouting code true ds = ((s.heard code).calibrate ds).matchProgress true (s.entryAt s.rx.shift code) := by
  unfold State.beforeRouting
  simp only [h, beq_self_eq_true, Bool.and_self, if_true]
  rfl

/-- The calibrator after a delivery that completes no sequence entry is the one before the routing. -/
theorem State.deliver_cal (code : Code) (ds : List Int) (s : State) (h : s.call.state = .connected)
    (hd : s.completions (s.translated code) = []) :
    (s.deliver code true ds).cal = ((s.heard code).calibrate ds).cal := by
  have hc : s.completed code true = [] := by
    unfold State.completed
    rw [h]
    exact hd
  rw [State.deliver_eq, hc, List.foldl_nil, State.afterRouting_frame, State.routeLine_frame,
    State.beforeRouting_connected code ds s h]
  rfl

theorem State.deliver_faults (code : Code) (ds : List Int) (s : State) (k : Nat) (h : s.call.state = .connected)
    (hk : ((s.heard code).calibrate ds).cond.faults.getLsbD k = true) :
    (s.deliver code true ds).cond.faults.getLsbD k = true := by
  refine (s.deliver_later code true ds).faults k (State.routeLine_faults ?_)
  rw [State.beforeRouting_connected code ds s h]
  exact hk

theorem State.deliver_flags (code : Code) (ds : List Int) (s : State) (h : s.call.state = .connected) :
    ((s.deliver code true ds).station.record.map fun r => r.flags) =
      ((s.heard code).calibrate ds).station.record.map fun r => r.flags := by
  have hr := congrArg (Option.map fun x => x.2.2.2.2)
    ((s.beforeRouting code true ds).routeLine_rest code s.rx.shift (s.entryAt s.rx.shift code) (!true))
  rw [Option.map_map, Option.map_map] at hr
  refine (s.deliver_later code true ds).flags.trans (hr.trans ?_)
  rw [State.beforeRouting_connected code ds s h]
  rfl

theorem State.deliver_notices (code : Code) (ds : List Int) (s : State) (n : Notice) (h : s.call.state = .connected)
    (hk : n.kind = 11) (hn : n ∈ ((s.heard code).calibrate ds).link.notices) :
    n ∈ (s.deliver code true ds).link.notices := by
  refine (s.deliver_later code true ds).notices n (State.routeLine_notices ?_ ?_ ?_) ?_ ?_ ?_
  case refine_3 =>
    rw [State.beforeRouting_connected code ds s h]
    exact hn
  all_goals
    rw [hk]
    decide

/-- Settles O17: the calibrator by the end of the window, the fault and the notice by what stays after it. -/
theorem calibratorAfterAGoodCharacter : Obligations.CalibratorAfterAGoodCharacter := by
  intro s line code hf h hc hm hd
  refine exec_event_exists (.characterDelivered line) s _ rfl ?_
  rw [show event (.characterDelivered line) s = _ from State.characterDelivered_assemble hf h]
  generalize displacementsOf line (sampleLevels s.rx.samplePoint line) = ds
  let M := (s.heard code).measured ds
  have hcal := s.deliver_cal code ds hc hd
  have hfault := s.deliver_faults code ds Cond.calError hc
  have hflag := congrArg (Option.map RecordFlags.calError) (s.deliver_flags code ds hc)
  have hnote :=
    s.deliver_notices code ds (.calibration (s.cal.state == .settled) (8 + M.cal.bias).toNat M.cal.bias) hc rfl
  have hmeasure : (s.heard code).calibrate ds = if s.cfg .window ≤ s.cal.count + 1 then M.windowEnd else M :=
    (s.heard code).calibrate_of_measures ds hm
  by_cases hw : s.cfg .window ≤ s.cal.count + 1
  case neg =>
    rw [if_neg hw] at hmeasure
    rw [hmeasure] at hcal
    refine ⟨hcal.trans (if_pos (by omega)).symm, fun he => absurd he.1 hw, fun he => absurd he.1 hw⟩
  rw [if_pos hw] at hmeasure
  rw [hmeasure] at hcal hfault hflag hnote
  rw [if_neg (show ¬s.cal.count + 1 < s.cfg .window by omega)]
  by_cases hT : s.cal.sumT + ds.length = 0
  case pos =>
    rw [if_pos hT]
    exact ⟨hcal.trans (congrArg State.cal (M.windowEnd_empty hT)), fun he => absurd hT he.2, fun he => absurd hT he.2⟩
  rw [if_neg hT]
  by_cases he : M.windowErr
  case pos =>
    have hE := M.windowEnd_error hT he
    obtain ⟨hc1, hf1, hfl1⟩ := (M.modCal fun c => { c with lastBias := M.cal.bias }).windowError_shows
    rw [hE] at hcal hfault hflag
    refine ⟨(hcal.trans hc1).trans (if_pos he).symm, fun _ _ => ⟨hfault hf1, ?_⟩, fun _ hn => absurd he hn⟩
    rw [Option.map_map, Option.map_map] at hflag
    refine hflag.trans (hfl1.trans ?_)
    show (s.station.record.map _).map _ = _
    rw [Option.map_map]
    rfl
  case neg =>
    have hG := M.windowEnd_good hT he
    obtain ⟨hfirst, hdrift, hneither⟩ :=
      (M.modCal fun c => { c with lastBias := M.cal.bias }).windowGood_shows (8 + M.cal.bias) M.cal.bias
    rw [hG] at hcal hnote
    refine ⟨hcal.trans (Eq.trans ?_ (if_neg he).symm), fun _ h => absurd h he, fun _ _ hfd => hnote ?_⟩
    · by_cases hf : s.cfg .calibrationMode = 2 ∧ s.cal.state = .measuring
      · exact (hfirst hf).1.trans (if_pos hf).symm
      · rw [if_neg hf]
        by_cases hdr : s.cfg .calibrationMode = 2 ∧ s.cal.state = .settled ∧
            s.cfg .band < ((8 + M.cal.bias) - (s.cal.p : Int)).natAbs
        · exact (hdrift hf hdr).1.trans (if_pos hdr).symm
        · exact (hneither hf hdr).trans (if_neg hdr).symm
    · by_cases hf : s.cfg .calibrationMode = 2 ∧ s.cal.state = .measuring
      · rw [hf.2]
        exact (hfirst hf).2
      · obtain ⟨h1, h2, h3⟩ := hfd.resolve_left hf
        rw [h2]
        exact (hdrift hf ⟨h1, h2, h3⟩).2

/-! ## What the record keeps of itself -/

/-- A change of the record, seen through what it keeps. -/
theorem State.modRecord_view {β : Type} (f : CallRecord → CallRecord) (g : CallRecord → β) (s : State)
    (h : ∀ r, g (f r) = g r) : (s.modRecord f).station.record.map g = s.station.record.map g := by
  show (s.station.record.map f).map g = _
  rw [Option.map_map]
  exact congrArg (fun k => s.station.record.map k) (funext h)

/-- The calibrator changes the flags of the record alone. -/
theorem State.calibrate_record {β : Type} (g : CallRecord → β) (hg : ∀ r f, g { r with flags := f } = g r)
    (ds : List Int)
    (s : State) : (s.calibrate ds).station.record.map g = s.station.record.map g := by
  have herr (u : State) : u.windowError.station.record.map g = u.station.record.map g := by
    unfold State.windowError
    rw [State.latch_frame]
    exact State.modRecord_view _ g _ fun r => hg r _
  have hgood (u : State) (c b : Int) : (u.windowGood c b).station.record.map g = u.station.record.map g := by
    unfold State.windowGood
    dsimp only
    (repeat' split) <;> rfl
  unfold State.calibrate State.windowEnd
  dsimp only
  (repeat' split)
  · rfl
  · exact herr _
  · exact hgood _ _ _
  · rfl
  · rfl

/-- Up to its routing a character changes of the record the count of what was received, and the flags. -/
theorem State.beforeRouting_record {β : Type} (g : CallRecord → β) (hg : ∀ r f, g { r with flags := f } = g r)
    (hr : ∀ r n, g { r with received := n } = g r) (code : Code) (good : Bool) (ds : List Int) (s : State) :
    (s.beforeRouting code good ds).station.record.map g = s.station.record.map g := by
  have hm (u : State) (e : TransEntry) : (u.matchProgress good e).station = u.station := by
    unfold State.matchProgress
    split <;> rfl
  have hs : (s.receiverHunt.modRecord fun r => { r with received := bump r.received }).station.record.map g
      = s.station.record.map g := State.modRecord_view _ g s.receiverHunt fun r => hr r _
  have hif (b : Bool) (f : State → State) (u : State)
      (h : ∀ u : State, (f u).station.record.map g = u.station.record.map g) :
      (if b then f u else u).station.record.map g = u.station.record.map g := by
    split
    · exact h u
    · rfl
  unfold State.beforeRouting
  dsimp only
  rw [hif _ (State.matchProgress good _) _ fun u => by rw [hm],
    hif _ (State.calibrate ds) _ (State.calibrate_record g hg ds)]
  cases good <;> exact hs

/-! ## The identity-capture window (R111) -/

/-- What a delivered character appends to the remote identity (R111). -/
def State.identityChar (s : State) (good : Bool) (e : TransEntry) : Option IChar :=
  if good = false then some (BitVec.ofNat 7 (s.cfg .substituteSymbol))
  else if e.cls = .print ∨ e.cls = .space then some e.char
  else none

/-- The window at a delivered character: the identity, the count and the gap timer (R111, R112). -/
theorem State.captureIdentity_shows (good : Bool) (e : TransEntry) (s : State) (n : Nat)
    (h : s.answer.window = some n) :
    ((s.captureIdentity good e).station.record.map fun r => r.remoteIdentity) =
        (s.station.record.map fun r => r.remoteIdentity.map fun id => id ++ (s.identityChar good e).toList) ∧
      (s.captureIdentity good e).answer.window =
        (if ((s.identityChar good e).isSome = true ∧ 20 ≤ n + 1) ∨ (good = true ∧ e.cls = .lf) then none
        else if (s.identityChar good e).isSome = true then some (n + 1) else some n) ∧
      (s.captureIdentity good e).answer.gapTimer =
        (if ((s.identityChar good e).isSome = true ∧ 20 ≤ n + 1) ∨ (good = true ∧ e.cls = .lf) then none
        else some (288000 * s.cfg .identityCaptureGap)) := by
  have happ (u : State) (c : IChar) :
      ((u.appendIdentity c n).station.record.map fun r => r.remoteIdentity) =
          (u.station.record.map fun r => r.remoteIdentity.map fun id => id ++ [c]) ∧
        (u.appendIdentity c n).answer.window = (if 20 ≤ n + 1 then none else some (n + 1)) ∧
        (u.appendIdentity c n).answer.gapTimer = (if 20 ≤ n + 1 then none else u.answer.gapTimer) := by
    unfold State.appendIdentity
    dsimp only
    by_cases hn : 20 ≤ n + 1
    · simp [hn, State.closeWindow, State.modAnswer, State.modRecord, State.modStation, Function.comp_def]
    · simp [hn, State.modAnswer, State.modRecord, State.modStation, Function.comp_def]
  have hnone : (s.station.record.map fun r => r.remoteIdentity)
      = s.station.record.map fun r => r.remoteIdentity.map fun id => id ++ [] := by
    simp
  unfold State.captureIdentity State.identityChar
  rw [h]
  dsimp only
  cases good with
  | false =>
    simpa [startSec, secUnits, State.cfg] using
      happ (s.modAnswer fun a => { a with gapTimer := startSec (s.cfg .identityCaptureGap) })
        (BitVec.ofNat 7 (s.cfg .substituteSymbol))
  | true =>
    cases hc : e.cls
    case print | space =>
      simpa [startSec, secUnits] using
        happ (s.modAnswer fun a => { a with gapTimer := startSec (s.cfg .identityCaptureGap) }) e.char
    case lf => simp [State.closeWindow, State.modAnswer]
    all_goals simp [State.modAnswer, h, startSec, secUnits]

/-- The record's identity is not what a completed sequence acts on. -/
theorem State.complete1_identity (s : State) (x : Nat × SeqEntry) :
    ((s.complete1 x).station.record.map fun r => r.remoteIdentity) =
      s.station.record.map fun r => r.remoteIdentity := by
  have hclear (o : CallOutcome) : ((s.localClearTaken o).station.record.map fun r => r.remoteIdentity)
      = s.station.record.map fun r => r.remoteIdentity := by
    have hend : ((s.ending o).station.record.map fun r => r.remoteIdentity)
        = s.station.record.map fun r => r.remoteIdentity := by
      rw [← State.setOutcome_eq]
      exact State.modRecord_view _ _ s fun _ => rfl
    unfold State.localClearTaken
    dsimp only
    split
    · rfl
    · split
      · exact hend
      · refine Eq.trans ?_ hend
        show (((s.ending o).station.record.map _).map _) = _
        rw [Option.map_map]
        refine congrArg (fun k => (s.ending o).station.record.map k) (funext fun r => ?_)
        dsimp only [Function.comp_apply]
        split <;> rfl
  have hact : ((s.actOn x.2.action).station.record.map fun r => r.remoteIdentity)
      = s.station.record.map fun r => r.remoteIdentity := by
    cases x.2.action with
    | endOfMessage => exact State.modRecord_view _ _ s fun _ => rfl
    | clear =>
      show ((if s.station.mode = .unattended then s.beginLocalClear .sequenceClear else s).station.record.map _) = _
      split
      · rw [State.beginLocalClear_cases _ _ rfl]
        split
        · exact hclear _
        · rfl
      · rfl
    | _ => rfl
  unfold State.complete1
  dsimp only
  split <;> exact hact

/-- The answerback unit's window is not what an answerback request acts on. -/
theorem State.answerbackRequest_window (s : State) :
    s.answerbackRequest.answer.window = s.answer.window ∧ s.answerbackRequest.answer.gapTimer = s.answer.gapTimer ∧
      s.answerbackRequest.station = s.station := by
  unfold State.answerbackRequest
  split
  · exact ⟨rfl, rfl, rfl⟩
  · split
    · rw [State.latch_frame]
      exact ⟨rfl, rfl, rfl⟩
    · split <;> exact ⟨rfl, rfl, rfl⟩

/-- After the routing the window is that of `captureIdentity` (R21, R111). -/
theorem State.afterRouting_window (good : Bool) (e : TransEntry) (s : State) :
    (s.afterRouting true good e).answer.window = (s.restartIdle.captureIdentity good e).answer.window ∧
      (s.afterRouting true good e).answer.gapTimer = (s.restartIdle.captureIdentity good e).answer.gapTimer ∧
      (s.afterRouting true good e).station = (s.restartIdle.captureIdentity good e).station := by
  unfold State.afterRouting
  dsimp only
  rw [if_pos rfl]
  split
  · exact State.answerbackRequest_window _
  · exact ⟨rfl, rfl, rfl⟩

theorem State.restartIdle_frame (s : State) :
    s.restartIdle = { s with call := { s.call with idleClear := s.restartIdle.call.idleClear } } := by
  unfold State.restartIdle
  split <;> rfl

/-- The routed character meets the window and the record's identity as they stood. -/
theorem State.routed_answer (code : Code) (good : Bool) (ds : List Int) (s : State) :
    (s.routed code good ds).answer = s.answer ∧ (s.routed code good ds).settings = s.settings ∧
      ((s.routed code good ds).station.record.map fun r => r.remoteIdentity) =
        s.station.record.map fun r => r.remoteIdentity := by
  refine ⟨?_, ?_, ?_⟩
  · unfold State.routed
    rw [State.routeLine_frame, State.beforeRouting_frame]
  · unfold State.routed
    rw [State.routeLine_frame, State.beforeRouting_frame]
  · have hr := congrArg (Option.map fun x => x.2.2.1)
      ((s.beforeRouting code good ds).routeLine_rest code s.rx.shift (s.entryAt s.rx.shift code) (!good))
    rw [Option.map_map, Option.map_map] at hr
    exact hr.trans
      (State.beforeRouting_record (fun r => r.remoteIdentity) (fun _ _ => rfl) (fun _ _ => rfl) code good ds s)

/-- Settles O19: the window by `captureIdentity_shows`, and what a completed sequence does changes no identity. -/
theorem identityCaptureWindow : Obligations.IdentityCaptureWindow := by
  intro s
  refine ⟨fun h => exec_event .identityCaptureGapExpiry s _ rfl (if_pos h), fun line code good n h hc hw => ?_⟩
  obtain ⟨ds, hd⟩ := State.characterDelivered_eq h
  refine exec_event_exists (.characterDelivered line) s _ rfl ?_
  rw [show event (.characterDelivered line) s = s.deliver code good ds from hd]
  obtain ⟨hans, hset, hid⟩ := s.routed_answer code good ds
  have hframe := (s.routed code good ds).restartIdle_frame
  have hcfg (k : Setting) : (s.routed code good ds).restartIdle.cfg k = s.cfg k := by
    unfold State.cfg
    rw [hframe]
    exact congrArg (fun l => l.getD k.index 0) hset
  have hchar : (s.routed code good ds).restartIdle.identityChar good (s.translated code)
      = s.identityChar good (s.translated code) := by
    unfold State.identityChar
    rw [hcfg]
  obtain ⟨h1, h2, h3⟩ := (s.routed code good ds).restartIdle.captureIdentity_shows good (s.translated code) n
    (by rw [hframe]; exact (congrArg Answerback.window hans).trans hw)
  obtain ⟨g1, g2, g3⟩ := (s.routed code good ds).afterRouting_window good (s.translated code)
  have hdel : s.deliver code good ds = (s.completed code good).foldl State.complete1
      ((s.routed code good ds).afterRouting true good (s.translated code)) := by
    have := s.deliver_eq code good ds
    rw [hc] at this
    exact this
  rw [hchar] at h1 h2 h3
  rw [hcfg] at h3
  refine ⟨?identity, fun hn => ?window⟩
  case identity =>
    show ((s.deliver code good ds).station.record.map fun r => r.remoteIdentity) = _
    rw [hdel, foldl_keeps (fun u : State => u.station.record.map fun r => r.remoteIdentity) State.complete1
      State.complete1_identity, g3, h1, hframe]
    show ((s.routed code good ds).station.record.map _) = _
    have := congrArg (Option.map fun o => o.map fun id => id ++ (s.identityChar good (s.translated code)).toList) hid
    rw [Option.map_map, Option.map_map] at this
    exact this
  case window =>
    have hnil : s.completed code good = [] := by
      unfold State.completed
      rcases hn with hn | hn
      · rw [hn]; rfl
      · rw [show s.completions (s.entryAt s.rx.shift code) = [] from hn]; exact ite_self _
    show (s.deliver code good ds).answer.window = _ ∧ (s.deliver code good ds).answer.gapTimer = _
    rw [hdel, hnil, List.foldl_nil, g1, g2]
    exact ⟨h2, h3⟩

/-! ## The matcher's progress (R98, R99) -/

/-- The progress of an entry after a good character (R99). -/
theorem matchEntry_progress (m : Mode) (ch : TransEntry) (e : SeqEntry) (k : Nat) :
    (matchEntry m ch e k).1 =
      if e.length = 0 ∨ e.inMode m = false then k
      else if ch.cls = .ltrs ∨ ch.cls = .figs ∨ ch.cls = .null then k
      else if e.pattern[k]? = some ch.char then (if e.length ≤ k + 1 then 0 else k + 1)
      else if e.pattern[0]? = some ch.char then (if e.length ≤ 1 then 0 else 1)
      else 0 := by
  unfold matchEntry
  by_cases ha : e.length = 0 ∨ e.inMode m = false
  · rw [if_pos ha, if_pos]
    rcases ha with ha | ha <;> simp [SeqEntry.active, ha]
  · rw [if_neg ha]
    have hact : e.active m = true := by
      rw [SeqEntry.active_iff]
      exact ⟨fun h => ha (Or.inl h), Bool.eq_true_of_not_eq_false fun h => ha (Or.inr h)⟩
    by_cases ht : ch.cls = .ltrs ∨ ch.cls = .figs ∨ ch.cls = .null
    · rw [if_pos ht, if_pos]
      rcases ht with ht | ht | ht <;> simp [CharClass.transparent, ht]
    · rw [if_neg ht, if_neg]
      · dsimp only
        by_cases h1 : e.pattern[k]? = some ch.char
        · simp only [if_pos h1]; split <;> rfl
        · by_cases h2 : e.pattern[0]? = some ch.char
          · simp only [if_neg h1, if_pos h2]; split <;> rfl
          · simp only [if_neg h1, if_neg h2]; split <;> rfl
      · simp only [hact, Bool.not_true, Bool.false_or, CharClass.transparent, Bool.or_eq_true, beq_iff_eq, not_or]
        exact ⟨⟨fun h => ht (Or.inl h), fun h => ht (Or.inr (Or.inl h))⟩, fun h => ht (Or.inr (Or.inr h))⟩

/-- The completion of an entry by a good character (R99). -/
theorem matchEntry_completes (m : Mode) (ch : TransEntry) (e : SeqEntry) (k : Nat) :
    (matchEntry m ch e k).2 = true ↔
      e.length ≠ 0 ∧ e.inMode m = true ∧ ch.cls ≠ .ltrs ∧ ch.cls ≠ .figs ∧ ch.cls ≠ .null ∧
        (if e.pattern[k]? = some ch.char then e.length ≤ k + 1 else e.pattern[0]? = some ch.char ∧ e.length ≤ 1) := by
  have hguard : (!e.active m || ch.cls.transparent) = true ↔
      ¬(e.length ≠ 0 ∧ e.inMode m = true ∧ ch.cls ≠ .ltrs ∧ ch.cls ≠ .figs ∧ ch.cls ≠ .null) := by
    simp only [SeqEntry.active, CharClass.transparent, Bool.or_eq_true, Bool.not_eq_true', Bool.and_eq_false_iff,
      bne_eq_false_iff_eq, beq_iff_eq]
    have := Bool.eq_false_or_eq_true (e.inMode m)
    grind
  unfold matchEntry
  by_cases hg : (!e.active m || ch.cls.transparent) = true
  · rw [if_pos hg]
    constructor
    · intro h; cases h
    · rintro ⟨h1, h2, h3, h4, h5, -⟩
      exact absurd ⟨h1, h2, h3, h4, h5⟩ (hguard.1 hg)
  · rw [if_neg hg]
    obtain ⟨h1, h2, h3, h4, h5⟩ := not_not.1 fun h => hg (hguard.2 h)
    have hpos : ¬e.length ≤ 0 := by omega
    simp only [ne_eq, h1, h2, h3, h4, h5, not_false_eq_true, true_and]
    by_cases hk : e.pattern[k]? = some ch.char
    · simp only [if_pos hk]; split <;> simp [*]
    · by_cases h0 : e.pattern[0]? = some ch.char
      · simp only [if_neg hk, if_pos h0]; split <;> simp [*]
      · simp only [if_neg hk, if_neg h0, if_neg hpos]
        simp [h0]

theorem State.matchAll_getElem? (s : State) (ch : TransEntry) (n : Nat) (e : SeqEntry) (k : Nat)
    (he : s.matcher.table[n]? = some e) (hk : s.matcher.progress[n]? = some k) :
    (s.matchAll ch)[n]? = some (matchEntry s.station.mode ch e k) := by
  unfold State.matchAll
  rw [List.getElem?_zipWith, he, hk]

/-- The progress list after a character delivered in CONNECTED (R98, R99). -/
theorem State.deliver_progress (code : Code) (good : Bool) (ds : List Int) (s : State) (h : s.call.state = .connected) :
    (s.deliver code good ds).matcher.progress =
      if good = false then s.matcher.progress.map fun _ => 0 else (s.matchAll (s.translated code)).map (·.1) := by
  have hm (u : State) (hu : u.matcher = s.matcher) (hs : u.station.mode = s.station.mode) :
      (u.matchProgress good (s.translated code)).matcher.progress =
        if good = false then s.matcher.progress.map fun _ => 0 else (s.matchAll (s.translated code)).map (·.1) := by
    unfold State.matchProgress
    cases good with
    | false => rw [if_neg (by simp), if_pos rfl, ← hu]; rfl
    | true =>
      rw [if_pos rfl, if_neg (by simp)]
      show ((u.matchAll (s.translated code)).map (·.1)) = _
      unfold State.matchAll
      rw [hu, hs]
  rw [(s.deliver_later code good ds).matcher]
  unfold State.routed
  rw [State.routeLine_frame]
  show (s.beforeRouting code good ds).matcher.progress = _
  unfold State.beforeRouting
  simp only [h, beq_self_eq_true, Bool.and_true, if_true]
  refine hm _ ?_ ?_
  all_goals cases good
  · rfl
  · simp only [if_true]; rw [State.calibrate_frame]; rfl
  · rfl
  · simp only [if_true]; rw [State.calibrate_frame]; rfl

/-! ## The entries that a good character completes (R99, R100) -/

/-- A numbered list is numbered in ascending order. -/
theorem range_zip_pairwise {α : Type} (l : List α) :
    ((List.range l.length).zip l).Pairwise fun x y => x.1 < y.1 := by
  have h : (((List.range l.length).zip l).map Prod.fst).Pairwise (· < ·) := by
    rw [List.map_fst_zip (by simp)]
    exact List.pairwise_lt_range
  exact List.pairwise_map.1 h

theorem State.matchAll_length (s : State) (ch : TransEntry) (ht : s.matcher.table.length = 16)
    (hp : s.matcher.progress.length = 16) : (s.matchAll ch).length = 16 := by
  unfold State.matchAll
  rw [List.length_zipWith, ht, hp]
  rfl

/-- The completed entries, numbered (R100). -/
theorem State.completions_eq (s : State) (ch : TransEntry) (ht : s.matcher.table.length = 16)
    (hp : s.matcher.progress.length = 16) :
    s.completions ch =
      ((List.range (s.matcher.table.zip (s.matchAll ch)).length).zip (s.matcher.table.zip (s.matchAll ch))).filterMap
        fun x => if x.2.2.2 then some (x.1, x.2.1) else none := by
  have hl : (s.matcher.table.zip (s.matchAll ch)).length = 16 := by
    rw [List.length_zip, ht, s.matchAll_length ch ht hp]
    rfl
  rw [hl]
  rfl

theorem State.mem_completions (s : State) (ch : TransEntry) (ht : s.matcher.table.length = 16)
    (hp : s.matcher.progress.length = 16) (n : Nat) (e : SeqEntry) :
    (n, e) ∈ s.completions ch ↔
      s.matcher.table[n]? = some e ∧ e.length ≠ 0 ∧ e.inMode s.station.mode = true ∧
        ch.cls ≠ .ltrs ∧ ch.cls ≠ .figs ∧ ch.cls ≠ .null ∧
        ∃ k, s.matcher.progress[n]? = some k ∧
          (if e.pattern[k]? = some ch.char then e.length ≤ k + 1
          else e.pattern[0]? = some ch.char ∧ e.length ≤ 1) := by
  rw [State.completions_eq s ch ht hp, List.mem_filterMap]
  constructor
  · rintro ⟨⟨i, f, c⟩, hm, hs⟩
    have hz := (mem_range_zip _ i (f, c)).1 hm
    obtain ⟨hf, hc⟩ := List.getElem?_zip_eq_some.1 hz
    cases hc2 : c.2 with
    | false => simp [hc2] at hs
    | true =>
      simp only [hc2, if_true, Option.some.injEq, Prod.mk.injEq] at hs
      obtain ⟨rfl, rfl⟩ := hs
      obtain ⟨hi, -⟩ := List.getElem?_eq_some_iff.1 hf
      have hk : s.matcher.progress[i]? = some (s.matcher.progress[i]'(by omega)) := List.getElem?_eq_getElem _
      rw [s.matchAll_getElem? ch i f _ hf hk] at hc
      cases hc
      obtain ⟨h1, h2, h3, h4, h5, h6⟩ := (matchEntry_completes _ _ _ _).1 hc2
      exact ⟨hf, h1, h2, h3, h4, h5, _, hk, h6⟩
  · rintro ⟨hf, h1, h2, h3, h4, h5, k, hk, h6⟩
    refine ⟨(n, e, matchEntry s.station.mode ch e k), (mem_range_zip _ n _).2 ?_, ?_⟩
    · exact List.getElem?_zip_eq_some.2 ⟨hf, s.matchAll_getElem? ch n e k hf hk⟩
    · simp only [(matchEntry_completes s.station.mode ch e k).2 ⟨h1, h2, h3, h4, h5, h6⟩, if_true]

theorem State.completions_pairwise (s : State) (ch : TransEntry) (ht : s.matcher.table.length = 16)
    (hp : s.matcher.progress.length = 16) : (s.completions ch).Pairwise fun x y => x.1 < y.1 := by
  rw [State.completions_eq s ch ht hp]
  refine (range_zip_pairwise _).filterMap _ fun x y hxy a ha b hb => ?_
  have hfst (z : Nat × SeqEntry × (Nat × Bool)) (c : Nat × SeqEntry)
      (h : (if z.2.2.2 then some (z.1, z.2.1) else none) = some c) : c.1 = z.1 := by
    split at h
    · cases h; rfl
    · cases h
  rw [hfst x a ha, hfst y b hb]
  exact hxy

/-! ## The actions of completed entries (R100, R102 to R104) -/

/-- What a local clear touches (R61, R62). -/
theorem State.localClearTaken_frame (o : CallOutcome) (s : State) :
    s.localClearTaken o =
      { s with
        rx := (s.localClearTaken o).rx, tx := (s.localClearTaken o).tx, call := (s.localClearTaken o).call
        cal := (s.localClearTaken o).cal, answer := (s.localClearTaken o).answer, kb := (s.localClearTaken o).kb
        link :=
          { s.link with
            send := (s.localClearTaken o).link.send, notices := (s.localClearTaken o).link.notices }
        station := { s.station with record := (s.localClearTaken o).station.record } } := by
  unfold State.localClearTaken State.cleared State.queuesEmptied State.ending
  dsimp only
  split
  · rfl
  · cases s.link.send.armed
    all_goals split <;> rfl

/-- A local clear changes of the record the outcome and the connected seconds. -/
theorem State.localClearTaken_record {β : Type} (g : CallRecord → β) (ho : ∀ r o, g { r with outcome := o } = g r)
    (hs : ∀ r n, g { r with connectedSeconds := n } = g r) (o : CallOutcome) (s : State) :
    (s.localClearTaken o).station.record.map g = s.station.record.map g := by
  have hend : (s.ending o).station.record.map g = s.station.record.map g := by
    rw [← State.setOutcome_eq]
    exact State.modRecord_view _ g s fun r => ho r _
  unfold State.localClearTaken
  dsimp only
  split
  · rfl
  · split
    · exact hend
    · refine Eq.trans ?_ hend
      show ((s.ending o).station.record.map _).map g = _
      rw [Option.map_map]
      refine congrArg (fun k => (s.ending o).station.record.map k) (funext fun r => ?_)
      dsimp only [Function.comp_apply]
      split
      · exact hs r _
      · rfl

/-- A CLEAR acts in UNATTENDED mode on a connected call (R104). -/
theorem State.actOn_clear (s : State) :
    s.actOn .clear =
      if s.station.mode = .unattended ∧ s.call.state = .connected then s.localClearTaken .sequenceClear else s := by
  show (if s.station.mode = .unattended then s.beginLocalClear .sequenceClear else s) = _
  rw [State.beginLocalClear_cases _ _ rfl]
  by_cases hm : s.station.mode = .unattended
  · by_cases hc : s.call.state = .connected
    · rw [if_pos hm, if_pos hc, if_pos ⟨hm, hc⟩]
    · rw [if_pos hm, if_neg hc, if_neg fun h => hc h.2]
  · rw [if_neg hm, if_neg fun h => hm h.1]

/-- A completed entry's notice touches the notices alone. -/
theorem State.complete1_frame (s : State) (x : Nat × SeqEntry) :
    s.complete1 x =
      { s.actOn x.2.action with
        link := { (s.actOn x.2.action).link with notices := (s.complete1 x).link.notices } } := by
  unfold State.complete1
  dsimp only
  split <;> rfl

theorem State.complete1_route (s : State) (x : Nat × SeqEntry) : (s.complete1 x).route = s.route.acted x.2.action := by
  rw [State.complete1_frame]
  show (s.actOn x.2.action).route = _
  cases x.2.action with
  | clear =>
    rw [State.actOn_clear]
    split
    · rw [State.localClearTaken_frame]; rfl
    · rfl
  | _ => rfl

theorem foldl_complete1_route : ∀ (l : List (Nat × SeqEntry)) (s : State),
    (l.foldl State.complete1 s).route = l.foldl (fun r x => r.acted x.2.action) s.route
  | [], _ => rfl
  | x :: l, s => (foldl_complete1_route l (s.complete1 x)).trans (by rw [State.complete1_route]; rfl)

theorem State.complete1_record {β : Type} (g : CallRecord → β) (ho : ∀ r o, g { r with outcome := o } = g r)
    (hs : ∀ r n, g { r with connectedSeconds := n } = g r) (s : State) (x : Nat × SeqEntry) :
    (s.complete1 x).station.record.map g =
      s.station.record.map fun r =>
        g (if x.2.action = .endOfMessage then { r with messages := bump r.messages } else r) := by
  rw [State.complete1_frame]
  show (s.actOn x.2.action).station.record.map g = _
  cases x.2.action with
  | clear =>
    rw [State.actOn_clear]
    split
    · exact State.localClearTaken_record g ho hs _ s
    · rfl
  | endOfMessage =>
    show (s.station.record.map _).map g = _
    rw [Option.map_map]
    rfl
  | _ => rfl

theorem foldl_complete1_messages : ∀ (l : List (Nat × SeqEntry)) (s : State),
    ((l.foldl State.complete1 s).station.record.map fun r => r.messages) =
      s.station.record.map fun r =>
        l.foldl (fun n x => if x.2.action = .endOfMessage then counted n else n) r.messages
  | [], _ => rfl
  | x :: l, s => by
    have h := s.complete1_record (fun r => r.messages) (fun _ _ => rfl) (fun _ _ => rfl) x
    have hf := congrArg (Option.map fun n =>
      l.foldl (fun n x => if x.2.action = .endOfMessage then counted n else n) n) h
    rw [Option.map_map, Option.map_map] at hf
    refine (foldl_complete1_messages l (s.complete1 x)).trans (hf.trans ?_)
    refine congrArg (fun k => s.station.record.map k) (funext fun r => ?_)
    simp only [Function.comp_apply, List.foldl_cons]
    by_cases hx : x.2.action = .endOfMessage
    · simp only [if_pos hx, bump_eq_counted]
    · simp only [if_neg hx]

theorem State.complete1_number (s : State) (x : Nat × SeqEntry) : (s.complete1 x).recordNumber = s.recordNumber := by
  have h := s.complete1_record (fun r => r.number) (fun _ _ => rfl) (fun _ _ => rfl) x
  unfold State.recordNumber
  rw [h]
  refine congrArg (fun o : Option Nat => o.getD 0) (congrArg (fun k => s.station.record.map k) (funext fun r => ?_))
  split <;> rfl

theorem State.complete1_mode (s : State) (x : Nat × SeqEntry) : (s.complete1 x).station.mode = s.station.mode :=
  congrArg Prod.fst (State.complete1_core x s)

/-! ## The SEQUENCE notice (R100, R103) -/

/-- A completed entry makes a SEQUENCE notice in a mode: its flag, the action NOTICE, or a CLEAR that is ignored. -/
def SeqEntry.noticed (m : Mode) (e : SeqEntry) : Prop :=
  e.noticeFlag = true ∨ e.action = .notice ∨ (e.action == .clear && m != .unattended) = true

theorem State.complete1_notice (s : State) (n : Nat) (e : SeqEntry) (h : e.noticed s.station.mode) :
    .sequence n e.action (!(e.action == .clear && s.station.mode != .unattended)) s.recordNumber
      ∈ (s.complete1 (n, e)).link.notices := by
  unfold State.complete1
  dsimp only
  rw [if_pos]
  · exact mem_putNotice_self _ _
  · rcases h with h | h | h <;> simp [h]

theorem State.mem_queuesEmptied (why : EndReason) (s : State) (n : Notice) (hn : n.kind ≠ 5) (h : n ∈ s.link.notices) :
    n ∈ (s.queuesEmptied why).link.notices := by
  unfold State.queuesEmptied
  dsimp only
  split
  · exact mem_putNotice hn h
  · exact h

theorem State.complete1_keeps (s : State) (x : Nat × SeqEntry) (n : Notice) (hx : ¬x.2.noticed s.station.mode)
    (hn : n.kind = 8) (h : n ∈ s.link.notices) : n ∈ (s.complete1 x).link.notices := by
  have hclear : n ∈ (s.localClearTaken .sequenceClear).link.notices := by
    unfold State.localClearTaken
    dsimp only
    split
    · exact h
    · have hq : n ∈ ((s.ending .sequenceClear).queuesEmptied .cleared).link.notices :=
        State.mem_queuesEmptied .cleared (s.ending .sequenceClear) n (by rw [hn]; decide) h
      split <;> exact hq
  have hact : n ∈ (s.actOn x.2.action).link.notices := by
    cases x.2.action with
    | clear =>
      rw [State.actOn_clear]
      split
      · exact hclear
      · exact h
    | _ => exact h
  unfold State.complete1
  dsimp only
  rw [if_neg]
  · exact hact
  · simp only [Bool.or_eq_true, beq_iff_eq]
    exact fun hb => hx (hb.elim (fun hb => hb.elim Or.inl fun h => Or.inr (Or.inl h)) fun h => Or.inr (Or.inr h))

theorem foldl_complete1_keeps (n : Notice) (hn : n.kind = 8) : ∀ (l : List (Nat × SeqEntry)) (s : State),
    (∀ x ∈ l, ¬x.2.noticed s.station.mode) → n ∈ s.link.notices → n ∈ (l.foldl State.complete1 s).link.notices
  | [], _, _, h => h
  | x :: l, s, hl, h =>
    foldl_complete1_keeps n hn l (s.complete1 x)
      (fun y hy => by rw [State.complete1_mode]; exact hl y (List.mem_cons_of_mem _ hy))
      (s.complete1_keeps x n (hl x List.mem_cons_self) hn h)

theorem foldl_complete1_notice (pre post : List (Nat × SeqEntry)) (n : Nat) (e : SeqEntry) (s : State)
    (he : e.noticed s.station.mode) (hp : ∀ x ∈ post, ¬x.2.noticed s.station.mode) :
    .sequence n e.action (!(e.action == .clear && s.station.mode != .unattended)) s.recordNumber
      ∈ ((pre ++ (n, e) :: post).foldl State.complete1 s).link.notices := by
  have hmode : (pre.foldl State.complete1 s).station.mode = s.station.mode :=
    foldl_keeps (fun u => u.station.mode) State.complete1 State.complete1_mode pre s
  have hnumber : (pre.foldl State.complete1 s).recordNumber = s.recordNumber :=
    foldl_keeps State.recordNumber State.complete1 State.complete1_number pre s
  rw [List.foldl_append, List.foldl_cons]
  refine foldl_complete1_keeps _ rfl post _ (fun x hx => ?_) ?_
  · rw [State.complete1_mode, hmode]
    exact hp x hx
  · have h := (pre.foldl State.complete1 s).complete1_notice n e (by rw [hmode]; exact he)
    rw [hmode, hnumber] at h
    exact h

/-! ## The CLEAR of a completed entry (R61, R62, R104) -/

/-- What a CLEAR acts on, and what decides how. -/
def State.clearView (s : State) :
    CallState × Bool × List IChar × SendChannel × Option (Option CallOutcome) × Transmitter :=
  (s.call.state, s.call.localClear, s.kb.queue, s.link.send, s.station.record.map (·.outcome), s.tx)

theorem State.complete1_clearView (s : State) (x : Nat × SeqEntry)
    (h : x.2.action ≠ .clear ∨ s.station.mode ≠ .unattended ∨ s.call.state ≠ .connected ∨ s.call.localClear = true) :
    (s.complete1 x).clearView = s.clearView := by
  rw [State.complete1_frame]
  show (s.actOn x.2.action).clearView = _
  cases hx : x.2.action with
  | clear =>
    rw [State.actOn_clear]
    split
    · rename_i hc
      have hl : s.call.localClear = true := by
        rcases h with h | h | h | h
        · exact absurd hx h
        · exact absurd hc.1 h
        · exact absurd hc.2 h
        · exact h
      unfold State.localClearTaken
      rw [if_pos hl]
    · rfl
  | endOfMessage =>
    unfold State.clearView
    show (_, _, _, _, (s.station.record.map _).map _, _) = _
    rw [Option.map_map]
    rfl
  | _ => rfl

/-- Where a CLEAR has nothing to act on, the completed entries leave the call as it is. -/
theorem foldl_complete1_clearView : ∀ (l : List (Nat × SeqEntry)) (s : State),
    ((∀ x ∈ l, x.2.action ≠ .clear) ∨ s.station.mode ≠ .unattended ∨ s.call.state ≠ .connected ∨
      s.call.localClear = true) → (l.foldl State.complete1 s).clearView = s.clearView
  | [], _, _ => rfl
  | x :: l, s, h => by
    have hx := s.complete1_clearView x (h.imp_left fun h => h x List.mem_cons_self)
    have hstate : (s.complete1 x).call.state = s.call.state := congrArg (fun v => v.1) hx
    have hlocal : (s.complete1 x).call.localClear = s.call.localClear := congrArg (fun v => v.2.1) hx
    refine (foldl_complete1_clearView l (s.complete1 x) ?_).trans hx
    rw [State.complete1_mode, hstate, hlocal]
    exact h.imp_left fun h y hy => h y (List.mem_cons_of_mem _ hy)

theorem State.inFlight_congr {s t : State} (h : t.tx = s.tx) : t.inFlight = s.inFlight := by
  unfold State.inFlight
  rw [h]

/-- The call after the first CLEAR (R61, R62). -/
def State.ClearedFrom (s t : State) : Prop :=
  (t.station.record.map (·.outcome)) =
      (s.station.record.map fun r => if r.outcome = none then some .sequenceClear else r.outcome) ∧
    t.call.state = (if s.inFlight = true then .connected else .clearing) ∧
    t.call.localClear = s.inFlight ∧ t.kb.queue = [] ∧ t.link.send.armed = false ∧ t.link.send.queue = []

theorem State.ClearedFrom.congr {s t u : State} (h : s.ClearedFrom t) (e : u.clearView = t.clearView) :
    s.ClearedFrom u := by
  simp only [State.clearView, Prod.mk.injEq] at e
  obtain ⟨e1, e2, e3, e4, e5, -⟩ := e
  unfold State.ClearedFrom
  rw [e1, e2, e3, e4, e5]
  exact h

theorem State.ClearedFrom.of_clearView {s s' t : State} (h : s'.ClearedFrom t) (e : s'.clearView = s.clearView) :
    s.ClearedFrom t := by
  simp only [State.clearView, Prod.mk.injEq] at e
  obtain ⟨-, -, -, -, e5, e6⟩ := e
  have hrec : (s'.station.record.map fun r => if r.outcome = none then some CallOutcome.sequenceClear else r.outcome) =
      s.station.record.map fun r => if r.outcome = none then some CallOutcome.sequenceClear else r.outcome := by
    have := congrArg (Option.map fun o => if o = none then some CallOutcome.sequenceClear else o) e5
    rw [Option.map_map, Option.map_map] at this
    exact this
  unfold State.ClearedFrom at *
  rw [← hrec, ← State.inFlight_congr e6]
  exact h

theorem State.localClearTaken_cleared (s : State) (h : s.call.state = .connected) (hl : s.call.localClear = false) :
    s.ClearedFrom (s.localClearTaken .sequenceClear) := by
  have hrec : ((s.ending .sequenceClear).station.record.map (·.outcome)) =
      s.station.record.map fun r => if r.outcome = none then some CallOutcome.sequenceClear else r.outcome := by
    show (s.station.record.map _).map _ = _
    rw [Option.map_map]
    refine congrArg (fun k => s.station.record.map k) (funext fun r => ?_)
    dsimp only [Function.comp_apply]
    split <;> rfl
  unfold State.localClearTaken
  dsimp only
  rw [if_neg (by simp [hl])]
  unfold State.ClearedFrom
  cases hi : s.inFlight with
  | true =>
    rw [if_pos rfl, if_pos rfl, ← hrec]
    unfold State.queuesEmptied
    refine ⟨rfl, h, rfl, rfl, ?_, ?_⟩
    · cases ha : s.link.send.armed <;> simp [State.ending, ha]
    · cases ha : s.link.send.armed <;> simp [State.ending, ha]
  | false =>
    rw [if_neg (by simp), if_neg (by simp), ← hrec]
    unfold State.cleared State.queuesEmptied
    refine ⟨?_, rfl, rfl, rfl, ?_, ?_⟩
    · show ((s.ending .sequenceClear).station.record.map _).map _ = _
      rw [Option.map_map]
      refine congrArg (fun k => (s.ending .sequenceClear).station.record.map k) (funext fun r => ?_)
      dsimp only [Function.comp_apply]
      split <;> rfl
    · cases ha : s.link.send.armed <;> simp [State.ending, ha]
    · cases ha : s.link.send.armed <;> simp [State.ending, ha]

theorem State.ClearedFrom.done {s t : State} (h : s.ClearedFrom t) :
    t.call.state ≠ .connected ∨ t.call.localClear = true := by
  obtain ⟨-, hs, hl, -⟩ := h
  cases hi : s.inFlight with
  | true => rw [hi] at hl; exact Or.inr hl
  | false =>
    rw [hi] at hs
    exact Or.inl (by rw [hs]; decide)

/-- The first CLEAR among the completed entries begins the local clear; a further one is absorbed (R61, R62). -/
theorem foldl_complete1_clears (l : List (Nat × SeqEntry)) : ∀ s : State, s.station.mode = .unattended →
    s.call.state = .connected → s.call.localClear = false → (∃ x ∈ l, x.2.action = .clear) →
    s.ClearedFrom (l.foldl State.complete1 s) := by
  induction l with
  | nil => rintro s - - - ⟨x, hx, -⟩; cases hx
  | cons x l ih =>
    intro s hm hc hl hx
    rw [List.foldl_cons]
    by_cases ha : x.2.action = .clear
    · have hcl : s.actOn x.2.action = s.localClearTaken .sequenceClear := by
        rw [ha, State.actOn_clear, if_pos ⟨hm, hc⟩]
      have hone : s.ClearedFrom (s.complete1 x) := by
        refine (s.localClearTaken_cleared hc hl).congr ?_
        rw [← hcl, State.complete1_frame]
        rfl
      exact hone.congr (foldl_complete1_clearView l _ (Or.inr (Or.inr hone.done)))
    · have hview := s.complete1_clearView x (Or.inl ha)
      have hstate : (s.complete1 x).call.state = s.call.state := congrArg (fun v => v.1) hview
      have hlocal : (s.complete1 x).call.localClear = s.call.localClear := congrArg (fun v => v.2.1) hview
      have hrest : ∃ y ∈ l, y.2.action = .clear := by
        obtain ⟨y, hy, hya⟩ := hx
        rcases List.mem_cons.1 hy with rfl | hy
        · exact absurd hya ha
        · exact ⟨y, hy, hya⟩
      have hih := ih (s.complete1 x) ((s.complete1_mode x).trans hm) (hstate.trans hc) (hlocal.trans hl) hrest
      exact hih.of_clearView hview

/-- A character in CONNECTED before the actions of the entries that it completes. -/
def State.heardOut (code : Code) (good : Bool) (ds : List Int) (s : State) : State :=
  (s.routed code good ds).afterRouting (s.call.state == .connected) good (s.translated code)

theorem State.deliver_heardOut (code : Code) (good : Bool) (ds : List Int) (s : State) :
    s.deliver code good ds = (s.completed code good).foldl State.complete1 (s.heardOut code good ds) :=
  s.deliver_eq code good ds

/-- After the routing a character changes of the record the remote identity alone. -/
theorem State.afterRouting_record {β : Type} (g : CallRecord → β) (hg : ∀ r i, g { r with remoteIdentity := i } = g r)
    (connected good : Bool) (e : TransEntry) (s : State) :
    (s.afterRouting connected good e).station.record.map g = s.station.record.map g := by
  have happ (u : State) (c : IChar) (n : Nat) :
    (u.appendIdentity c n).station.record.map g = u.station.record.map g := by
    have h : (u.modRecord fun r => { r with remoteIdentity := r.remoteIdentity.map (· ++ [c]) }).station.record.map g
        = u.station.record.map g := State.modRecord_view _ g u fun r => hg r _
    unfold State.appendIdentity
    dsimp only
    split <;> exact h
  have hcap (u : State) : (u.captureIdentity good e).station.record.map g = u.station.record.map g := by
    unfold State.captureIdentity
    dsimp only
    split
    · rfl
    · split
      · exact happ _ _ _
      · split
        · exact happ _ _ _
        · exact happ _ _ _
        · rfl
        · rfl
  have hidle : s.restartIdle.station = s.station := by rw [State.restartIdle_frame]
  unfold State.afterRouting
  dsimp only
  have hans (u : State) : u.answerbackRequest.station = u.station := u.answerbackRequest_window.2.2
  split
  · rw [hans]
    split
    · rw [hcap, hidle]
    · rw [hidle]
  · split
    · rw [hcap, hidle]
    · rw [hidle]

/-- The number, the outcome and the messages of the record stand as they stood when the character came. -/
theorem State.heardOut_record {β : Type} (g : Nat × Option CallOutcome × Nat → β) (code : Code) (good : Bool)
    (ds : List Int) (s : State) :
    ((s.heardOut code good ds).station.record.map fun r => g (r.number, r.outcome, r.messages)) =
      s.station.record.map fun r => g (r.number, r.outcome, r.messages) := by
  have hr := congrArg (Option.map fun x => g (x.1, x.2.1, x.2.2.2.1))
    ((s.beforeRouting code good ds).routeLine_rest code s.rx.shift (s.entryAt s.rx.shift code) (!good))
  rw [Option.map_map, Option.map_map] at hr
  refine (State.afterRouting_record (fun r => g (r.number, r.outcome, r.messages)) (fun _ _ => rfl) _ _ _ _).trans ?_
  exact hr.trans (State.beforeRouting_record (fun r => g (r.number, r.outcome, r.messages)) (fun _ _ => rfl)
    (fun _ _ => rfl) code good ds s)

/-- So do the switches, the station mode, the call, the queues and the transmitter. -/
theorem State.heardOut_keeps (code : Code) (good : Bool) (ds : List Int) (s : State) :
    (s.heardOut code good ds).route = s.route ∧ (s.heardOut code good ds).station.mode = s.station.mode ∧
      (s.heardOut code good ds).clearView = s.clearView := by
  have ho := s.heardOut_record (fun x => x.2.1) code good ds
  have hframe : s.heardOut code good ds =
      { s.heardOut code good ds with
        route := s.route, kb := s.kb, tx := s.tx
        call := { s.call with idleClear := (s.heardOut code good ds).call.idleClear }
        station := { s.station with record := (s.heardOut code good ds).station.record }
        link :=
          { s.link with
            notices := (s.heardOut code good ds).link.notices
            capture := (s.heardOut code good ds).link.capture } } := by
    unfold State.heardOut State.routed
    rw [State.afterRouting_frame, State.routeLine_frame, State.beforeRouting_frame]
  refine ⟨by rw [hframe], by rw [hframe], ?_⟩
  unfold State.clearView
  rw [ho, hframe]

/-- Settles O16: the progress before the routing; then the actions, folded over the completed entries. -/
theorem matcherProgressAndActions : Obligations.MatcherProgressAndActions := by
  intro s line code good h hc ht hp
  obtain ⟨ds, hd⟩ := State.characterDelivered_eq h
  have hev : event (.characterDelivered line) s = s.deliver code good ds := hd
  refine ⟨?progress, fun hg => ?actions⟩
  case progress =>
    refine exec_event_exists (.characterDelivered line) s _ rfl ?_
    rw [hev]
    intro n e k he hk
    show (s.deliver code good ds).matcher.progress[n]? = _
    rw [s.deliver_progress code good ds hc]
    by_cases hg : good = false
    · rw [if_pos hg, if_pos hg, List.getElem?_map, hk]
      rfl
    · rw [if_neg hg, if_neg hg, List.getElem?_map, s.matchAll_getElem? _ n e k he hk, ← matchEntry_progress]
      rfl
  case actions =>
    subst hg
    refine ⟨s.mem_completions _ ht hp, s.completions_pairwise _ ht hp, ?_⟩
    refine exec_event_exists (.characterDelivered line) s _ rfl ?_
    rw [hev]
    have hdone : s.completed code true = s.completions (s.translated code) := by
      unfold State.completed
      rw [hc]
      rfl
    have hdel : s.deliver code true ds =
        (s.completions (s.translated code)).foldl State.complete1 (s.heardOut code true ds) := by
      rw [s.deliver_heardOut, hdone]
    obtain ⟨hroute, hmode, hview⟩ := s.heardOut_keeps code true ds
    have hnumber : (s.heardOut code true ds).recordNumber = s.recordNumber :=
      congrArg (fun o : Option Nat => o.getD 0) (s.heardOut_record (fun x => x.1) code true ds)
    have hstate : (s.heardOut code true ds).call.state = s.call.state := congrArg (fun v => v.1) hview
    have hlocal : (s.heardOut code true ds).call.localClear = s.call.localClear := congrArg (fun v => v.2.1) hview
    refine ⟨?route, ?messages, fun pre n e post hpre he hpost => ?notice, fun hcl hl => ?clears, fun hn => ?quiet⟩
    case route =>
      show (s.deliver code true ds).route = _
      rw [hdel, foldl_complete1_route, hroute]
    case messages =>
      show ((s.deliver code true ds).station.record.map _) = _
      rw [hdel, foldl_complete1_messages]
      exact s.heardOut_record (fun x => (s.completions (s.translated code)).foldl
        (fun n x => if x.2.action = .endOfMessage then counted n else n) x.2.2) code true ds
    case notice =>
      have hone := foldl_complete1_notice pre post n e (s.heardOut code true ds) (by rw [hmode]; exact he)
        (by rw [hmode]; exact hpost)
      rw [hmode, hnumber, ← hpre, ← hdel] at hone
      exact hone
    case clears =>
      have hone := foldl_complete1_clears (s.completions (s.translated code)) (s.heardOut code true ds)
        (hmode.trans hcl.1) (hstate.trans hc) (hlocal.trans hl) hcl.2
      rw [← hdel] at hone
      exact hone.of_clearView hview
    case quiet =>
      have hone := foldl_complete1_clearView (s.completions (s.translated code)) (s.heardOut code true ds) (by
        rw [hmode, hlocal]
        rcases hn with hn | hn
        · by_cases hu : s.station.mode = .unattended
          · exact Or.inl fun x hx hxa => hn ⟨hu, x, hx, hxa⟩
          · exact Or.inr (Or.inl hu)
        · exact Or.inr (Or.inr (Or.inr hn)))
      rw [← hdel, hview] at hone
      simp only [State.clearView, Prod.mk.injEq] at hone
      obtain ⟨h1, h2, h3, h4, h5, -⟩ := hone
      exact ⟨h1, h2, h3, h4, h5⟩

end Sys2Proof.Machine
end

section
/-! PROOFS. The line transmitter: what a FREE transmitter takes, resolution, the completion of a code, and the
local path. -/

namespace Sys2Proof.Machine

/-! ## The transmitter's take (R32 to R36) -/

theorem State.mayTransmit_iff (s : State) :
    s.mayTransmit = true ↔
      (s.call.state = .selecting ∨ s.call.state = .connected) ∧ s.pins.loopOk = true ∧ s.call.localClear = false := by
  simp [State.mayTransmit, and_assoc]

theorem State.txTake_free (s : State) (h : s.tx.phase = .free) :
    s.txTake = if s.mayTransmit then s.arbiter else none := by
  unfold State.txTake
  rw [h]

/-- A FREE transmitter that may take work asks its arbiter. -/
theorem exec_transmitterTake_free (s t : State) (h : s.tx.phase = .free)
    (hm : s.call.state = .selecting ∨ s.call.state = .connected) (hl : s.pins.loopOk = true)
    (hc : s.call.localClear = false) (ha : s.arbiter.getD s = t) :
    exec .transmitterTake s = .next (s.idleWatched t) := by
  refine exec_event .transmitterTake s t rfl ?_
  show s.txTake.getD s = t
  rw [s.txTake_free h, if_pos (s.mayTransmit_iff.2 ⟨hm, hl, hc⟩), ha]

theorem State.arbiter_break (s : State) (hc : s.call.state = .connected) (hb : s.tx.breakPending = true) :
    s.arbiter = some s.beginBreak := by
  unfold State.arbiter
  simp [hc, hb]

/-- The end of a guard: FREE, and on to CLEARING in a local clear that waited (R41, R61). -/
theorem State.settleClear_free (s : State) (h : s.tx.phase = .free) :
    s.settleClear = if s.call.localClear = true then s.cleared else s := by
  have hi : s.inFlight = false := by
    unfold State.inFlight
    rw [h]
  unfold State.settleClear
  rw [hi, State.enterClearing_eq]
  simp

/-- Settles O20. -/
theorem breakFromItsTakeToItsGuardEnd : Obligations.BreakFromItsTakeToItsGuardEnd := by
  refine ⟨fun s hp => ⟨fun h => ?blocked, fun hl hlc hc hb => ?taken⟩,
    fun s => ⟨fun h => ?sendEnd, fun h hl => ?guardEnd, fun h hl hc => ?clears⟩⟩
  case blocked =>
    refine exec_event .transmitterTake s s rfl ?_
    show s.txTake.getD s = s
    rw [s.txTake_free hp, if_neg]
    · rfl
    · rw [State.mayTransmit_iff]
      rintro ⟨h1, h2, h3⟩
      rcases h with h | h | h
      · rw [h] at h2; cases h2
      · rw [h] at h3; cases h3
      · exact h1.elim h.1 h.2
  case taken =>
    exact exec_transmitterTake_free s _ hp (Or.inr hc) hl hlc (by rw [s.arbiter_break hc hb]; rfl)
  case sendEnd => exact exec_event .breakSendEnd s _ rfl (if_pos h)
  case guardEnd =>
    refine exec_event .breakGuardEnd s _ rfl ((if_pos h).trans ?_)
    rw [State.settleClear_free _ rfl]
    exact if_neg (by simp [State.modTx, hl])
  case clears =>
    refine exec_event_exists .breakGuardEnd s _ rfl ?_
    have he : event .breakGuardEnd s = (s.modTx fun t => { t with phase := .free, timer := none }).cleared := by
      refine (if_pos h).trans ?_
      rw [State.settleClear_free _ rfl]
      exact if_pos hl
    rw [he]
    exact ⟨rfl, rfl, rfl⟩

/-- An arbiter's take of a unit's first code, as the state that it leaves (R34 to R36). -/
theorem State.arbiter_takes (s : State) (c : Code) (cs : List Code) (u : TxUnit) (g : State → State) (copy : SinkSet)
    (ha : s.arbiter = (s.takeUnit (c :: cs) u).map g)
    (hc : copy = match u.source with | none => SinkSet.nowhere | some x => s.sinkSet x)
    (h : ∀ p t r, g (State.modTx (fun x => { x with phase := p, timer := t, reservation := x.reservation || r }) s)
      = { (g s) with tx := { (g s).tx with phase := p, timer := t, reservation := s.tx.reservation || r } }) :
    s.arbiter.getD s = s.codeTaken (g s) copy c u (followed cs) := by
  rw [ha]
  exact s.takeUnit_eq c cs u g copy hc h

theorem State.sendCodes_eq (s : State) (ch : IChar) (c : Code) (e : TransEntry) (rest : List (Code × TransEntry))
    (h : s.resolve s.tx.shift ch = some ((c, e) :: rest)) : s.sendCodes ch = c :: rest.map (·.1) := by
  unfold State.sendCodes
  rw [h]
  rfl

/-- Settles O21: the arbiter's ranks one after the other. -/
theorem transmitterTakesACode : Obligations.TransmitterTakesACode := by
  intro s hp hl hlc
  refine ⟨fun hc hb => ⟨fun i c hrun hmem => ?answerback,
    fun hrun c rest hid => ⟨fun hi => ?byOrder, fun hi => ?selected⟩,
    fun hrun hi => ⟨fun ch cs c e rest hn ha hh hq hres => ?send, fun ch cs c e rest hn ha hq hres => ?keyboard⟩⟩,
    fun hc ch cs c e rest hsel hres => ?selection⟩
  case answerback =>
    refine exec_transmitterTake_free s _ hp (Or.inr hc) hl hlc ?_
    have := s.arbiter_takes c [] .answerback (fun s => s.modAnswer fun a => { a with run := a.run.map (· + 1) })
      (s.sinkSet .answerback) (by unfold State.arbiter; simp [hc, hb, State.runCode, hrun, hmem]) rfl (fun _ _ _ => rfl)
    rw [this]
    simp [State.modAnswer, hrun, followed]
  case byOrder =>
    refine exec_transmitterTake_free s _ hp (Or.inr hc) hl hlc ?_
    exact s.arbiter_takes c rest .identOrder (fun s => s.modTx fun t => { t with identPending := none })
      (s.sinkSet .answerback)
      (by unfold State.arbiter; simp [hc, hb, State.runCode, hrun, hi, State.takeIdent, hid, IdentRequest.unit])
      rfl (fun _ _ _ => rfl)
  case selected =>
    refine exec_transmitterTake_free s _ hp (Or.inr hc) hl hlc ?_
    exact s.arbiter_takes c rest .identSelection (fun s => s.modTx fun t => { t with identPending := none }) .nowhere
      (by unfold State.arbiter; simp [hc, hb, State.runCode, hrun, hi, State.takeIdent, hid, IdentRequest.unit])
      rfl (fun _ _ _ => rfl)
  case send =>
    refine exec_transmitterTake_free s _ hp (Or.inr hc) hl hlc ?_
    exact s.arbiter_takes c (rest.map (·.1)) (.send true) (fun s => s.modSend fun k => { k with queue := cs })
      (s.sinkSet .host)
      (by unfold State.arbiter; simp [hc, hb, State.runCode, hrun, hi, hn, ha, hh, hq, s.sendCodes_eq ch c e rest hres])
      rfl (fun _ _ _ => rfl)
  case keyboard =>
    refine exec_transmitterTake_free s _ hp (Or.inr hc) hl hlc ?_
    exact s.arbiter_takes c (rest.map (·.1)) .keyboard (fun s => s.modKb fun k => { k with queue := cs })
      (s.sinkSet .keyboard)
      (by unfold State.arbiter; simp [hc, hb, State.runCode, hrun, hi, hn, ha, hq, s.sendCodes_eq ch c e rest hres])
      rfl (fun _ _ _ => rfl)
  case selection =>
    refine exec_transmitterTake_free s _ hp (Or.inl hc) hl hlc ?_
    exact s.arbiter_takes c (rest.map (·.1)) .selection (fun s => s.modTx fun t => { t with selection := cs }) .nowhere
      (by unfold State.arbiter; simp [hc, hsel, s.sendCodes_eq ch c e rest hres])
      rfl (fun _ _ _ => rfl)

/-! ## Resolution (R9 to R11) -/

/-- The lowest code of a half that has a property. -/
theorem State.findCode_some (s : State) (sh : Shift) (p : TransEntry → Bool) (n : Nat) (hn : n < 32)
    (hp : p (s.entryAt sh (BitVec.ofNat 5 n)) = true)
    (hmin : ∀ m, m < n → ¬p (s.entryAt sh (BitVec.ofNat 5 m)) = true) : s.findCode sh p = some (BitVec.ofNat 5 n) := by
  unfold State.findCode
  rw [List.find?_range_eq_some.2 ⟨hp, List.mem_range.2 hn, fun m hm => by simpa using hmin m hm⟩]
  rfl

theorem State.findCode_none (s : State) (sh : Shift) (p : TransEntry → Bool)
    (h : ∀ m, m < 32 → ¬p (s.entryAt sh (BitVec.ofNat 5 m)) = true) : s.findCode sh p = none := by
  unfold State.findCode
  rw [List.find?_range_eq_none.2 fun m hm => by simpa using h m hm]
  rfl

theorem CharClass.names_eq_none {k : CharClass} (hl : k ≠ .ltrs) (hf : k ≠ .figs) : k.names = none := by
  cases k
  case ltrs => exact absurd rfl hl
  case figs => exact absurd rfl hf
  all_goals rfl

/-- A character that is resolvable from a shift is resolved from it (R9, R10). -/
theorem State.resolve_isSome (s : State) (sh : Shift) (ch : IChar) (h : s.resolvableFrom sh ch = true) :
    (s.resolve sh ch).isSome = true := by
  unfold State.resolvableFrom at h
  unfold State.resolve
  cases hc : s.carrier sh ch with
  | some k => rfl
  | none =>
    rw [hc] at h
    simp only [Option.isSome_none, Bool.false_or, Bool.and_eq_true] at h
    obtain ⟨h1, h2⟩ := h
    obtain ⟨k, hk⟩ := Option.isSome_iff_exists.1 h1
    rw [hk]
    dsimp only
    split
    · rfl
    · rw [Option.isSome_map]
      exact h2

/-- Settles O22: each lookup is the lowest code that `findCode` finds. -/
theorem resolutionTakesTheLowestCodes : Obligations.ResolutionTakesTheLowestCodes := by
  intro s sh ch
  have hother : (if sh = .letters then Shift.figures else Shift.letters) = sh.other := by cases sh <;> rfl
  have haway : (if sh = .letters then CharClass.figs else CharClass.ltrs) = sh.other.shiftClass := by cases sh <;> rfl
  have hcarry (half : Shift) (n : Nat) :
      ((s.entryAt half (BitVec.ofNat 5 n)).char == ch &&
        (s.entryAt half (BitVec.ofNat 5 n)).cls != .unassigned) = true ↔
        (s.entryAt half (BitVec.ofNat 5 n)).char = ch ∧ (s.entryAt half (BitVec.ofNat 5 n)).cls ≠ .unassigned := by
    simp
  have hfound (half : Shift) (n : Nat) (hn : n < 32)
      (h : (s.entryAt half (BitVec.ofNat 5 n)).char = ch ∧ (s.entryAt half (BitVec.ofNat 5 n)).cls ≠ .unassigned)
      (hmin : ∀ m, m < n →
        ¬((s.entryAt half (BitVec.ofNat 5 m)).char = ch ∧ (s.entryAt half (BitVec.ofNat 5 m)).cls ≠ .unassigned)) :
      s.carrier half ch = some (BitVec.ofNat 5 n) :=
    s.findCode_some half _ n hn ((hcarry half n).2 h) fun m hm hp => hmin m hm ((hcarry half m).1 hp)
  have hnone (half : Shift)
      (h : ∀ m, m < 32 →
        ¬((s.entryAt half (BitVec.ofNat 5 m)).char = ch ∧ (s.entryAt half (BitVec.ofNat 5 m)).cls ≠ .unassigned)) :
      s.carrier half ch = none :=
    s.findCode_none half _ fun m hm hp => h m hm ((hcarry half m).1 hp)
  dsimp only
  rw [hother, haway]
  refine ⟨fun n hn h hmin => ?own, fun hno => ⟨fun n hn h hmin => ⟨fun hsh => ?shift, fun h1 h2 =>
    ⟨fun j hj haw hjmin => ?pair, fun haw => ?noShift⟩⟩, fun hno2 => ?nowhere⟩, fun h => ?both⟩
  case own =>
    unfold State.resolve
    rw [hfound sh n hn h hmin]
  case shift =>
    unfold State.resolve
    rw [hnone sh hno, hfound sh.other n hn h hmin]
    rcases hsh with hsh | hsh <;> simp [hsh, CharClass.names]
  case pair =>
    have hs : s.shiftCode sh = some (BitVec.ofNat 5 j) :=
      s.findCode_some sh _ j hj (beq_iff_eq.2 haw) fun m hm hp => hjmin m hm (beq_iff_eq.1 hp)
    have hnames := CharClass.names_eq_none h1 h2
    unfold State.resolve
    rw [hnone sh hno, hfound sh.other n hn h hmin]
    simp [hnames, hs]
  case noShift =>
    have hs : s.shiftCode sh = none := s.findCode_none sh _ fun m hm hp => haw m hm (beq_iff_eq.1 hp)
    have hnames := CharClass.names_eq_none h1 h2
    unfold State.resolve
    rw [hnone sh hno, hfound sh.other n hn h hmin]
    simp [hnames, hs]
  case nowhere =>
    unfold State.resolve
    rw [hnone sh hno, hnone sh.other hno2]
  case both =>
    unfold State.hasResolution at h
    rw [Bool.and_eq_true] at h
    exact ⟨s.resolve_isSome .letters ch h.1, s.resolve_isSome .figures ch h.2⟩

/-! ## The copy of a code (R36, R37) -/

theorem State.append_capture_state (e : Entry) (s : State) :
    (s.append e).link.capture.state = s.link.capture.state := by
  rw [State.append_eq, State.gather_capture]

/-- What an append touches (R77 to R81, R202). -/
theorem State.append_own (e : Entry) (s : State) :
    s.append e =
      { s with
        store := (s.append e).store, motor := (s.append e).motor
        link :=
          { s.link with notices := (s.append e).link.notices, capture := (s.append e).link.capture }
        station := { s.station with record := s.station.record.map (CallRecord.stored e.source) } } := by
  rw [State.append_eq, State.gather_own]

/-- The copy of a code read in a shift: none without a sink or without a place (R37). -/
def State.copyIn (s : State) (c : Code) (sh : Shift) (u : TxUnit) : List Entry :=
  match u.source with
  | none => []
  | some src =>
    if (s.sinkSet src).isEmpty = false ∧ (s.tx.reservation = true ∨ s.freeEntries ≠ 0) then
      [{ newEntry c sh (s.entryAt sh c) src false (s.sinkSet src) with gapBefore := s.store.gap != 0 }]
    else []

/-- The station's counts of a record after a copy was sought (R80). -/
def CallRecord.copied (made sought : Bool) (r : CallRecord) : CallRecord :=
  { r with
    storedStation := if made then bump r.storedStation else r.storedStation
    unroutedStation := if sought && !made then bump r.unroutedStation else r.unroutedStation }

theorem Option.map_copied_unsought (o : Option CallRecord) : o.map (CallRecord.copied false false) = o := by
  cases o <;> rfl

/-- The copy of a code, as the transmitter, the store and the record show it. -/
theorem State.makeCopy_shows (c : Code) (sh : Shift) (u : TxUnit) (s : State) :
    s.makeCopy c sh u =
        { s with
          tx := { s.tx with reservation := if u.source = none then s.tx.reservation else false }
          store := (s.makeCopy c sh u).store, motor := (s.makeCopy c sh u).motor
          link :=
            { s.link with
              notices := (s.makeCopy c sh u).link.notices, capture := (s.makeCopy c sh u).link.capture }
          station :=
            { s.station with
              record :=
                s.station.record.map
                  (CallRecord.copied (!(s.copyIn c sh u).isEmpty) (decide (u.source ≠ none))) } } ∧
      (s.makeCopy c sh u).store.entries = s.store.entries ++ s.copyIn c sh u ∧
      (s.copyIn c sh u = [] → (s.makeCopy c sh u).store = s.store) ∧
      (s.makeCopy c sh u).link.capture.state = s.link.capture.state := by
  cases hsrc : u.source with
  | none =>
    have hcopy : s.copyIn c sh u = [] := by unfold State.copyIn; rw [hsrc]
    have hmake : s.makeCopy c sh u = s := by unfold State.makeCopy; rw [hsrc]
    rw [hcopy, hmake]
    refine ⟨?_, (List.append_nil _).symm, fun _ => rfl, rfl⟩
    have := Option.map_copied_unsought s.station.record
    simp only [List.isEmpty_nil, Bool.not_true, ne_eq, not_true_eq_false, decide_false, if_true, this]
  | some src =>
    have hl : src ≠ .line := TxUnit.source_ne_line hsrc
    have hun (v : State) : (v.countUnrouted src) =
        { v with
          station := { v.station with record := v.station.record.map (CallRecord.copied false true) } } := by
      unfold State.countUnrouted State.modRecord State.modStation CallRecord.copied
      simp [hl]
    have hst : CallRecord.stored src = CallRecord.copied true true := by
      funext r
      unfold CallRecord.stored CallRecord.copied
      simp [hl]
    by_cases hw : (s.sinkSet src).isEmpty = false ∧ (s.tx.reservation = true ∨ s.freeEntries ≠ 0)
    · have hcopy : s.copyIn c sh u =
          [{ newEntry c sh (s.entryAt sh c) src false (s.sinkSet src) with gapBefore := s.store.gap != 0 }] := by
        unfold State.copyIn
        rw [hsrc]
        exact if_pos hw
      have hmake : s.makeCopy c sh u =
          (s.modTx fun t => { t with reservation := false }).append
            (newEntry c sh (s.entryAt sh c) src false (s.sinkSet src)) := by
        unfold State.makeCopy
        rw [hsrc]
        dsimp only
        rw [if_neg (by simp [hw.1]), if_pos]
        · rfl
        · rw [Bool.or_eq_true]
          refine hw.2.imp id fun hf => bne_iff_ne.2 fun h0 => hf ?_
          have h0 : 256 - s.store.entries.length - (if false then 1 else 0) = 0 := h0
          unfold State.freeEntries storeSize
          simp only [Bool.false_eq_true, if_false] at h0
          omega
      obtain ⟨he, -⟩ := (s.modTx fun t => { t with reservation := false }).append_shows
        (newEntry c sh (s.entryAt sh c) src false (s.sinkSet src))
      rw [hcopy, hmake]
      refine ⟨?_, he, fun h => (nomatch h), State.append_capture_state _ _⟩
      rw [State.append_own]
      simp only [newEntry, hst]
      rfl
    · have hcopy : s.copyIn c sh u = [] := by
        unfold State.copyIn
        rw [hsrc]
        exact if_neg hw
      have hmake : s.makeCopy c sh u = (s.modTx fun t => { t with reservation := false }).countUnrouted src := by
        unfold State.makeCopy
        rw [hsrc]
        dsimp only
        by_cases he : (s.sinkSet src).isEmpty = true
        · rw [if_pos he]
        · rw [if_neg he, if_neg]
          rw [Bool.or_eq_true, not_or]
          have hn : ¬(s.tx.reservation = true ∨ s.freeEntries ≠ 0) := fun h => hw ⟨Bool.eq_false_iff.2 he, h⟩
          rw [not_or] at hn
          refine ⟨hn.1, fun h => hn.2 ?_⟩
          have hf : (s.modTx fun t => { t with reservation := false }).freeEntries = s.freeEntries := by
            unfold State.freeEntries State.modTx
            simp [Bool.eq_false_iff.2 hn.1]
          rw [← hf]
          exact bne_iff_ne.1 h
      rw [hcopy, hmake, hun]
      refine ⟨?_, (List.append_nil _).symm, fun _ => rfl, rfl⟩
      rfl

/-! ## The completion of a code (R38) -/

/-- The completion of a code up to its copy: the send shift, *sent*, the copy (R37, R38). -/
def State.sentCode (c : Code) (u : TxUnit) (s : State) : State :=
  let t := (s.modTx fun t => { t with phase := .free, timer := none }).moveSendShift c
  (if u = .selection then t else t.modRecord fun r => { r with sent := bump r.sent }).makeCopy c s.tx.shift u

/-- What follows a code whose copy is made: the second code of its unit, the end of the unit, or nothing. -/
def State.afterCode (u : TxUnit) (s : State) : Follow → State
  | .code d => s.restartIdle.beginSecond d u
  | .last => (s.unitDone u).restartIdle
  | .abandoned => s.restartIdle

theorem State.codeCompletion_eq (s : State) (c : Code) (u : TxUnit) (f : Follow) (el st : Nat)
    (h : s.tx.phase = .code c u f el st) :
    s.codeCompletion = ((s.sentCode c u).afterCode u f).settleClear := by
  unfold State.codeCompletion
  rw [h]
  cases f <;> rfl

/-- The record after the completion of a code (R37, R38, R80). -/
def State.sentRecord (s : State) (c : Code) (u : TxUnit) (r : CallRecord) : CallRecord :=
  CallRecord.copied (!(s.copyOf c u).isEmpty) (decide (u.source ≠ none))
    (if u = .selection then r else { r with sent := bump r.sent })

theorem State.sentRecord_counts (s : State) (c : Code) (u : TxUnit) (r : CallRecord) :
    ((s.sentRecord c u r).sent, (s.sentRecord c u r).storedStation, (s.sentRecord c u r).unroutedStation)
      = s.sentCounts c u r := by
  unfold State.sentRecord State.sentCounts CallRecord.copied
  rw [← bump_eq_counted, ← bump_eq_counted, ← bump_eq_counted]
  by_cases hu : u = .selection
  · subst hu
    simp [TxUnit.source, State.copyOf]
  · cases hcopy : s.copyOf c u <;> cases hs : u.source <;> simp [hu]

theorem State.sentRecord_seconds (s : State) (c : Code) (u : TxUnit) (r : CallRecord) :
    (s.sentRecord c u r).connectedSeconds = r.connectedSeconds := by
  unfold State.sentRecord CallRecord.copied
  dsimp only
  split <;> rfl

/-- The transmitter after a code and its copy. -/
def State.sentTx (s : State) (c : Code) (u : TxUnit) : Transmitter :=
  { s.tx with
    phase := .free, timer := none, shift := s.sendShiftAfter c
    reservation := if u.source = none then s.tx.reservation else false }

theorem State.sentCode_shows (c : Code) (u : TxUnit) (s : State) :
    s.sentCode c u =
        { s with
          tx := s.sentTx c u
          store := (s.sentCode c u).store, motor := (s.sentCode c u).motor
          link :=
            { s.link with notices := (s.sentCode c u).link.notices, capture := (s.sentCode c u).link.capture }
          station := { s.station with record := s.station.record.map (s.sentRecord c u) } } ∧
      (s.sentCode c u).store.entries = s.store.entries ++ s.copyOf c u ∧
      (s.copyOf c u = [] → (s.sentCode c u).store = s.store) ∧
      (s.sentCode c u).link.capture.state = s.link.capture.state := by
  let v : State :=
    { s with
      tx := { s.tx with phase := .free, timer := none, shift := s.sendShiftAfter c }
      station :=
        { s.station with
          record := s.station.record.map fun r => if u = .selection then r else { r with sent := bump r.sent } } }
  have hv : s.sentCode c u = v.makeCopy c s.tx.shift u := by
    unfold State.sentCode
    dsimp only
    rw [State.moveSendShift_eq]
    congr 1
    split
    · rename_i hu
      simp only [v, hu, if_true, Option.map_id']
      rfl
    · rename_i hu
      simp only [v, hu, if_false]
      rfl
  obtain ⟨h1, h2, h3, h4⟩ := v.makeCopy_shows c s.tx.shift u
  rw [← hv] at h1 h2 h3 h4
  refine ⟨h1.trans ?_, h2, h3, h4⟩
  have hrec : v.station.record.map (CallRecord.copied (!(v.copyIn c s.tx.shift u).isEmpty) (decide (u.source ≠ none)))
      = s.station.record.map (s.sentRecord c u) := by
    show (s.station.record.map _).map _ = _
    rw [Option.map_map]
    rfl
  rw [hrec]
  rfl

/-- The idle-clear timer at the completion of a code (R59). -/
theorem State.restartIdle_idleClear (s : State) :
    s.restartIdle.call.idleClear =
      if s.call.state = .connected ∧ s.call.localClear = false then secondsOrOff (s.cfg .idleClear)
      else s.call.idleClear := by
  unfold State.restartIdle
  split <;> rfl

/-! ## The end of a unit (R38, R109, R110) -/

/-- What the end of a unit other than a selection character does: the SEND count, the run, the window. -/
theorem State.unitDone_shows (u : TxUnit) (s : State) (h : u ≠ .selection) :
    s.unitDone u =
        { s with
          answer := (s.unitDone u).answer
          link := { s.link with notices := (s.unitDone u).link.notices, send := (s.unitDone u).link.send }
          station := { s.station with record := (s.unitDone u).station.record } } ∧
      ((s.unitDone u).link.send.armed, (s.unitDone u).link.send.remaining) =
        (if u = .send true then
          if s.link.send.remaining ≤ 1 then (false, 0) else (s.link.send.armed, s.link.send.remaining - 1)
        else (s.link.send.armed, s.link.send.remaining)) ∧
      (s.unitDone u).link.send.queue = s.link.send.queue ∧
      (s.unitDone u).answer.run =
        (if u = .answerback ∧ ∀ i, s.answer.run = some i → s.answer.memory.length ≤ i then none else s.answer.run) ∧
      (s.unitDone u).answer.window =
        (if (u = .identOrder ∨ u = .identSelection) ∧ s.call.state = .connected then some 0 else s.answer.window) ∧
      ((s.unitDone u).station.record.map fun r => (r.sent, r.storedStation, r.unroutedStation, r.connectedSeconds)) =
        s.station.record.map fun r => (r.sent, r.storedStation, r.unroutedStation, r.connectedSeconds) := by
  have hident (hi : u = .identOrder ∨ u = .identSelection) :
      s.unitDone u = if s.call.state = .connected then s.openWindow else s := by
    rcases hi with rfl | rfl <;> rfl
  have hwindow : s.openWindow =
      { s with
        answer := { s.answer with window := some 0, gapTimer := startSec (s.cfg .identityCaptureGap) }
        station :=
          { s.station with record := s.station.record.map fun r => { r with remoteIdentity := some [] } } } := rfl
  cases u with
  | selection => exact absurd rfl h
  | send counted =>
    cases counted with
    | false => exact ⟨rfl, rfl, rfl, rfl, rfl, rfl⟩
    | true =>
      have hu : s.unitDone (.send true) = s.countSend := rfl
      rw [hu]
      unfold State.countSend
      split
      · rename_i hr
        refine ⟨rfl, ?_, rfl, rfl, rfl, rfl⟩
        rw [if_pos rfl]
        rfl
      · rename_i hr
        refine ⟨rfl, ?_, rfl, rfl, rfl, rfl⟩
        rw [if_pos rfl]
        rfl
  | keyboard => exact ⟨rfl, rfl, rfl, rfl, rfl, rfl⟩
  | answerback =>
    refine ⟨rfl, rfl, rfl, ?_, rfl, rfl⟩
    show (match s.answer.run with | some i => if s.answer.memory.length ≤ i then none else some i | none => none) = _
    cases hr : s.answer.run with
    | none => simp
    | some i => by_cases hl : s.answer.memory.length ≤ i <;> simp [hl]
  | identOrder | identSelection =>
    rw [hident (by simp)]
    by_cases hc : s.call.state = .connected
    · rw [if_pos hc, hwindow]
      refine ⟨rfl, rfl, rfl, by simp, by simp [hc], ?_⟩
      show (s.station.record.map _).map _ = _
      rw [Option.map_map]
      rfl
    · rw [if_neg hc]
      exact ⟨rfl, rfl, rfl, by simp, by simp [hc], rfl⟩

/-- The completion of the last code of a unit other than a selection character, before a local clear that waited. -/
def State.unitSent (c : Code) (u : TxUnit) (s : State) : State := ((s.sentCode c u).unitDone u).restartIdle

theorem State.unitSent_frame (c : Code) (u : TxUnit) (s : State) (h : u ≠ .selection) :
    s.unitSent c u =
      { s with
        tx := s.sentTx c u
        call :=
          { s.call with
            idleClear :=
              if s.call.state = .connected ∧ s.call.localClear = false then secondsOrOff (s.cfg .idleClear)
              else s.call.idleClear }
        store := (s.sentCode c u).store, motor := (s.sentCode c u).motor
        answer := ((s.sentCode c u).unitDone u).answer
        link :=
          { s.link with
            notices := ((s.sentCode c u).unitDone u).link.notices, send := ((s.sentCode c u).unitDone u).link.send
            capture := (s.sentCode c u).link.capture }
        station := { s.station with record := ((s.sentCode c u).unitDone u).station.record } } := by
  have hidle := ((s.sentCode c u).unitDone u).restartIdle_idleClear
  have hframe := ((s.sentCode c u).unitDone u).restartIdle_frame
  rw [hidle] at hframe
  refine hframe.trans ?_
  obtain ⟨hd, -⟩ := (s.sentCode c u).unitDone_shows u h
  obtain ⟨hs, -⟩ := s.sentCode_shows c u
  generalize (s.sentCode c u).unitDone u = D at *
  generalize s.sentCode c u = S at *
  rw [hd, hs]
  rfl

theorem State.unitSent_shows (c : Code) (u : TxUnit) (s : State) (h : u ≠ .selection) :
    ((s.unitSent c u).station.record.map fun r => (r.sent, r.storedStation, r.unroutedStation)) =
        s.station.record.map (s.sentCounts c u) ∧
      ((s.unitSent c u).station.record.map fun r => r.connectedSeconds) =
        (s.station.record.map fun r => r.connectedSeconds) ∧
      (s.unitSent c u).store.entries = s.store.entries ++ s.copyOf c u ∧
      ((s.unitSent c u).link.send.armed, (s.unitSent c u).link.send.remaining) =
        (if u = .send true then
          if s.link.send.remaining ≤ 1 then (false, 0) else (s.link.send.armed, s.link.send.remaining - 1)
        else (s.link.send.armed, s.link.send.remaining)) ∧
      (s.unitSent c u).link.send.queue = s.link.send.queue ∧
      (s.unitSent c u).answer.run =
        (if u = .answerback ∧ ∀ i, s.answer.run = some i → s.answer.memory.length ≤ i then none else s.answer.run) ∧
      (s.unitSent c u).answer.window =
        (if (u = .identOrder ∨ u = .identSelection) ∧ s.call.state = .connected then some 0 else s.answer.window) := by
  obtain ⟨-, h1, h2, h3, h4, h5⟩ := (s.sentCode c u).unitDone_shows u h
  obtain ⟨hs, he, -⟩ := s.sentCode_shows c u
  have hrec : (s.sentCode c u).station.record = s.station.record.map (s.sentRecord c u) := by rw [hs]
  have hsend : (s.sentCode c u).link.send = s.link.send := by rw [hs]
  have hans : (s.sentCode c u).answer = s.answer := by rw [hs]
  have hcall : (s.sentCode c u).call = s.call := by rw [hs]
  rw [hsend] at h1 h2
  rw [hans] at h3 h4
  rw [hcall] at h4
  rw [State.unitSent_frame c u s h]
  refine ⟨?_, ?_, he, h1, h2, h3, h4⟩
  · have := congrArg (Option.map fun x => (x.1, x.2.1, x.2.2.1)) h5
    rw [hrec, Option.map_map, Option.map_map, Option.map_map] at this
    refine this.trans ?_
    exact congrArg (fun k => s.station.record.map k) (funext (s.sentRecord_counts c u))
  · have := congrArg (Option.map fun x => x.2.2.2) h5
    rw [hrec, Option.map_map, Option.map_map, Option.map_map] at this
    refine this.trans ?_
    exact congrArg (fun k => s.station.record.map k) (funext (s.sentRecord_seconds c u))

/-- A code's completion with nothing to follow leaves the transmitter FREE, and a local clear that waited goes
on (R61). -/
theorem State.codeCompletion_last (s : State) (c : Code) (u : TxUnit) (el st : Nat) (hu : u ≠ .selection)
    (h : s.tx.phase = .code c u .last el st) :
    s.codeCompletion = if s.call.localClear = true then (s.unitSent c u).cleared else s.unitSent c u := by
  have hT := s.unitSent_frame c u hu
  have hphase : (s.unitSent c u).tx.phase = .free := by rw [hT]; rfl
  have hlocal : (s.unitSent c u).call.localClear = s.call.localClear := by rw [hT]
  rw [s.codeCompletion_eq c u .last el st h]
  refine (State.settleClear_free (s.unitSent c u) hphase).trans ?_
  rw [hlocal]

/-- The completion of a selection character's last code leaves all but the transmitter. -/
theorem State.sentCode_selection (c : Code) (s : State) :
    s.sentCode c .selection =
      { s with tx := { s.tx with phase := .free, timer := none, shift := s.sendShiftAfter c } } := by
  show State.moveSendShift c _ = _
  rw [State.moveSendShift_eq]
  rfl

theorem State.restartIdle_of_not_connected (s : State) (h : s.call.state ≠ .connected) : s.restartIdle = s := by
  unfold State.restartIdle
  exact if_neg fun hc => h hc.1

/-- Settles O23: `unitSent`, then the entry to CLEARING where a local clear waited. -/
theorem codeCompletionEndsAUnit : Obligations.CodeCompletionEndsAUnit := by
  refine ⟨fun s c u el st h hu => ?unit, fun s c el st h hc => ?selection⟩
  case unit =>
    refine exec_event_exists .codeCompletion s _ rfl ?_
    have he : event .codeCompletion s = if s.call.localClear = true then (s.unitSent c u).cleared else s.unitSent c u :=
      s.codeCompletion_last c u el st hu h
    obtain ⟨hrec, hsec, hent, hsend, hqueue, hrun, hwin⟩ := s.unitSent_shows c u hu
    have hT := s.unitSent_frame c u hu
    rw [he]
    generalize s.unitSent c u = T at *
    have htx : T.tx = s.sentTx c u := by rw [hT]
    have hcall : T.call =
        { s.call with
          idleClear :=
            if s.call.state = .connected ∧ s.call.localClear = false then secondsOrOff (s.cfg .idleClear)
            else s.call.idleClear } := by rw [hT]
    have hstate : T.call.state = s.call.state := by rw [hT]
    have hcal : T.cal = s.cal := by rw [hT]
    have hrx : T.rx = s.rx := by rw [hT]
    have hframe : T.kb = s.kb ∧ T.route = s.route ∧ T.matcher = s.matcher ∧
        T.printer = s.printer ∧ T.punch = s.punch ∧ T.cond = s.cond ∧ T.pins = s.pins ∧
        T.translate = s.translate ∧ T.settings = s.settings ∧ T.station.mode = s.station.mode ∧
        T.station.log = s.station.log := by
      rw [hT]
      exact ⟨rfl, rfl, rfl, rfl, rfl, rfl, rfl, rfl, rfl, rfl, rfl⟩
    obtain ⟨hkb, hroute, hmatch, hprint, hpunch, hcond, hpins, htrans, hset, hmode, hlog⟩ := hframe
    by_cases hl : s.call.localClear = true
    · simp only [if_pos hl]
      have hcleared :
          T.cleared.tx = { s.sentTx c u with breakPending := false, identPending := none, selection := [] } := by
        unfold State.cleared
        rw [htx]
        simp [State.sentTx, TxPhase.afterLine, TxPhase.waits]
      refine ⟨hcleared, ?_, ?_, ?_, hent, hsend, ?_, ?_, ?_, ?_, hkb, hqueue, hroute, hmatch, hprint, hpunch, hcond,
        hpins,
        htrans, hset, hmode, hlog⟩
      · show ({ T.call.quiet .clearing with guard := some (288 * T.cfg .clearingGuard) } : Call) = _
        unfold Call.quiet State.cfg
        rw [hcall, hset]
      · show ((T.station.record.map _).map _) = _
        rw [Option.map_map, ← hrec]
        congr 1
        funext r
        dsimp only [Function.comp]
        split <;> rfl
      · show ((T.station.record.map _).map _) = _
        have := congrArg (Option.map fun n =>
          if s.call.state = .connected then min (s.call.connectedTime / 288000) 16777215 else n) hsec
        rw [Option.map_map, Option.map_map] at this
        rw [Option.map_map]
        refine Eq.trans ?_ (this.trans ?_)
        · congr 1
          funext r
          simp only [Function.comp, hcall]
          split <;> rfl
        · congr 1
          funext r
          simp [hl]
      · show (if T.call.state = .connected then { T.answer with run := none, window := none, gapTimer := none }
          else T.answer).run = _
        rw [hstate]
        by_cases hc : s.call.state = .connected
        · simp [hc, hl]
        · rw [if_neg hc, hrun]
          simp [hc]
      · show (if T.call.state = .connected then { T.answer with run := none, window := none, gapTimer := none }
          else T.answer).window = _
        rw [hstate]
        by_cases hc : s.call.state = .connected
        · simp [hc, hl]
        · rw [if_neg hc, hwin]
          simp [hc]
      · show ({ T.rx with framing := .off, levels := [], displacements := [] } : Receiver) = _
        rw [hrx]
      · show (if T.call.state = .connected ∧ (T.cal.state = .measuring ∨ T.cal.state = .settled) then
          { T.cal with sumT := 0, sumS := 0, maxM := 0, count := 0, state := .idle } else T.cal) = _
        rw [hstate, hcal]
        simp [hl]
    · simp only [if_neg hl]
      have hl' : s.call.localClear = false := Bool.eq_false_iff.2 hl
      refine ⟨htx, ?_, hrec, ?_, hent, hsend, ?_, ?_, hrx, ?_, hkb, hqueue, hroute, hmatch, hprint, hpunch, hcond,
        hpins,
        htrans, hset, hmode, hlog⟩
      · rw [State.idleWatched, hcall]
        simp [hl']
      · refine hsec.trans ?_
        simp [hl]
      · refine hrun.trans ?_
        simp [hl]
      · refine hwin.trans ?_
        simp [hl]
      · refine hcal.trans ?_
        simp [hl]
  case selection =>
    have hn : s.call.state ≠ .connected := by rw [hc]; exact (nomatch ·)
    have he (hsel : s.call.localClear = false → s.tx.selection ≠ []) :
        event .codeCompletion s = State.settleClear
          { s with tx := { s.tx with phase := .free, timer := none, shift := s.sendShiftAfter c } } := by
      refine (s.codeCompletion_eq c .selection .last el st h).trans ?_
      show (((s.sentCode c .selection).unitDone .selection).restartIdle).settleClear = _
      rw [State.sentCode_selection]
      have hdone : State.unitDone .selection
          { s with tx := { s.tx with phase := .free, timer := none, shift := s.sendShiftAfter c } } =
          { s with tx := { s.tx with phase := .free, timer := none, shift := s.sendShiftAfter c } } :=
        if_neg fun ⟨_, hl, hs⟩ => hsel hl hs
      rw [hdone]
      exact congrArg _ (State.restartIdle_of_not_connected _ hn)
    refine ⟨fun hl hs => exec_event .codeCompletion s _ rfl ?_, fun hl => exec_event .codeCompletion s _ rfl ?_⟩
    · rw [he fun _ => hs, State.settleClear_free _ rfl]
      exact if_neg (by simp [hl])
    · rw [he fun hf => absurd hf (by simp [hl]), State.settleClear_free _ rfl]
      exact if_pos hl

/-! ## The second code of a unit, and the last of a selection (R36, R38, R42, R57) -/

/-- The transmitter as the second code of a unit begins, or waits for an entry or for LOOP_OK (R36). -/
def State.secondTx (d : Code) (u : TxUnit) (s : State) : Transmitter :=
  if s.copied u = true ∧ s.freeEntries = 0 then { s.tx with phase := .unitWait d u true }
  else if s.pins.loopOk = true then
    { s.tx with
      phase := .code d u .last s.elementUnits s.stopUnits, timer := some (6 * s.elementUnits + s.stopUnits)
      reservation := s.tx.reservation || s.copied u }
  else { s.tx with phase := .unitWait d u false, reservation := s.tx.reservation || s.copied u }

theorem State.beginSecond_eq (d : Code) (u : TxUnit) (s : State)
    (h : s.call.state = .selecting ∨ s.call.state = .connected) :
    s.beginSecond d u = { s with tx := s.secondTx d u } := by
  unfold State.beginSecond State.secondTx
  rw [if_neg (by rcases h with h | h <;> simp [h]), State.reserve_eq]
  by_cases hf : s.copied u = true ∧ s.freeEntries = 0
  · rw [if_pos hf, if_pos hf]
    rfl
  · rw [if_neg hf, if_neg hf]
    dsimp only
    unfold State.goOn
    split <;> rfl

theorem State.copied_congr {s t : State} (u : TxUnit) (h : ∀ src, t.sinkSet src = s.sinkSet src) :
    t.copied u = s.copied u := by
  unfold State.copied
  split
  · rfl
  · rw [h]

theorem State.copied_source {s : State} {u : TxUnit} (h : s.copied u = true) : u.source ≠ none := by
  intro hn
  unfold State.copied at h
  rw [hn] at h
  cases h

/-- The transmitter after a shift code and its copy, as the second code begins or waits (R36, R37). -/
theorem State.secondTx_sent {s t : State} (c d : Code) (u : TxUnit) {full : Prop} [Decidable full]
    (htx : t.tx = s.sentTx c u) (hc : t.copied u = s.copied u) (hfull : (t.copied u = true ∧ t.freeEntries = 0) ↔ full)
    (hpins : t.pins.loopOk = s.pins.loopOk) (hunits : t.elementUnits = s.elementUnits ∧ t.stopUnits = s.stopUnits) :
    t.secondTx d u =
      { s.tx with
        phase :=
          if full then .unitWait d u true
          else if s.pins.loopOk = true then .code d u .last s.elementUnits s.stopUnits
          else .unitWait d u false
        timer := if ¬full ∧ s.pins.loopOk = true then some (6 * s.elementUnits + s.stopUnits) else none
        shift := s.sendShiftAfter c
        reservation := if u.source = none then s.tx.reservation else s.copied u && decide ¬full } := by
  unfold State.secondTx
  rw [htx, hc, hpins, hunits.1, hunits.2]
  rw [hc] at hfull
  unfold State.sentTx
  by_cases hf : full
  · rw [if_pos (hfull.2 hf)]
    simp [hf, State.copied_source (hfull.2 hf).1]
  · rw [if_neg fun h => hf (hfull.1 h)]
    by_cases hsrc : u.source = none
    · have hn : s.copied u = false := Bool.eq_false_iff.2 fun h => State.copied_source h hsrc
      cases s.pins.loopOk <;> simp [hf, hsrc, hn]
    · cases s.pins.loopOk <;> simp [hf, hsrc]

/-- The waiting code of a unit as TRANSMITTER_TAKE finds it (R32, R36). -/
theorem State.mayTransmit_goes (s : State) :
    s.mayTransmit = decide (s.pins.loopOk = true ∧ s.call.localClear = false ∧
      (s.call.state = .selecting ∨ s.call.state = .connected)) := by
  rw [Bool.eq_iff_iff, State.mayTransmit_iff, decide_eq_true_iff]
  exact ⟨fun ⟨h1, h2, h3⟩ => ⟨h2, h3, h1⟩, fun ⟨h2, h3, h1⟩ => ⟨h1, h2, h3⟩⟩

/-- An unanswered recorder test: nothing, or a call in CLEARING without a local clear when nothing is in flight (R61,
R92). -/
theorem State.recorderTested_settled (s : State) (hl : s.call.localClear = false) (hp : s.tx.phase = .free)
    (hi : s.call.state = .connected → s.call.idleClear = secondsOrOff (s.cfg .idleClear)) :
    s.recorderTested.restartIdle.settleClear = s.recorderTested := by
  have hsettle (t : State) (h : t.call.localClear = false) : t.settleClear = t :=
    if_neg (by rw [h]; exact Bool.false_ne_true)
  unfold State.recorderTested
  by_cases hg : s.recorderGone ∧ s.call.localClear = false
  · rw [if_pos hg]
    have hcall : (s.latch Cond.recorderLost).call = s.call := by rw [State.latch_frame]
    have htx : (s.latch Cond.recorderLost).tx = s.tx := by rw [State.latch_frame]
    have hflight : (s.latch Cond.recorderLost).inFlight = false := by
      unfold State.inFlight
      rw [htx, hp]
    unfold State.localClearTaken
    dsimp only
    rw [if_neg (by rw [hcall, hl]; exact Bool.false_ne_true), if_neg (by rw [hflight]; exact Bool.false_ne_true),
      State.restartIdle_of_not_connected _ (by rintro ⟨⟩)]
    exact hsettle _ rfl
  · rw [if_neg hg]
    have hidle : s.restartIdle = s := by
      rw [State.restartIdle_frame, State.restartIdle_idleClear]
      by_cases hc : s.call.state = .connected
      · rw [if_pos ⟨hc, hl⟩, ← hi hc]
      · rw [if_neg fun h => hc h.1]
    rw [hidle]
    exact hsettle s hl

theorem State.connectionBegun_shows (s : State) :
    s.connectionBegun.call.localClear = s.call.localClear ∧ s.connectionBegun.tx.phase = s.tx.phase ∧
      s.connectionBegun.call.idleClear = secondsOrOff (s.cfg .idleClear) ∧
      s.connectionBegun.settings = s.settings := by
  unfold State.connectionBegun
  dsimp only
  split
  · rw [State.latch_frame]
    exact ⟨rfl, rfl, rfl, rfl⟩
  · exact ⟨rfl, rfl, rfl, rfl⟩

/-- Settles O24: the second code after its copy, the unit that waits, and the entry to CONNECTED. -/
theorem codeCompletionGoesOn : Obligations.CodeCompletionGoesOn := by
  refine ⟨fun s c d u el st h hl hc => ?second, fun s d u => ⟨fun h => ?loop, fun h => ?entry⟩,
    fun s c el st h hc hl hsel => ?connects⟩
  case second =>
    refine exec_event_exists .codeCompletion s _ rfl ?_
    obtain ⟨hS, hent, hstore, hcap⟩ := s.sentCode_shows c u
    have hcounts := congrArg (fun k => s.station.record.map k) (funext (s.sentRecord_counts c u))
    have he : event .codeCompletion s = ((s.sentCode c u).restartIdle.beginSecond d u).settleClear :=
      s.codeCompletion_eq c u (.code d) el st h
    rw [he]
    generalize s.sentCode c u = S at *
    have hR := S.restartIdle_frame
    generalize S.restartIdle = R at *
    have htx : R.tx = s.sentTx c u := by rw [hR, hS]
    have hstate : R.call.state = s.call.state := by rw [hR, hS]
    have hlocal : R.call.localClear = false := by rw [hR, hS]; exact hl
    have hmode : R.station.mode = s.station.mode := by rw [hR, hS]
    have hroute : R.route = s.route := by rw [hR, hS]
    have hprint : R.printer.state = s.printer.state := by rw [hR, hS]
    have hpunch : R.punch.state = s.punch.state := by rw [hR, hS]
    have hset : R.settings = s.settings := by rw [hR, hS]
    have hcapR : R.link.capture.state = s.link.capture.state := by rw [hR]; exact hcap
    have hpins : R.pins = s.pins := by rw [hR, hS]
    have hcopied : R.copied u = s.copied u :=
      State.copied_congr u fun src => State.sinkSet_congr src hmode hroute hprint hpunch hcapR hset
    have hentries : R.store.entries = s.store.entries ++ s.copyOf c u := by rw [hR]; exact hent
    have hrecord : R.station.record = s.station.record.map (s.sentRecord c u) := by rw [hR, hS]
    have hunits : R.elementUnits = s.elementUnits ∧ R.stopUnits = s.stopUnits := by
      unfold State.stopUnits State.elementUnits State.cfg
      rw [hset]
      exact ⟨rfl, rfl⟩
    have hfull : (R.copied u = true ∧ R.freeEntries = 0) ↔
        (s.copied u = true ∧ 256 ≤ (s.store.entries ++ s.copyOf c u).length) := by
      rw [hcopied]
      refine and_congr_right fun hcop => ?_
      unfold State.freeEntries storeSize
      rw [hentries, htx]
      simp only [State.sentTx, if_neg (State.copied_source hcop), Bool.false_eq_true, if_false]
      omega
    rw [State.beginSecond_eq d u R (by rwa [hstate])]
    have hsettle : State.settleClear { R with tx := R.secondTx d u } = { R with tx := R.secondTx d u } :=
      if_neg (by simp [hlocal])
    rw [hsettle]
    refine ⟨?_, hentries, fun hn => ?_, ?_, ?_, ?_, ?_, hstate⟩
    · exact State.secondTx_sent c d u htx hcopied hfull (congrArg _ hpins) hunits
    · show R.store = _
      rw [hR]
      exact hstore hn
    · show R.station.record.map _ = _
      rw [hrecord, Option.map_map]
      exact hcounts
    · show R.link.send = _
      rw [hR, hS]
    · show R.answer = _
      rw [hR, hS]
    · show R.kb = _
      rw [hR, hS]
  case loop =>
    refine exec_event .transmitterTake s _ rfl ?_
    show s.txTake.getD s = _
    unfold State.txTake
    rw [h, s.mayTransmit_goes]
    simp only [decide_eq_true_eq]
    split <;> rfl
  case entry =>
    refine exec_event .transmitterTake s _ rfl ?_
    show s.txTake.getD s = _
    unfold State.txTake
    rw [h, s.mayTransmit_goes]
    simp only [State.reserve_eq]
    split
    · rfl
    · simp only [Option.map_some, Option.getD_some, State.goOn, decide_eq_true_eq]
      split <;> rfl
  case connects =>
    refine exec_event .codeCompletion s _ rfl ?_
    refine (s.codeCompletion_eq c .selection .last el st h).trans ?_
    show (((s.sentCode c .selection).unitDone .selection).restartIdle).settleClear = _
    rw [State.sentCode_selection]
    have hdone : State.unitDone .selection
        { s with tx := { s.tx with phase := .free, timer := none, shift := s.sendShiftAfter c } } =
        State.enterConnected
          { s with tx := { s.tx with phase := .free, timer := none, shift := s.sendShiftAfter c } } :=
      if_pos ⟨hc, hl, hsel⟩
    rw [hdone, State.enterConnected_eq]
    obtain ⟨h1, h2, h3, h4⟩ := State.connectionBegun_shows
      { s with tx := { s.tx with phase := .free, timer := none, shift := s.sendShiftAfter c } }
    refine State.recorderTested_settled _ (h1.trans hl) h2 fun _ => h3.trans ?_
    unfold State.cfg
    rw [h4]

/-! ## The local path (R13, R84, R85) -/

/-- One entry placed on the local path: shift, store and counts. -/
theorem State.placeLocal_shows (src : Source) (hsrc : src ≠ .line) (x : Code × TransEntry) (s : State) :
    s.placeLocal src x =
        { s with
          tx := { s.tx with shift := s.sendShiftAfter x.1 }
          store := (s.placeLocal src x).store, motor := (s.placeLocal src x).motor
          link :=
            { s.link with
              notices := (s.placeLocal src x).link.notices, capture := (s.placeLocal src x).link.capture }
          station :=
            { s.station with
              record := s.station.record.map (CallRecord.copied (!(s.sinkSet src).isEmpty) true) } } ∧
      (s.placeLocal src x).store.entries =
        (if (s.sinkSet src).isEmpty = true then s.store.entries
        else s.store.entries ++ [s.stationEntry src x.1 x.2]) ∧
      ((s.sinkSet src).isEmpty = false → (s.placeLocal src x).store.gap = 0) := by
  unfold State.placeLocal
  dsimp only
  rw [State.moveSendShift_eq]
  by_cases he : (s.sinkSet src).isEmpty = true
  · have hrec : s.countUnrouted src =
        { s with
          station := { s.station with record := s.station.record.map (CallRecord.copied false true) } } := by
      unfold State.countUnrouted State.modRecord State.modStation CallRecord.copied
      simp [hsrc]
    rw [if_pos he, if_pos he, he, hrec]
    exact ⟨rfl, rfl, (nomatch ·)⟩
  · obtain ⟨hent, hgap, -, hrec, -⟩ := s.append_shows (newEntry x.1 s.tx.shift x.2 src false (s.sinkSet src))
    have hst : CallRecord.stored src = CallRecord.copied true true := by
      funext r
      unfold CallRecord.stored CallRecord.copied
      simp [hsrc]
    rw [if_neg he, if_neg he]
    refine ⟨?_, hent, fun _ => hgap⟩
    have hown := s.append_own (newEntry x.1 s.tx.shift x.2 src false (s.sinkSet src))
    rw [Bool.eq_false_iff.2 he]
    have hshift : (s.append (newEntry x.1 s.tx.shift x.2 src false (s.sinkSet src))).sendShiftAfter x.1 =
        s.sendShiftAfter x.1 := by
      rw [hown]
      rfl
    rw [hshift]
    generalize s.append (newEntry x.1 s.tx.shift x.2 src false (s.sinkSet src)) = t at *
    rw [hown]
    simp only [newEntry, hst]
    rfl

/-- The state after a code's effect on the send shift (R12). -/
def State.shifted (s : State) (c : Code) : State := { s with tx := { s.tx with shift := s.sendShiftAfter c } }

/-- The entries of a resolution on the local path. -/
def State.placedEntries (s : State) (src : Source) : List (Code × TransEntry) → List Entry
  | [(c, e)] => [s.stationEntry src c e]
  | [(c, e), (d, g)] =>
    [s.stationEntry src c e, { (s.shifted c).stationEntry src d g with gapBefore := false }]
  | _ => []

/-- The send shift after a resolution on the local path. -/
def State.placedShift (s : State) : List (Code × TransEntry) → Shift
  | [(c, _)] => s.sendShiftAfter c
  | [(c, _), (d, _)] => (s.shifted c).sendShiftAfter d
  | _ => s.tx.shift

/-- A resolution is one code or a pair (R10, R11). -/
theorem State.resolve_length {s : State} {sh : Shift} {ch : IChar} {xs : List (Code × TransEntry)}
    (h : s.resolve sh ch = some xs) : xs.length = 1 ∨ xs.length = 2 := by
  unfold State.resolve at h
  split at h
  · cases h
    exact Or.inl rfl
  · split at h
    · cases h
    · dsimp only at h
      split at h
      · cases h
        exact Or.inl rfl
      · obtain ⟨j, -, rfl⟩ := Option.map_eq_some_iff.1 h
        exact Or.inr rfl

/-- What a character on the local path leaves, its codes placed one after the other (R13). -/
structure State.Placed (src : Source) (xs : List (Code × TransEntry)) (s t : State) : Prop where
  tx : t.tx = { s.tx with shift := s.placedShift xs }
  call : t.call = s.call
  answer : t.answer = s.answer
  rx : t.rx = s.rx
  kb : t.kb = s.kb
  send : t.link.send = s.link.send
  entries : t.store.entries =
    if (s.sinkSet src).isEmpty = true then s.store.entries else s.store.entries ++ s.placedEntries src xs
  record : t.station.record =
    s.station.record.map fun r => xs.foldl (fun r _ => r.copied (!(s.sinkSet src).isEmpty) true) r

theorem State.placed_of_foldl (src : Source) (hsrc : src ≠ .line) (xs : List (Code × TransEntry))
    (hx : xs.length = 1 ∨ xs.length = 2) (s : State) :
    State.Placed src xs s (xs.foldl (fun s x => s.placeLocal src x) s) := by
  rcases hx with hx | hx
  · obtain ⟨x, rfl⟩ := List.length_eq_one_iff.1 hx
    obtain ⟨hf, he, -⟩ := s.placeLocal_shows src hsrc x
    show State.Placed src [x] s (s.placeLocal src x)
    generalize s.placeLocal src x = t at *
    exact ⟨by rw [hf]; rfl, by rw [hf], by rw [hf], by rw [hf], by rw [hf], by rw [hf], he, by rw [hf]; rfl⟩
  · obtain ⟨x, y, rfl⟩ := List.length_eq_two.1 hx
    obtain ⟨hf, he, hg⟩ := s.placeLocal_shows src hsrc x
    obtain ⟨hset, -⟩ := State.placeLocal_places src x s
    show State.Placed src [x, y] s ((s.placeLocal src x).placeLocal src y)
    generalize s.placeLocal src x = t at *
    obtain ⟨hf', he', -⟩ := t.placeLocal_shows src hsrc y
    generalize t.placeLocal src y = u at *
    rw [hset] at hf' he'
    have htx : t.tx = { s.tx with shift := s.sendShiftAfter x.1 } := by rw [hf]
    have hshift : t.sendShiftAfter y.1 = (s.shifted x.1).sendShiftAfter y.1 := by rw [hf]; rfl
    refine ⟨?_, by rw [hf', hf], by rw [hf', hf], by rw [hf', hf], by rw [hf', hf], by rw [hf', hf], ?_, ?_⟩
    · rw [hf']
      show ({ t.tx with shift := t.sendShiftAfter y.1 } : Transmitter) = _
      rw [htx, hshift]
      rfl
    · rw [he', he]
      split
      · rfl
      · rename_i hn
        have hentry : t.stationEntry src y.1 y.2 =
            { (s.shifted x.1).stationEntry src y.1 y.2 with gapBefore := false } := by
          unfold State.stationEntry
          rw [hset, htx, hg (Bool.eq_false_iff.2 hn)]
          rfl
        rw [hentry, List.append_assoc]
        rfl
    · have hrec : t.station.record = s.station.record.map (CallRecord.copied (!(s.sinkSet src).isEmpty) true) := by
        rw [hf]
      rw [hf']
      show t.station.record.map _ = _
      rw [hrec, Option.map_map]
      rfl

/-- A character on the local path has no place: it waits (R13). -/
def State.noPlace (s : State) (src : Source) (xs : List (Code × TransEntry)) : Prop :=
  (s.sinkSet src).isEmpty = false ∧ s.freeEntries < xs.length

theorem State.placeAll_eq (src : Source) (xs : List (Code × TransEntry)) (s : State) :
    (s.noPlace src xs → s.placeAll src xs = none) ∧
      (¬s.noPlace src xs → s.placeAll src xs = some (xs.foldl (fun s x => s.placeLocal src x) s)) := by
  unfold State.noPlace State.placeAll
  refine ⟨fun ⟨h1, h2⟩ => if_neg ?_, fun h => if_pos ?_⟩
  · simp [h1, h2]
  · rw [Bool.or_eq_true, decide_eq_true_iff]
    by_cases he : (s.sinkSet src).isEmpty = true
    · exact Or.inl he
    · exact Or.inr (Nat.le_of_not_lt fun hlt => h ⟨Bool.eq_false_iff.2 he, hlt⟩)

theorem State.forLocalPath_iff (s : State) (src : Source) :
    s.forLocalPath src = true ↔
      s.call.state ≠ .connected ∨ (s.namesLine src = false ∧ s.call.localClear = false) := by
  simp [State.forLocalPath]

/-- The counts of a record after the copies of a character's codes (R80). -/
theorem placed_counts (xs : List (Code × TransEntry)) (hx : xs.length = 1 ∨ xs.length = 2) (none : Bool)
    (o : Option CallRecord) :
    ((o.map fun r => xs.foldl (fun r _ => r.copied (!none) true) r).map fun r => (r.storedStation, r.unroutedStation)) =
      o.map fun r =>
        if none = true then
          (r.storedStation, if xs.length = 1 then counted r.unroutedStation else counted (counted r.unroutedStation))
        else
          (if xs.length = 1 then counted r.storedStation else counted (counted r.storedStation),
            r.unroutedStation) := by
  rw [Option.map_map]
  congr 1
  funext r
  rcases hx with hx | hx
  · obtain ⟨x, rfl⟩ := List.length_eq_one_iff.1 hx
    cases none <;> simp [CallRecord.copied, bump_eq_counted]
  · obtain ⟨x, y, rfl⟩ := List.length_eq_two.1 hx
    cases none <;> simp [CallRecord.copied, bump_eq_counted]

/-- A SEND character counted: the channel and the notices alone (R200). -/
theorem State.countSend_frame (s : State) :
    s.countSend =
      { s with
        link :=
          { s.link with
            send :=
              if s.link.send.remaining ≤ 1 then
                { armed := false, held := false, remaining := 0, queue := s.link.send.queue }
              else { s.link.send with remaining := s.link.send.remaining - 1 }
            notices := s.countSend.link.notices } } := by
  unfold State.countSend
  split <;> rfl

theorem State.localTake_keyboard {s : State} {ch : IChar} {cs : List IChar} {xs : List (Code × TransEntry)}
    (hres : s.resolve s.tx.shift ch = some xs) (hq : s.kb.queue = ch :: cs) (hloc : s.forLocalPath .keyboard = true) :
    s.localTake .keyboard = (s.placeAll .keyboard xs).map fun s => s.modKb fun k => { k with queue := cs } := by
  unfold State.localTake
  simp only [hloc, hq, hres]

theorem State.localTake_send {s : State} {ch : IChar} {cs : List IChar} {xs : List (Code × TransEntry)}
    (hres : s.resolve s.tx.shift ch = some xs) (hq : s.link.send.queue = ch :: cs) (ha : s.link.send.armed = true)
    (hh : s.link.send.held = false) (hloc : s.forLocalPath .host = true) :
    s.localTake .send =
      ((s.modSend fun k => { k with queue := cs }).placeAll .host xs).map State.countSend := by
  unfold State.localTake
  simp only [hloc, hq, hres, ha, hh, Bool.not_false, Bool.and_true]

/-- Settles O25: the head waits, or its codes are placed one after the other. -/
theorem localPathTakesAHead : Obligations.LocalPathTakesAHead := by
  intro s ch cs xs hres
  have hx := State.resolve_length hres
  refine ⟨hx, fun hq hloc => ?keyboard, fun hq ha hh hloc => ?send⟩
  case keyboard =>
    have htake := State.localTake_keyboard hres hq ((s.forLocalPath_iff .keyboard).2 hloc)
    obtain ⟨hnone, hsome⟩ := State.placeAll_eq .keyboard xs s
    refine ⟨fun hw => exec_event (.localPathTake .keyboard) s s rfl ?_, fun hw => ?_⟩
    · show (s.localTake .keyboard).getD s = s
      rw [htake, hnone hw]
      rfl
    · refine exec_event_exists (.localPathTake .keyboard) s _ rfl ?_
      have he : event (.localPathTake .keyboard) s =
          State.modKb (fun k => { k with queue := cs }) (xs.foldl (fun s x => s.placeLocal .keyboard x) s) := by
        show (s.localTake .keyboard).getD s = _
        rw [htake, hsome hw]
        rfl
      rw [he]
      have hp := State.placed_of_foldl .keyboard (nomatch ·) xs hx s
      generalize xs.foldl (fun s x => s.placeLocal .keyboard x) s = t at *
      refine ⟨⟨hp.tx, hp.call, hp.answer, hp.rx, hp.entries, ?_⟩, ?_, hp.send⟩
      · exact (congrArg (Option.map _) hp.record).trans (placed_counts xs hx _ _)
      · show ({ t.kb with queue := cs } : Keyboard) = _
        rw [hp.kb]
  case send =>
    have htake := State.localTake_send hres hq ha hh ((s.forLocalPath_iff .host).2 hloc)
    obtain ⟨hnone, hsome⟩ := State.placeAll_eq .host xs (s.modSend fun k => { k with queue := cs })
    refine ⟨fun hw => exec_event (.localPathTake .send) s s rfl ?_, fun hw => ?_⟩
    · show (s.localTake .send).getD s = s
      rw [htake, hnone hw]
      rfl
    · refine exec_event_exists (.localPathTake .send) s _ rfl ?_
      have he : event (.localPathTake .send) s =
          State.countSend
            (xs.foldl (fun s x => s.placeLocal .host x) (s.modSend fun k => { k with queue := cs })) := by
        show (s.localTake .send).getD s = _
        rw [htake, hsome hw]
        rfl
      rw [he]
      have hp := State.placed_of_foldl .host (nomatch ·) xs hx (s.modSend fun k => { k with queue := cs })
      generalize xs.foldl (fun s x => s.placeLocal .host x) (s.modSend fun k => { k with queue := cs }) = t at *
      rw [t.countSend_frame]
      refine ⟨⟨hp.tx, hp.call, hp.answer, hp.rx, hp.entries, ?_⟩, hp.kb, ?_⟩
      · exact (congrArg (Option.map _) hp.record).trans (placed_counts xs hx _ _)
      · show (if t.link.send.remaining ≤ 1 then _ else _) = _
        rw [hp.send]
        rfl

end Sys2Proof.Machine
end

section
/-! PROOFS. The call controller: offers, the line lost, the requests of the transmitter, and the end of a call. -/

namespace Sys2Proof.Machine

/-! ## Offers (R45 to R50, R55) -/

/-- A call is offered in FREE as CALL_IN comes (R45). -/
theorem State.callInAsserted_free (s : State) (hi : s.pins.callIn = false) (hc : s.call.state = .free) :
    s.callInAsserted = State.offered { s with pins := { s.pins with callIn := true } } := by
  rw [← State.offer_eq]
  simp [State.callInAsserted, State.modPins, hi, hc]

theorem State.offered_local (s : State) (h : s.station.mode = .localMode) :
    s.offered = (s.recorded .incoming []).refused := by
  unfold State.offered
  rw [h]

theorem State.offered_attended (s : State) (h : s.station.mode = .attended) :
    s.offered =
      { s.recorded .incoming [] with
        call :=
          { (s.recorded .incoming []).call with
            state := .offered, answerDelay := secondsOrOff (s.cfg .attendedAnswerDelay) }
        link :=
          { s.link with notices := putNotice (.call false .incoming s.station.nextNumber) s.link.notices } } := by
  unfold State.offered
  rw [h]
  rfl

theorem State.offered_unattended (s : State) (h : s.station.mode = .unattended) :
    s.offered = (s.recorded .incoming []).acceptanceTested := by
  unfold State.offered
  rw [h]

/-- Settles O26: the offer by the mode, the acceptance test, and the withdrawal. -/
theorem offerAndItsWithdrawal : Obligations.OfferAndItsWithdrawal := by
  refine ⟨fun s hi hc => ?offer, fun s r hc hr ho hi => ?withdrawn⟩
  case offer =>
    let v : State := { s with pins := { s.pins with callIn := true } }
    have offers (t : State) (h : v.offered = t) : exec .callInAsserted s = .next (s.idleWatched t) :=
      exec_event .callInAsserted s t rfl ((s.callInAsserted_free hi hc).trans h)
    refine ⟨fun hm => offers _ (v.offered_local hm), fun hm => offers _ (v.offered_attended hm), fun hm =>
      ⟨fun ha => offers _ ?_, fun ha hn => offers _ ?_, fun ha hn => offers _ ?_⟩⟩
    · refine (v.offered_unattended hm).trans ((if_pos ha).trans ?_)
      have hcall : ((v.recorded .incoming []).latch Cond.answerbackEmpty).call = (v.recorded .incoming []).call := by
        rw [State.latch_frame]
      unfold State.refused
      rw [hcall]
      rfl
    · refine (v.offered_unattended hm).trans ((if_neg ha).trans (if_neg ?_))
      show ¬s.namedSinkAttached (s.routeEntry .line .unattended) = true
      rw [hn]
      exact Bool.false_ne_true
    · exact (v.offered_unattended hm).trans ((if_neg ha).trans (if_pos hn))
  case withdrawn =>
    refine exec_event .callInDeasserted s _ rfl ?_
    rw [← State.endUnanswered_eq { s with pins := { s.pins with callIn := false } } r .missed hr ho rfl]
    show s.callInDeasserted = _
    simp [State.callInDeasserted, State.modPins, hi, hc]

/-- A record with its outcome is closed into the log, with its notice (R184). -/
theorem State.closeRecord_ended (s : State) (r : CallRecord) (o : CallOutcome) (hr : s.station.record = some r)
    (ho : r.outcome = none) :
    (s.setOutcome o).closeRecord =
      { s with
        station := { s.station with record := none, log := logAfter s.station.log { r with outcome := some o } }
        link := { s.link with notices := putNotice (.closed r.number o) s.link.notices } } := by
  unfold State.closeRecord State.setOutcome State.modRecord
  simp only [State.modStation, hr, Option.map_some, ho, closedNotice, State.noteMaybe, logWith_eq_logAfter]
  rfl

/-- Settles O28: the record closed as COLLIDED, then the offer. -/
theorem collisionClosesAndOffers : Obligations.CollisionClosesAndOffers := by
  intro s r hc hi hr ho
  refine exec_event .callInAsserted s _ rfl ?_
  have hcoll : event .callInAsserted s =
      State.collide { s with pins := { s.pins with callIn := true } } := by
    show s.callInAsserted = _
    simp [State.callInAsserted, State.modPins, hi, hc]
  rw [hcoll, ← State.offer_eq]
  exact congrArg State.offer (State.closeRecord_ended
    { s with
      pins := { s.pins with callIn := true }
      tx := { s.tx with selection := [] }
      call := { s.call with proceed := none } } r .collided hr ho)

theorem State.answerRequest_offered (s : State) (h : s.call.state = .offered) :
    s.answerRequest = some s.answerBegun := by
  unfold State.answerRequest
  rw [if_pos h, State.enterAnswering_eq]

/-- A start cause does not see the call (R158). -/
theorem State.startCause_modCall (f : Call → Call) (s : State) :
    (s.modCall f).startCause = s.startCause.modCall f := by
  unfold State.startCause
  show (match s.motor.state with | .stopped => _ | .runup => _ | .running => _) = _
  cases s.motor.state <;> rfl

theorem Timer.running {t : Timer} (h : t.isSome = true) : ¬t.isNone = true := by
  rw [Option.isNone_iff_eq_none]
  rintro rfl
  cases h

/-- Settles O29: the order and the answer delay both enter ANSWERING. -/
theorem answeringAnOffer : Obligations.AnsweringAnOffer := by
  intro s
  refine ⟨fun hc => ⟨fun hs => ?order, fun hd => ?delay⟩, fun hc hs => ?other⟩
  case order =>
    refine exec_frame .orderAnswer s _ _ rfl hs ?_
    show s.grantOr s.answerRequest = _
    rw [s.answerRequest_offered hc]
    rfl
  case delay =>
    refine exec_event .answerDelayExpiry s _ rfl ?_
    refine (if_neg (Timer.running hd)).trans ?_
    dsimp only
    rw [State.answerRequest_offered _ (show (s.modCall fun c => { c with answerDelay := none }).call.state = _ from hc)]
    unfold State.answerBegun
    rw [State.startCause_modCall]
    rfl
  case other =>
    refine exec_frame_refused .orderAnswer s _ rfl hs ?_
    show s.grantOr s.answerRequest = _
    unfold State.answerRequest
    rw [if_neg hc]
    rfl

/-- Settles O30: by the call state. -/
theorem loopOkAsserted : Obligations.LoopOkAsserted := by
  intro s hl
  let v : State := { s with pins := { s.pins with loopOk := true }, call := { s.call with loss := none } }
  have he : event .loopOkAsserted s =
      match s.call.state with
      | .answering => v.enterConnected
      | .calling => v.enterSelecting
      | _ => v := by
    exact if_neg (by rw [hl]; exact Bool.false_ne_true)
  refine ⟨fun hc => exec_event .loopOkAsserted s _ rfl ?_, fun hc => exec_event .loopOkAsserted s _ rfl ?_,
    fun ha hc => exec_event .loopOkAsserted s _ rfl ?_⟩
  · rw [he, hc]
    exact v.enterConnected_eq
  · rw [he, hc]
    rfl
  · rw [he]
    split
    · exact absurd ‹_› ha
    · exact absurd ‹_› hc
    · rfl

/-! ## The line lost and the timers of a call (R59 to R64) -/

theorem State.latch_modCall (k : Nat) (f : Call → Call) (s : State) :
    (s.modCall f).latch k = (s.latch k).modCall f := by
  unfold State.latch
  show (if s.cond.faults.getLsbD k = true then _ else _) = _
  split <;> rfl

/-- An attempt that ends in CLEARING with its outcome, whatever timer of it ran out (R52, R54, R60). -/
theorem State.ended_modCall (o : CallOutcome) (f : Call → Call) (s : State) (hs : (f s.call).state = s.call.state)
    (ht : (f s.call).connectedTime = s.call.connectedTime) :
    ((s.modCall f).setOutcome o).enterClearing = (s.ending o).cleared := by
  rw [State.setOutcome_eq, State.enterClearing_eq]
  unfold State.cleared Call.quiet State.ending
  simp only [State.modCall, hs, ht]
  rfl

/-- Settles O31: the loss of LOOP_OK, then each timer of a call. -/
theorem lineLossAndCallTimers : Obligations.LineLossAndCallTimers := by
  refine ⟨fun s => ⟨fun h => ?loop, fun h hc => ?noLine, fun h hc => ?lost⟩,
    fun s => ⟨fun h hc => ?connect, fun h hc => ?proceed⟩,
    fun s h => ⟨fun hm => ?stands, fun hm hc => ?clears⟩⟩
  case loop => exact exec_event .loopOkDeasserted s _ rfl (if_neg (by simp [h]))
  case noLine =>
    refine exec_event .lossTimerExpiry s _ rfl ((if_neg (Timer.running h)).trans ?_)
    rw [show (s.modCall fun c => { c with loss := none }).call.state = .selecting from hc]
    exact State.ended_modCall .noConnect _ s rfl rfl
  case lost =>
    refine exec_event .lossTimerExpiry s _ rfl ((if_neg (Timer.running h)).trans ?_)
    rw [show (s.modCall fun c => { c with loss := none }).call.state = .connected from hc]
    show (((State.setOutcome .remoteClear (s.modCall fun c => { c with loss := none })).latch
      Cond.lineLost).emptyQueues).enterClearing = _
    have hend : State.setOutcome .remoteClear (s.modCall fun c => { c with loss := none }) =
        (s.ending .remoteClear).modCall fun c => { c with loss := none } := State.setOutcome_eq _ _
    rw [hend, State.latch_modCall, State.emptyQueues_eq, State.enterClearing_eq]
    rfl
  case connect =>
    refine exec_event .connectTimerExpiry s _ rfl ((if_neg (Timer.running h)).trans ((if_pos hc).trans ?_))
    exact State.ended_modCall .noConnect _ s rfl rfl
  case proceed =>
    refine exec_event .proceedTimerExpiry s _ rfl ((if_neg (Timer.running h)).trans ((if_pos hc).trans ?_))
    exact State.ended_modCall .noConnect _ s rfl rfl
  case stands => exact exec_event .idleClearExpiry s _ rfl ((if_neg (Timer.running h)).trans (if_neg hm))
  case clears =>
    refine exec_event .idleClearExpiry s _ rfl ((if_neg (Timer.running h)).trans ((if_pos hm).trans ?_))
    exact (State.beginLocalClear_cases .idleClear _ rfl).trans (if_pos hc)

/-! ## Requests (R39, R40, R106) -/

/-- An answerback request, as the host and the identity timer make it (R106). -/
theorem State.answerbackRequest_eq (s : State) :
    s.answerbackRequest =
      if s.call.state ≠ .connected then s
      else if s.answer.memory = [] then s.latch Cond.answerbackEmpty
      else if s.answer.run = none then { s with answer := { s.answer with run := some 0 } }
      else s := by
  unfold State.answerbackRequest
  by_cases hc : s.call.state = .connected
  · by_cases ha : s.answer.memory = []
    · simp [hc, ha]
    · by_cases hr : s.answer.run = none
      · simp [hc, ha, hr, State.modAnswer]
      · simp [hc, ha, hr, Option.isSome_iff_ne_none]
  · simp [hc]

theorem State.findCode_isSome (s : State) (sh : Shift) (p : TransEntry → Bool) :
    (s.findCode sh p).isSome = true ↔ ∃ n, n < 32 ∧ p (s.entryAt sh (BitVec.ofNat 5 n)) = true := by
  simp [State.findCode, List.find?_isSome]

theorem State.hasIdent_iff (s : State) :
    s.hasIdent = true ↔ ∃ (sh : Shift) (n : Nat), n < 32 ∧ (s.entryAt sh (BitVec.ofNat 5 n)).cls = .ident := by
  unfold State.hasIdent
  rw [Bool.or_eq_true, State.findCode_isSome, State.findCode_isSome]
  simp only [beq_iff_eq]
  refine ⟨fun h => h.elim (⟨.letters, ·⟩) (⟨.figures, ·⟩), fun ⟨sh, h⟩ => ?_⟩
  cases sh
  · exact Or.inl h
  · exact Or.inr h

/-- Settles O32: the answerback request by its two sources, the break and the IDENT request. -/
theorem requestsOfTheTransmitter : Obligations.RequestsOfTheTransmitter := by
  refine ⟨fun s => ⟨fun h => ?timer, fun h => ?order⟩,
    fun s h => ⟨fun hc => ⟨?_, ?_⟩, fun hc => ⟨?_, fun hn => ?_, fun hi => ?_⟩⟩⟩
  case timer =>
    refine exec_event .identityTimerExpiry s _ rfl ((if_neg (Timer.running h)).trans ?_)
    rw [State.answerbackRequest_eq]
    rfl
  case order =>
    refine (exec_frame .orderAnswerback s _ _ rfl h rfl).trans ?_
    rw [State.answerbackRequest_eq]
    by_cases hc : s.call.state = .connected
    · by_cases ha : s.answer.memory = []
      · simp [hc, ha]
      · simp [hc, ha]
    · simp [hc]
  · exact exec_frame_refused .orderBreak s _ rfl h (congrArg s.grantOr (if_neg hc))
  · exact exec_frame_refused .orderIdentify s _ rfl h (if_pos hc)
  · exact exec_frame .orderBreak s _ _ rfl h (congrArg s.grantOr (if_pos hc))
  · refine exec_frame_refused .orderIdentify s _ rfl h ((if_neg (not_not_intro hc)).trans (if_pos ?_))
    rw [Bool.not_eq_true', Bool.eq_false_iff, ne_eq, State.hasIdent_iff]
    exact fun ⟨sh, n, hlt, hi⟩ => hn sh n hlt hi
  · refine exec_frame .orderIdentify s _ _ rfl h ((if_neg (not_not_intro hc)).trans ((if_neg ?_).trans ?_))
    · rw [(s.hasIdent_iff).2 hi]
      exact Bool.false_ne_true
    · unfold State.modTx
      dsimp only
      cases s.tx.identPending <;> rfl

/-! ## The end of a call (R61 to R65) -/

/-- A local clear in SELECTING (R56, R61). -/
theorem State.beginSelectionClear_eq (s : State) (hl : s.call.localClear = false) :
    s.beginSelectionClear =
      let t := s.ending .localClear
      let t : State := { t with call := { t.call with localClear := true }, tx := { t.tx with selection := [] } }
      if s.inFlight = true then t else t.cleared := by
  unfold State.beginSelectionClear
  rw [if_neg (by rw [hl]; exact Bool.false_ne_true), State.setOutcome_eq]
  dsimp only
  rw [State.enterClearing_eq]
  rfl

/-- Settles O33: ORDER CLEAR by the call state, and the end of the guard. -/
theorem endsOfACall : Obligations.EndsOfACall := by
  refine ⟨fun s h => ⟨fun hc => ?refused, fun hc => ?offered, fun hc => ?attempt, fun hc hl => ?again,
    fun hc hl => ?selecting,
    fun hc => ?connected⟩, fun s r o hg hc hr ho => ?guard⟩
  case refused =>
    refine exec_frame_refused .orderClear s _ rfl h ?_
    show s.grantOr s.clearRequest = _
    unfold State.clearRequest
    rcases hc with hc | hc | hc <;> rw [hc] <;> rfl
  case offered =>
    refine exec_frame .orderClear s _ _ rfl h ?_
    show s.grantOr s.clearRequest = _
    unfold State.clearRequest
    rw [hc]
    rfl
  case attempt =>
    refine exec_frame .orderClear s _ _ rfl h ?_
    show s.grantOr s.clearRequest = _
    unfold State.clearRequest
    rw [State.setOutcome_eq, State.enterClearing_eq]
    rcases hc with hc | hc <;> rw [hc] <;> rfl
  case again =>
    refine exec_frame .orderClear s _ _ rfl h ?_
    show s.grantOr s.clearRequest = _
    unfold State.clearRequest
    rw [hc]
    exact congrArg (fun t => s.grantOr (some t)) (if_pos hl)
  case selecting =>
    refine exec_frame .orderClear s _ _ rfl h ?_
    show s.grantOr s.clearRequest = _
    unfold State.clearRequest
    rw [hc]
    exact congrArg (fun t => s.grantOr (some t)) (s.beginSelectionClear_eq hl)
  case connected =>
    refine exec_frame .orderClear s _ _ rfl h ?_
    show s.grantOr s.clearRequest = _
    unfold State.clearRequest
    rw [hc]
    refine congrArg (fun t => s.grantOr (some t)) ?_
    exact (State.beginLocalClear_cases .localClear s rfl).trans (if_pos hc)
  case guard =>
    refine exec_event .clearingGuardExpiry s _ rfl ((if_neg (Timer.running hg)).trans ((if_pos hc).trans ?_))
    exact State.returnToFree_eq (s.modCall fun c => { c with guard := none }) r o hr ho

end Sys2Proof.Machine
end

section
/-! PROOFS. The keyboard: one scan of the matrix, and the press of one position. -/

namespace Sys2Proof.Machine

/-! ## One scan of the matrix (R114 to R117) -/

theorem State.scanned_getElem? (s : State) (closed : BitVec 64) (hlen : s.kb.positions.length = 64) (n : Nat)
    (k : KeyPos)
    (hk : s.kb.positions[n]? = some k) :
    (s.scanned closed)[n]? = some (KeyPos.scan s.scanSettings s.kb.interval (closed.getLsbD n) k) := by
  have hn : n < 64 := by
    obtain ⟨h, -⟩ := List.getElem?_eq_some_iff.1 hk
    omega
  unfold State.scanned
  rw [List.getElem?_zipWith, List.getElem?_range hn, hk]

/-- What the presses of a scan leave as the scan made it; a latched fault stays. -/
structure State.ScanKept (s t : State) : Prop where
  pins : t.pins = s.pins
  positions : t.kb.positions = s.kb.positions
  interval : t.kb.interval = s.kb.interval
  scanTimer : t.kb.scanTimer = s.kb.scanTimer
  keymap : t.kb.keymap = s.kb.keymap
  faults : ∀ k, s.cond.faults.getLsbD k = true → t.cond.faults.getLsbD k = true

theorem State.ScanKept.refl (s : State) : s.ScanKept s := ⟨rfl, rfl, rfl, rfl, rfl, fun _ h => h⟩

theorem State.ScanKept.trans {s t u : State} (h : s.ScanKept t) (g : t.ScanKept u) : s.ScanKept u where
  pins := g.pins.trans h.pins
  positions := g.positions.trans h.positions
  interval := g.interval.trans h.interval
  scanTimer := g.scanTimer.trans h.scanTimer
  keymap := g.keymap.trans h.keymap
  faults := fun k hk => g.faults k (h.faults k hk)

/-- Two states with the same keyboard matrix and faults. -/
theorem State.scanKept_of_eq {s t : State} (hp : t.pins = s.pins) (hk : t.kb = s.kb) (hc : t.cond = s.cond) :
    s.ScanKept t :=
  ⟨hp, by rw [hk], by rw [hk], by rw [hk], by rw [hk], fun k h => by rwa [hc]⟩

theorem State.startCause_scanKept (s : State) : s.ScanKept s.startCause := by
  rw [State.startCause_frame]
  exact State.scanKept_of_eq rfl rfl rfl

theorem State.latch_scanKept (k : Nat) (s : State) : s.ScanKept (s.latch k) :=
  ⟨by rw [State.latch_frame], by rw [State.latch_frame], by rw [State.latch_frame], by rw [State.latch_frame],
    by rw [State.latch_frame], fun _ h => State.latch_faults h⟩

theorem State.operatorPress_scanKept (pos : Nat) (e : KeyEntry) (s : State) : s.ScanKept (s.operatorPress pos e) := by
  unfold State.operatorPress
  split
  · exact ⟨rfl, rfl, rfl, rfl, rfl, fun _ h => h⟩
  · exact State.ScanKept.refl s

theorem State.charPress_scanKept (c : IChar) (s : State) : s.ScanKept (s.charPress c) := by
  unfold State.charPress
  split <;> exact ⟨rfl, rfl, rfl, rfl, rfl, fun _ h => h⟩

theorem State.localClearTaken_scanKept (o : CallOutcome) (s : State) : s.ScanKept (s.localClearTaken o) := by
  have hkb : (s.localClearTaken o).kb = { s.kb with queue := (s.localClearTaken o).kb.queue } := by
    unfold State.localClearTaken
    dsimp only
    split
    · rfl
    · split <;> rfl
  have hframe := s.localClearTaken_frame o
  generalize s.localClearTaken o = t at *
  exact ⟨by rw [hframe], by rw [hkb], by rw [hkb], by rw [hkb], by rw [hkb], fun k h => by rw [hframe]; exact h⟩

theorem State.recorderTested_scanKept (s : State) : s.ScanKept s.recorderTested := by
  unfold State.recorderTested
  split
  · exact (State.latch_scanKept _ s).trans (State.localClearTaken_scanKept _ _)
  · exact State.ScanKept.refl s

theorem State.connectionBegun_scanKept (s : State) : s.ScanKept s.connectionBegun := by
  unfold State.connectionBegun
  dsimp only
  split
  · refine State.ScanKept.trans ?_ (State.latch_scanKept _ _)
    exact State.scanKept_of_eq rfl rfl rfl
  · exact State.scanKept_of_eq rfl rfl rfl

theorem State.answerBegun_scanKept (s : State) : s.ScanKept s.answerBegun := by
  unfold State.answerBegun
  dsimp only
  have h := s.startCause_scanKept
  split
  · refine State.ScanKept.trans ?_
      ((State.connectionBegun_scanKept _).trans (State.recorderTested_scanKept _))
    exact h.trans (State.scanKept_of_eq rfl rfl rfl)
  · exact h.trans (State.scanKept_of_eq rfl rfl rfl)

theorem State.answerbackRequest_scanKept (s : State) : s.ScanKept s.answerbackRequest := by
  rw [State.answerbackRequest_eq]
  (repeat' split)
  · exact State.ScanKept.refl s
  · exact State.latch_scanKept _ s
  · exact State.scanKept_of_eq rfl rfl rfl
  · exact State.ScanKept.refl s

/-- The CLEAR key's own effects (R56, R61, R63). -/
theorem State.clearRequest_eq (s : State) :
    s.clearRequest.getD s =
      match s.call.state with
      | .free | .refused | .clearing => s
      | .offered => s.refused
      | .answering | .calling => (s.ending .localClear).cleared
      | .selecting =>
        let u := s.ending .localClear
        let u : State := { u with call := { u.call with localClear := true }, tx := { u.tx with selection := [] } }
        if s.call.localClear = true then s else if s.inFlight = true then u else u.cleared
      | .connected => s.localClearTaken .localClear := by
  unfold State.clearRequest
  cases hc : s.call.state
  case free | offered | refused | clearing => rfl
  case answering | calling => exact (State.enterClearing_eq _).trans (congrArg State.cleared (State.setOutcome_eq _ s))
  case selecting =>
    show s.beginSelectionClear = _
    by_cases hl : s.call.localClear = true
    · rw [if_pos hl]
      exact if_pos hl
    · rw [if_neg hl]
      exact s.beginSelectionClear_eq (Bool.eq_false_iff.2 hl)
  case connected =>
    exact (State.beginLocalClear_cases .localClear s rfl).trans (if_pos hc)

theorem State.clearRequest_scanKept (s : State) : s.ScanKept (s.clearRequest.getD s) := by
  rw [State.clearRequest_eq]
  cases s.call.state
  case free | refused | clearing => exact State.ScanKept.refl s
  case offered | answering | calling => exact State.scanKept_of_eq rfl rfl rfl
  case selecting =>
    dsimp only
    (repeat' split) <;> exact State.scanKept_of_eq rfl rfl rfl
  case connected => exact State.localClearTaken_scanKept _ s

theorem State.functionPress_scanKept (f : KeyFunction) (pos : Nat) (s : State) :
    s.ScanKept (s.functionPress f pos) := by
  cases f
  case hereIs => exact s.answerbackRequest_scanKept
  case brk =>
    show s.ScanKept (s.breakRequest.getD s)
    unfold State.breakRequest
    split <;> exact State.scanKept_of_eq rfl rfl rfl
  case answer =>
    show s.ScanKept (s.answerRequest.getD s)
    unfold State.answerRequest
    split
    · exact s.enterAnswering_eq ▸ s.answerBegun_scanKept
    · exact State.ScanKept.refl s
  case clear => exact s.clearRequest_scanKept
  case fkey1 | fkey2 | fkey3 | fkey4 => exact State.scanKept_of_eq rfl rfl rfl

theorem State.press_scanKept (s : State) (pos : Nat) : s.ScanKept (s.press pos) := by
  unfold State.press
  dsimp only
  have h := s.startCause_scanKept.trans (s.startCause.operatorPress_scanKept pos (s.kb.keymap.getD pos .none))
  split
  · exact h
  · exact h.trans (State.charPress_scanKept _ _)
  · exact h.trans (State.functionPress_scanKept _ _ _)

theorem State.presses_scanKept (ps : List Nat) (s : State) : s.ScanKept (ps.foldl State.press s) := by
  induction ps generalizing s with
  | nil => exact State.ScanKept.refl s
  | cons p ps ih => exact (s.press_scanKept p).trans (ih _)

/-- The matrix after a scan, before STUCK_KEY and the presses. -/
def State.matrixRead (closed : BitVec 64) (s : State) : State :=
  { s with
    pins := { s.pins with keys := closed }
    kb :=
      { s.kb with
        positions := (s.scanned closed).map (·.1), interval := s.cfg .scanPeriod
        scanTimer := some (288 * s.cfg .scanPeriod) } }

theorem State.keyboardScan_eq (closed : BitVec 64) (s : State) :
    s.keyboardScan closed =
      (pressedOf (s.scanned closed)).foldl State.press
        ((s.matrixRead closed).latchIf (!(s.stuckCount != 0) && (s.matrixRead closed).stuckCount != 0)
          Cond.stuckKey) := rfl

/-- Settles O35: each position by its own reading; the presses leave the matrix. -/
theorem scanOfEveryPosition : Obligations.ScanOfEveryPosition := by
  intro s closed hlen
  refine exec_event_exists (.keyboardScan closed) s _ rfl ?_
  have he : event (.keyboardScan closed) s = s.keyboardScan closed := rfl
  rw [he, State.keyboardScan_eq]
  have hlatch : (s.matrixRead closed).ScanKept
      ((s.matrixRead closed).latchIf (!(s.stuckCount != 0) && (s.matrixRead closed).stuckCount != 0)
        Cond.stuckKey) := by
    unfold State.latchIf
    split
    · exact State.latch_scanKept _ _
    · exact State.ScanKept.refl _
  have hpress := State.presses_scanKept (pressedOf (s.scanned closed))
    ((s.matrixRead closed).latchIf (!(s.stuckCount != 0) && (s.matrixRead closed).stuckCount != 0) Cond.stuckKey)
  have hkept := hlatch.trans hpress
  refine ⟨congrArg (fun p => p.keys) hkept.pins, hkept.interval, hkept.scanTimer, hkept.keymap, fun h0 h1 => ?_,
    fun n k hk => ?_⟩
  · refine hpress.faults _ ?_
    have hstuck : (s.matrixRead closed).stuckCount ≠ 0 := by
      unfold State.stuckCount at h1 ⊢
      rw [← hkept.positions]
      exact h1
    unfold State.latchIf
    rw [if_pos (by simp [h0, hstuck])]
    exact State.latch_bit _ _ (by decide)
  · refine (congrArg (fun l => l[n]?) hkept.positions).trans ?_
    show ((s.scanned closed).map (·.1))[n]? = _
    rw [List.getElem?_map, s.scanned_getElem? closed hlen n k hk, Option.map_some]
    refine congrArg some ?_
    obtain ⟨st, count, held⟩ := k
    cases st <;> cases closed.getLsbD n
    case up.false | pressing.false | down.true | releasing.true | stuck.true => rfl
    case up.true | pressing.true | down.false | releasing.false | stuck.false => exact apply_ite Prod.fst _ _ _

/-! ## The press of one position (R118 to R124, R128) -/

/-- The pressed positions come in ascending order, once each (R118). -/
theorem pressedOf_eq_singleton (xs : List (KeyPos × Bool)) (hlen : xs.length = 64) (n : Nat)
    (h : ∀ m x, xs[m]? = some x → (x.2 = true ↔ m = n)) (hn : n < 64) : pressedOf xs = [n] := by
  have hzip : (List.range 64).zip xs = (List.range xs.length).zip xs := by rw [hlen]
  have hmem (m : Nat) : m ∈ pressedOf xs ↔ m ∈ [n] := by
    unfold pressedOf
    rw [hzip, List.mem_filterMap, List.mem_singleton]
    constructor
    · rintro ⟨⟨i, x⟩, hx, hi⟩
      dsimp only at hi
      split at hi
      · rename_i hp
        rw [← Option.some.inj hi]
        exact (h i x ((mem_range_zip xs i x).1 hx)).1 hp
      · cases hi
    · rintro rfl
      have hx : xs[m]? = some xs[m] := List.getElem?_eq_getElem _
      exact ⟨(m, xs[m]), (mem_range_zip xs m _).2 hx, if_pos ((h m _ hx).2 rfl)⟩
  have hnodup : (pressedOf xs).Nodup := by
    unfold pressedOf
    rw [hzip]
    refine ((range_zip_pairwise xs).filterMap _ (S := (· < ·)) fun x y hxy a ha b hb => ?_).imp Nat.ne_of_lt
    split at ha
    · split at hb
      · cases ha
        cases hb
        exact hxy
      · cases hb
    · cases ha
  exact List.perm_singleton.1 ((List.perm_ext_iff_of_nodup hnodup (List.nodup_singleton n)).2 hmem)

/-- A press up to the effect of its keymap entry, the positions as the scan left them. -/
def State.keyed (closed : BitVec 64) (n : Nat) (s : State) : State :=
  { s with
    motor := s.startCause.motor
    pins := { s.pins with keys := closed }
    kb :=
      { s.kb with
        positions := s.kb.positions.set n { state := .down, count := 0, held := 0 }
        interval := s.cfg .scanPeriod, scanTimer := some (288 * s.cfg .scanPeriod)
        operatorFlag :=
          if s.station.mode = .unattended ∧ s.kb.operatorFlag = true then false else s.kb.operatorFlag }
    link :=
      if s.station.mode = .unattended ∧ s.kb.operatorFlag = true then
        { s.link with notices := putNotice (.operator n (s.kb.keymap.getD n .none) s.call.state) s.link.notices }
      else s.link }

/-- What the effect of a keymap entry makes of a press (R121, R123). -/
def State.keyEffect (entry : KeyEntry) (n : Nat) (s : State) : State :=
  match entry with
  | .none => s
  | .char c => s.charPress c
  | .function f => s.functionPress f n

theorem State.press_eq (s : State) (n : Nat) :
    s.press n = (s.startCause.operatorPress n (s.kb.keymap.getD n .none)).keyEffect (s.kb.keymap.getD n .none) n := rfl

theorem State.operatorPress_eq (n : Nat) (e : KeyEntry) (s : State) :
    s.operatorPress n e =
      { s with
        kb :=
          { s.kb with
            operatorFlag :=
              if s.station.mode = .unattended ∧ s.kb.operatorFlag = true then false else s.kb.operatorFlag }
        link :=
          if s.station.mode = .unattended ∧ s.kb.operatorFlag = true then
            { s.link with notices := putNotice (.operator n e s.call.state) s.link.notices }
          else s.link } := by
  unfold State.operatorPress
  by_cases h : s.station.mode = .unattended ∧ s.kb.operatorFlag = true
  · simp only [if_pos h]
    exact if_pos (by simpa using h)
  · simp only [if_neg h]
    exact if_neg (by simpa using h)

/-- The scan at which one position alone is pressed, all others at rest (R118). -/
theorem State.keyboardScan_single (s : State) (closed : BitVec 64) (n : Nat) (k : KeyPos)
    (hlen : s.kb.positions.length = 64) (hk : s.kb.positions[n]? = some k)
    (hpress : (k.state = .up ∧ s.cfg .pressDebounce ≤ 1) ∨ (k.state = .pressing ∧ s.cfg .pressDebounce ≤ k.count + 1))
    (hclosed : closed.getLsbD n = true)
    (hothers : ∀ (m : Nat) (j : KeyPos), m ≠ n → s.kb.positions[m]? = some j →
      j = { state := .up, count := 0, held := 0 } ∧ closed.getLsbD m = false) :
    s.keyboardScan closed = (s.keyed closed n).keyEffect (s.kb.keymap.getD n .none) n := by
  have hn : n < 64 := by
    obtain ⟨h, -⟩ := List.getElem?_eq_some_iff.1 hk
    omega
  have hscan : KeyPos.scan s.scanSettings s.kb.interval (closed.getLsbD n) k =
      ({ state := .down, count := 0, held := 0 }, true) := by
    unfold KeyPos.scan
    rcases hpress with ⟨hs, hp⟩ | ⟨hs, hp⟩
    · rw [hs, hclosed]
      exact if_pos hp
    · rw [hs, hclosed]
      exact if_pos hp
  have hother (m : Nat) (j : KeyPos) (hm : m ≠ n) (hj : s.kb.positions[m]? = some j) :
      (s.scanned closed)[m]? = some (j, false) := by
    obtain ⟨rfl, hc⟩ := hothers m j hm hj
    rw [s.scanned_getElem? closed hlen m _ hj, hc]
    rfl
  have hxlen : (s.scanned closed).length = 64 := by
    unfold State.scanned
    rw [List.length_zipWith, hlen, List.length_range]
    rfl
  have hat : (s.scanned closed)[n]? = some ({ state := .down, count := 0, held := 0 }, true) := by
    rw [s.scanned_getElem? closed hlen n k hk, hscan]
  have hpressed : pressedOf (s.scanned closed) = [n] := by
    refine pressedOf_eq_singleton _ hxlen n (fun m x hx => ?_) hn
    by_cases hm : m = n
    · subst hm
      rw [hat] at hx
      cases hx
      simp
    · obtain ⟨hlt, -⟩ := List.getElem?_eq_some_iff.1 hx
      rw [hother m _ hm (List.getElem?_eq_getElem (by omega))] at hx
      cases hx
      simp [hm]
  have hpos : (s.scanned closed).map (·.1) = s.kb.positions.set n { state := .down, count := 0, held := 0 } := by
    refine List.ext_getElem? fun m => ?_
    rw [List.getElem?_map, List.getElem?_set]
    by_cases hm : n = m
    · subst hm
      rw [hat, if_pos rfl, if_pos (by omega)]
      rfl
    · rw [if_neg hm]
      cases hj : s.kb.positions[m]? with
      | none =>
        rw [List.getElem?_eq_none (by rw [hxlen, ← hlen]; exact List.getElem?_eq_none_iff.1 hj)]
        rfl
      | some j =>
        rw [hother m j (Ne.symm hm) hj]
        rfl
  have hstuck : (s.matrixRead closed).stuckCount = 0 := by
    show ((((s.scanned closed).map (·.1)).filter fun k => k.state == .stuck)).length = 0
    rw [hpos, List.length_eq_zero_iff, List.filter_eq_nil_iff]
    intro j hj
    obtain ⟨m, hj⟩ := List.mem_iff_getElem?.1 hj
    rw [List.getElem?_set] at hj
    split at hj
    · split at hj
      · cases hj
        simp
      · cases hj
    · rename_i hm
      rw [(hothers m j (Ne.symm hm) hj).1]
      simp
  rw [State.keyboardScan_eq, hpressed, hstuck]
  show ((s.matrixRead closed).latchIf (_ && false) Cond.stuckKey).press n = _
  rw [Bool.and_false]
  show (s.matrixRead closed).press n = _
  have hmotor : (s.matrixRead closed).startCause.motor = s.startCause.motor := State.startCause_motor_congr rfl rfl
  rw [State.press_eq, State.operatorPress_eq, State.startCause_frame, hmotor]
  refine congrArg (fun t => State.keyEffect (s.kb.keymap.getD n .none) n t) ?_
  unfold State.keyed State.matrixRead
  rw [hpos]

/-- A CHAR press is refused with the bell, or queued (R121, R122). -/
theorem State.charPress_eq (c : IChar) (s : State) :
    s.charPress c =
      if s.call.state = .clearing ∨ s.hasResolution c = false ∨ 32 ≤ s.kb.queue.length then
        { s with bell := s.bellRung }
      else { s with kb := { s.kb with queue := s.kb.queue ++ [c] } } := by
  unfold State.charPress
  by_cases h : s.call.state = .clearing ∨ s.hasResolution c = false ∨ 32 ≤ s.kb.queue.length
  · rw [if_pos h]
    exact if_pos (by simpa [or_assoc] using h)
  · rw [if_neg h]
    exact if_neg (by simpa [or_assoc] using h)

/-- Settles O36: one press, then the effect of its keymap entry. -/
theorem keyPressesAndBellPulseEnd : Obligations.KeyPressesAndBellPulseEnd := by
  intro s
  refine ⟨exec_event .bellPulseEnd s _ rfl rfl, fun closed n k hlen hk hpress hclosed hothers => ?_⟩
  intro entry told pressed noted
  refine exec_event (.keyboardScan closed) s _ rfl
    ((s.keyboardScan_single closed n k hlen hk hpress hclosed hothers).trans ?_)
  have hkeyed : s.keyed closed n = pressed := by
    simp only [pressed]
    rw [s.startCause_frame]
    rfl
  have hcall : pressed.call = s.call := hkeyed ▸ rfl
  have htx : pressed.tx = s.tx := hkeyed ▸ rfl
  have hanswer : pressed.answer = s.answer := hkeyed ▸ rfl
  have hqueue : pressed.kb.queue = s.kb.queue := hkeyed ▸ rfl
  have hbell : pressed.bellRung = s.bellRung := hkeyed ▸ rfl
  have hres (c : IChar) : pressed.hasResolution c = s.hasResolution c := hkeyed ▸ rfl
  rw [hkeyed]
  change State.keyEffect entry n _ = _
  clear_value pressed
  clear_value entry
  cases entry with
  | none => rfl
  | char c =>
    refine (State.charPress_eq c pressed).trans ?_
    rw [hcall, hres, hqueue, hbell]
  | function f =>
    cases f with
    | hereIs =>
      refine (State.answerbackRequest_eq pressed).trans ?_
      rw [hcall, hanswer]
    | brk =>
      show pressed.breakRequest.getD pressed =
        if s.call.state = .connected then { pressed with tx := { s.tx with breakPending := true } } else pressed
      rw [← htx, ← hcall]
      unfold State.breakRequest
      split <;> rfl
    | answer =>
      show pressed.answerRequest.getD pressed = if s.call.state = .offered then pressed.answerBegun else pressed
      unfold State.answerRequest
      rw [hcall, State.enterAnswering_eq]
      split <;> rfl
    | clear =>
      have hclear := pressed.clearRequest_eq
      rw [hcall, State.inFlight_congr htx] at hclear
      exact hclear.trans (by cases s.call.state <;> rfl)
    | fkey1 | fkey2 | fkey3 | fkey4 => rfl

end Sys2Proof.Machine
end

section
/-! PROOFS. The page printer: the entry it takes, the ends of its movements, its halts and its orders. -/

namespace Sys2Proof.Machine

/-! ## The printer takes an entry (R73, R134 to R136) -/

/-- The entry that a sink would take holds the sink (R73). -/
theorem State.nextFor_holds {s : State} {k : Sink} {i : Nat} {e : Entry} (h : s.nextFor k = some (i, e)) :
    s.store.entries[i]? = some e ∧ e.holds k = true := by
  have hi := State.nextFor_cursor h
  have he : s.store.entries[i]? = some e := by
    unfold State.nextFor at h
    rw [show nextHeld k (s.store.cursors.get k) s.store.entries = some i from hi] at h
    obtain ⟨f, hf, hfe⟩ := Option.map_eq_some_iff.1 h
    cases hfe
    exact hf
  refine ⟨he, ?_⟩
  unfold nextHeld at hi
  obtain ⟨d, hd, rfl⟩ := Option.map_eq_some_iff.1 hi
  obtain ⟨hlt, hp, -⟩ := List.findIdx?_eq_some_iff_getElem.1 hd
  have hget := List.getElem?_eq_getElem hlt
  rw [List.getElem?_drop] at hget
  rw [Option.some.inj (he.symm.trans hget)]
  exact hp

/-- The printer BUSY with the entry at an index, HOME as it stands (R73, R134). -/
def State.printTaken (home : Bool) (i : Nat) (s : State) : State :=
  { s with
    pins := { s.pins with home := home }
    store := { s.store with cursors := { s.store.cursors with print := i } }
    printer := { s.printer with state := .busy } }

theorem State.printTaken_owes {s : State} {i : Nat} {e : Entry} (home : Bool) (h : s.nextFor .print = some (i, e)) :
    (s.printTaken home i).owes .print :=
  ⟨e, State.nextFor_holds (s := s) h⟩

theorem State.printerMayTake_iff (s : State) :
    s.printerMayTake = true ↔
      s.printer.state = .idle ∧ s.motor.state = .running ∧ s.pins.paperOut = false ∧ s.pins.headHot = false ∧
        s.printer.aborted = none := by
  simp [State.printerMayTake, State.haltCause, and_assoc]

theorem State.printerTake_eq {s : State} {i : Nat} {e : Entry} (home : Bool) (hi : s.printer.state = .idle)
    (hm : s.motor.state = .running) (hp : s.pins.paperOut = false) (hh : s.pins.headHot = false)
    (ha : s.printer.aborted = none) (h : s.nextFor .print = some (i, e)) :
    s.printerTake home = some ((s.printTaken home i).runParts (s.partsOf e)) := by
  unfold State.printerTake
  rw [if_pos (s.printerMayTake_iff.2 ⟨hi, hm, hp, hh, ha⟩), h]
  rfl

/-- A gap strike begins, a wrap before it where the column has passed the width (R136, R139). -/
theorem State.runParts_strike (c : IChar) (rest : List PrinterPart) (s : State) :
    s.runParts (.strike c :: rest) =
      if s.cfg .overflow = 1 ∧ s.cfg .width < s.printer.column then s.beginStep s.newSlew (some c) rest
      else s.beginStrike c rest := by
  have hw : s.wrapsAt s.printer.column = true ↔ s.cfg .overflow = 1 ∧ s.cfg .width < s.printer.column := by
    simp [State.wrapsAt]
  rw [State.runParts]
  by_cases h : s.cfg .overflow = 1 ∧ s.cfg .width < s.printer.column
  · rw [if_pos h, if_pos (hw.2 h)]
  · rw [if_neg h, if_neg fun g => h (hw.1 g)]

/-- Settles O37: the parts of the operation, then its first or only part. -/
theorem printerTakesAnEntry : Obligations.PrinterTakesAnEntry := by
  intro s home
  refine ⟨fun h => ?nothing, fun i e hi hm hp hh ha hnext => ?_⟩
  case nothing =>
    refine exec_event (.printerTakeEntry home) s s rfl ?_
    show (s.printerTake home).getD s = s
    unfold State.printerTake
    by_cases hmay : s.printerMayTake = true
    · obtain ⟨h1, h2, h3, h4, -⟩ := s.printerMayTake_iff.1 hmay
      have hn : s.nextFor .print = none := by simpa [h1, h2, h3, h4] using h
      rw [if_pos hmay, hn]
      rfl
    · rw [if_neg hmay]
      rfl
  intro taken busy limit step substitute gap shown own slew wraps limited
  have howes := State.printTaken_owes home hnext
  have takes (t : State) (h : (s.printTaken home i).runParts (s.partsOf e) = t) :
      exec (.printerTakeEntry home) s = .next (s.idleWatched t) := by
    refine exec_event (.printerTakeEntry home) s t rfl ?_
    show (s.printerTake home).getD s = t
    rw [State.printerTake_eq home hi hm hp hh ha hnext]
    exact h
  have marked (t : State) (hg : e.gapBefore = true)
      (h : (s.printTaken home i).runParts [.strike gap, own] = t) :
      exec (.printerTakeEntry home) s = .next (s.idleWatched t) := by
    refine takes t ?_
    unfold State.partsOf
    rw [if_pos hg]
    exact h
  have single (p : PrinterPart) (t : State) (hg : e.gapBefore = false) (ho : own = p)
      (h : (s.printTaken home i).partBegun p = t) :
      exec (.printerTakeEntry home) s = .next (s.idleWatched t) := by
    refine takes t ?_
    unfold State.partsOf
    rw [if_neg (by rw [hg]; exact Bool.false_ne_true)]
    have hown : s.ownPart e = p := ho
    rw [hown]
    exact (State.runParts_one p _ howes).trans h
  have ownOf (hmut : e.mutilated = false) : own = (match e.cls with
      | .print => .strike e.char
      | .unassigned => .strike substitute
      | .space => .space
      | .cr => .slew
      | .lf => .feed
      | .bell => .bell
      | .ltrs | .figs | .ident | .null => .silent) := if_neg (by rw [hmut]; exact Bool.false_ne_true)
  have ownStrike (hc : e.mutilated = true ∨ e.cls = .print ∨ e.cls = .unassigned) : own = .strike shown := by
    by_cases hmut : e.mutilated = true
    · simp only [own, shown, hmut, if_true, true_or]
    · have hf : e.mutilated = false := Bool.eq_false_iff.2 hmut
      rcases hc.resolve_left hmut with hc | hc <;> simp [own, shown, hf, hc]
  refine ⟨fun hg => ⟨fun hw => ?_, fun hw => ?_⟩, fun hg hc => ⟨fun hw => ?_, fun hw => ?_⟩, fun hg hmut hc => ?_,
    fun hg hmut hc => ⟨fun hcol => ?_, fun hcol hhome => ?_, fun hcol hhome => ?_⟩,
    fun hg hmut hc => ⟨fun hcol => ?_, fun hcol => ?_⟩, fun hg hmut => ⟨fun hc => ?_, fun hc => ?_⟩⟩
  · exact marked _ hg ((State.runParts_strike gap [own] _).trans (if_neg hw))
  · exact marked _ hg ((State.runParts_strike gap [own] _).trans (if_pos hw))
  · exact single (.strike shown) _ hg (ownStrike hc) (if_neg hw)
  · exact single (.strike shown) _ hg (ownStrike hc) (if_pos hw)
  · exact single .feed _ hg ((ownOf hmut).trans (by rw [hc])) rfl
  · refine single .slew _ hg ((ownOf hmut).trans (by rw [hc])) ((if_neg fun h => ?_).trans ?_)
    · exact absurd hcol (Nat.not_lt.2 h.1)
    · have hbegun : (s.printTaken home i).slewBegun = slew := by
        unfold State.slewBegun
        rw [if_pos (show 1 < (s.printTaken home i).printer.column from hcol),
          if_pos (show 1 < (s.printTaken home i).printer.column from hcol)]
        rfl
      rw [hbegun]
      rfl
  · refine single .slew _ hg ((ownOf hmut).trans (by rw [hc])) ((if_neg fun h => ?_).trans ?_)
    · exact Bool.false_ne_true (hhome.symm.trans h.2)
    · have hbegun : (s.printTaken home i).slewBegun = { slew with len := 1, extra := 1 } := by
        unfold State.slewBegun
        rw [if_neg (show ¬1 < (s.printTaken home i).printer.column from Nat.not_lt.2 hcol),
          if_neg (show ¬1 < (s.printTaken home i).printer.column from Nat.not_lt.2 hcol)]
        rfl
      rw [hbegun]
      rfl
  · exact single .slew _ hg ((ownOf hmut).trans (by rw [hc])) (if_pos ⟨hcol, hhome⟩)
  · exact single .space _ hg ((ownOf hmut).trans (by rw [hc])) (if_pos hcol)
  · exact single .space _ hg ((ownOf hmut).trans (by rw [hc])) (if_neg (Nat.not_lt.2 hcol))
  · exact single .silent _ hg ((ownOf hmut).trans (by rcases hc with hc | hc | hc | hc <;> rw [hc])) rfl
  · exact single .bell _ hg ((ownOf hmut).trans (by rw [hc])) rfl

/-! ## The ends of strikes, pauses and feeds (R136 to R144) -/

/-- What is left of an operation with at most one part to go (R135, R144). -/
def State.goesOn (s : State) : List PrinterPart → State
  | [p] => s.partBegun p
  | _ => s.operationEnded

theorem State.runParts_goesOn (rest : List PrinterPart) (h : rest.length ≤ 1) (s : State) (howes : s.owes .print) :
    s.runParts rest = s.goesOn rest := by
  match rest, h with
  | [], _ => exact s.operationDone_ended howes
  | [p], _ => exact State.runParts_one p s howes

/-- The timer of a movement that has ended does not matter to what follows. -/
theorem State.goesOn_modTimer (rest : List PrinterPart) (t : Timer) (s : State) :
    State.goesOn (s.modPrinter fun p => { p with timer := t }) rest = s.goesOn rest := by
  match rest with
  | [] | _ :: _ :: _ => rfl
  | [p] => cases p <;> rfl

theorem State.strikeDone_eq (s : State) (c : IChar) (rest : List PrinterPart)
    (h : s.printer.op = some { action := .strike c, rest := rest }) :
    s.strikeDone =
      if s.pins.headWarm = true ∧ s.cfg .coolingPause ≠ 0 then
        { s.struck with
          printer :=
            { s.struck.printer with
              op := some { action := .cooling, rest := rest }, timer := some (288 * s.cfg .coolingPause) } }
      else (s.struck.modPrinter fun p => { p with timer := none }).runParts rest := by
  unfold State.strikeDone
  rw [h]
  dsimp only
  rw [State.strikeLands_eq]
  rfl

theorem State.strikeDone_other (s : State) (h : ∀ a rest, s.printer.op ≠ some { action := .strike a, rest := rest }) :
    s.strikeDone = s := by
  unfold State.strikeDone
  split
  · exact absurd ‹_› (h _ _)
  · rfl

theorem State.feedDone_other (s : State) (h : ∀ a rest, s.printer.op ≠ some { action := .feed a, rest := rest }) :
    s.feedDone = s := by
  unfold State.feedDone
  split
  · exact absurd ‹_› (h _ _)
  · rfl

/-- A line counted in the record (R142). -/
def State.lineCounted (s : State) : State :=
  { s with
    station :=
      { s.station with
        record := s.station.record.map fun r => { r with linesPrinted := counted r.linesPrinted } } }

theorem State.feedDone_eq (s : State) (strike : Option IChar) (rest : List PrinterPart)
    (h : s.printer.op = some { action := .feed strike, rest := rest }) :
    s.feedDone =
      match (generalizing := false) strike with
      | some c => s.lineCounted.beginStrike c rest
      | none => s.lineCounted.runParts rest := by
  unfold State.feedDone
  rw [h]
  dsimp only [State.modRecord]
  simp only [bump_eq_counted]
  rfl

/-- Settles O38: each end of a movement, then the part that is left. -/
theorem strikesAndFeeds : Obligations.StrikesAndFeeds := by
  refine ⟨fun s c => ⟨fun rest hop hw hp => ?cools, fun howes rest hlen => ⟨fun hop hn => ?struck, fun hop => ?cooled⟩,
    fun h => ?noStrike⟩, fun s => ⟨fun howes hop => ?fed, fun c rest hop => ?wrapped, fun h => ?noFeed⟩⟩
  case cools => exact exec_event .strikeDone s _ rfl ((s.strikeDone_eq c rest hop).trans (if_pos ⟨hw, hp⟩))
  case struck =>
    refine exec_event .strikeDone s (s.struck.goesOn rest) rfl
      ((s.strikeDone_eq c rest hop).trans ((if_neg ?_).trans ?_))
    · rintro ⟨hw, hp⟩
      exact hn.elim (fun h => Bool.false_ne_true (h.symm.trans hw)) hp
    · have htaken : State.owes (s.struck.modPrinter fun p => { p with timer := none }) .print := howes
      rw [State.runParts_goesOn rest hlen _ htaken, State.goesOn_modTimer]
  case cooled =>
    refine exec_event .coolingPauseEnd s (s.goesOn rest) rfl ?_
    rw [← State.runParts_goesOn rest hlen s howes]
    show s.coolingEnd = _
    unfold State.coolingEnd
    rw [hop]
  case noStrike => exact exec_event .strikeDone s s rfl (s.strikeDone_other h)
  case fed =>
    exact exec_event .feedDone s _ rfl ((s.feedDone_eq none [] hop).trans (s.lineCounted.operationDone_ended howes))
  case wrapped => exact exec_event .feedDone s _ rfl (s.feedDone_eq (some c) rest hop)
  case noFeed => exact exec_event .feedDone s s rfl (s.feedDone_other h)

/-! ## The printer lost, and the steps of its carriage (R137, R142, R145 to R150) -/

/-- Settles O39: the jam of a strike or feed, and the end of the halt grace. -/
theorem printerLost : Obligations.PrinterLost := by
  refine ⟨fun s a rest hop ha => exec_event .printerResponseLimitExpiry s _ rfl ?jam, fun s hs hg => ?grace⟩
  case jam =>
    show s.printerResponseLimit = _
    unfold State.printerResponseLimit
    rw [hop]
    rcases ha with ⟨c, rfl⟩ | ⟨c, rfl⟩ <;> exact State.printerOut_eq true _
  case grace =>
    refine exec_event .printerHaltGraceExpiry s _ rfl ((if_neg (Timer.running hg)).trans ((if_pos hs).trans ?_))
    rw [State.printerOut_eq]
    exact State.printerLost_printer s { s.printer with haltGrace := none } false rfl rfl rfl

/-- A jam is the loss of the printer with the jam hold (R145). -/
theorem State.printerJam_eq (s : State) : s.printerJam = (s.latch Cond.printerJam).printerLost true :=
  State.printerOut_eq true _

/-- Settles O40: by what the carriage's step belongs to. -/
theorem carriageStepEnd : Obligations.CarriageStepEnd := by
  intro s home
  refine ⟨fun len ha => exec_event (.carriageStepEnd home) s _ rfl ?aborted,
    fun ha howes hop => exec_event (.carriageStepEnd home) s _ rfl ?space, fun w strike rest ha hop => ?slew⟩
  case aborted =>
    show s.carriageStepEnd home = _
    unfold State.carriageStepEnd
    rw [ha]
    rfl
  case space =>
    show s.carriageStepEnd home = _
    unfold State.carriageStepEnd
    rw [ha, hop]
    exact State.operationDone_ended _ howes
  case slew =>
    let seen : State := { s with pins := { s.pins with home := home } }
    have steps (t : State) (h : seen.slewStep w strike rest = t) :
        exec (.carriageStepEnd home) s = .next (s.idleWatched t) := by
      refine exec_event (.carriageStepEnd home) s t rfl ?_
      show s.carriageStepEnd home = t
      unfold State.carriageStepEnd
      rw [ha, hop]
      exact h
    have hasNo (hh : home = false) : ¬home = true := by rw [hh]; exact Bool.false_ne_true
    refine ⟨fun hh c hc => steps _ ((if_pos hh).trans ?_), fun hh hc hrest howes => steps _ ((if_pos hh).trans ?_),
      fun hh hex hcol => steps _ ((if_neg (hasNo hh)).trans (if_pos ⟨hex, hcol⟩)),
      fun hh hcol hex => steps _ ((if_neg (hasNo hh)).trans ((if_neg fun h => ?_).trans (if_pos hex))),
      fun hh hex => steps _ ((if_neg (hasNo hh)).trans ((if_neg fun h => ?_).trans ((if_neg ?_).trans ?_)))⟩
    · subst hc
      rfl
    · subst hc hrest
      exact State.operationDone_ended _ howes
    · exact absurd (hcol h.1) (Nat.not_le.2 h.2)
    · exact absurd (h.1.symm.trans hex) (by decide)
    · omega
    · rw [State.printerJam_eq]
      simp only [hex]
      rfl

/-! ## Halts, and the orders to the printer (R149 to R153) -/

theorem State.latchIf_frame (b : Bool) (k : Nat) (s : State) :
    s.latchIf b k =
      { s with
        cond := (s.latchIf b k).cond, link := { s.link with notices := (s.latchIf b k).link.notices } } := by
  unfold State.latchIf
  split
  · exact State.latch_frame k s
  · rfl

theorem State.haltCause_iff (s : State) : s.haltCause = true ↔ s.pins.paperOut = true ∨ s.pins.headHot = true :=
  Bool.or_eq_true _ _ ▸ Iff.rfl

/-- The printer at a change of a halt cause (R133, R149 to R151). -/
theorem State.haltTest_eq (s : State) :
    s.haltTest =
      match s.printer.state with
      | .idle => if s.pins.paperOut = true ∨ s.pins.headHot = true then s.haltBegun else s
      | .halted =>
        if s.pins.paperOut = true ∨ s.pins.headHot = true then s
        else { s with printer := { s.printer with state := .idle, haltGrace := none } }
      | .out =>
        if s.pins.paperOut = true ∨ s.pins.headHot = true ∨ s.printer.jamHold = true then s
        else
          { s with
            printer := { s.printer with state := .idle }
            store := { s.store with cursors := { s.store.cursors with print := s.store.entries.length } } }
      | .busy | .off => s := by
  unfold State.haltTest
  cases s.printer.state
  case idle =>
    dsimp only
    rw [State.enterHalted_eq]
    simp only [State.haltCause_iff]
  case halted =>
    dsimp only
    simp only [State.haltCause_iff]
    rfl
  case out =>
    dsimp only
    simp only [Bool.or_eq_true, State.haltCause_iff, or_assoc]
    rfl
  case busy | off => rfl

/-- Settles O41: the two latches, then the printer by its state. -/
theorem haltCausesAndHeadWarm : Obligations.HaltCausesAndHeadWarm := by
  intro s paperOut headHot headWarm t
  refine ⟨fun hch => exec_event (.haltCauseChange paperOut headHot) s _ rfl ((if_neg hch).trans ?_),
    exec_event (.headWarmChange headWarm) s _ rfl rfl⟩
  have hframe : t = { s with pins := t.pins, cond := t.cond, link := t.link } := by
    simp only [t]
    rw [State.latchIf_frame _ Cond.headHot, State.latchIf_frame _ Cond.paperOut]
  have hpins : t.pins.paperOut = paperOut ∧ t.pins.headHot = headHot := by
    simp only [t]
    rw [State.latchIf_frame _ Cond.headHot, State.latchIf_frame _ Cond.paperOut]
    exact ⟨rfl, rfl⟩
  refine t.haltTest_eq.trans ?_
  have hprinter : t.printer = s.printer := by rw [hframe]
  have hstore : t.store = s.store := by rw [hframe]
  simp only [hprinter, hstore, hpins] <;> rfl

/-- The printer comes back, on to HALTED under a halt cause (R153). -/
theorem State.printerBack_eq (s : State) :
    s.printerBack =
      let back : State :=
        { s with
          printer := { s.printer with state := .idle, jamHold := false }
          store := { s.store with cursors := { s.store.cursors with print := s.store.entries.length } } }
      if s.pins.paperOut = true ∨ s.pins.headHot = true then back.haltBegun else back := by
  unfold State.printerBack
  dsimp only
  rw [State.enterHalted_eq]
  simp only [State.haltCause_iff]
  rfl

/-- Settles O42: each order by the printer's state. -/
theorem ordersToThePrinter : Obligations.OrdersToThePrinter := by
  refine ⟨fun s h => ?off, fun s h => ?on⟩
  case off =>
    have ordered (t : State) (ht : s.printerOff = t) :
        exec .orderPrinterOff s = .next (s.idleWatched (t.answered .grant)) :=
      exec_frame .orderPrinterOff s t .grant rfl h (congrArg (·, Reply.grant) ht)
    refine ⟨fun hs => ordered _ ?_, fun hs hr => ordered _ ?_, fun hs hr => ⟨fun w strike rest hop => ordered _ ?_,
      fun hop => ordered _ ?_⟩, fun hs => ordered _ ?_, fun hs => ordered _ ?_⟩
    · have hnow : s.printerOff = s.printerOffNow := by
        unfold State.printerOff
        rcases hs with hs | hs <;> rw [hs]
      exact hnow.trans (State.detach_eq .print _)
    · unfold State.printerOff
      rw [hs]
      exact if_pos hr
    · unfold State.printerOff
      rw [hs]
      refine (if_neg (by rw [hr]; exact Bool.false_ne_true)).trans ?_
      rw [hop]
      exact State.detach_eq .print _
    · unfold State.printerOff
      rw [hs]
      refine (if_neg (by rw [hr]; exact Bool.false_ne_true)).trans ?_
      split
      · exact absurd ‹_› (hop _ _ _)
      · rfl
    · unfold State.printerOff
      rw [hs]
      rfl
    · unfold State.printerOff
      rw [hs]
  case on =>
    refine ⟨fun hs => exec_frame .orderPrinterOn s _ .grant rfl h ?_,
      fun hs hj => exec_frame_refused .orderPrinterOn s _ rfl h ?_,
      fun hs => exec_frame .orderPrinterOn s s .grant rfl h ?_⟩
    · rw [← State.printerBack_eq]
      show s.grantOr s.printerOn = _
      unfold State.printerOn
      rcases hs with hs | ⟨hs, hj⟩
      · rw [hs]
        rfl
      · rw [hs, hj]
        rfl
    · show s.grantOr s.printerOn = _
      unfold State.printerOn
      rw [hs, hj]
      rfl
    · show s.grantOr s.printerOn = _
      unfold State.printerOn
      rcases hs with hs | hs | hs <;> rw [hs] <;> rfl

end Sys2Proof.Machine
end

section
/-! PROOFS. The punch and the motor. -/

namespace Sys2Proof.Machine

/-! ## The punch at work (R164 to R171) -/

theorem State.storeAfter_congr {s t : State} (k : Sink) (hs : t.store = s.store) (hc : t.settings = s.settings) :
    t.storeAfter k = s.storeAfter k := by
  unfold State.storeAfter State.cfg
  rw [hs, hc]

theorem State.owes_congr {s t : State} (k : Sink) (hs : t.store = s.store) : t.owes k ↔ s.owes k := by
  unfold State.owes
  rw [hs]

/-- A punched code, TAPE_OUT apart (R165). -/
def State.codePunched (s : State) : State :=
  { s with
    punch := { s.punch with tape := s.punch.tape - 1, timer := none }
    station := { s.station with record := s.station.record.map fun r => { r with punched := counted r.punched } } }

theorem State.countPunched_eq (s : State) :
    s.countPunched = s.codePunched.latchIf (s.punch.tape == 1) Cond.tapeOut := by
  unfold State.countPunched State.codePunched
  simp only [bump_eq_counted]
  rfl

theorem State.countPunched_of_two (s : State) (h : 2 ≤ s.punch.tape) : s.countPunched = s.codePunched := by
  rw [State.countPunched_eq, beq_eq_false_iff_ne.2 (by omega)]
  rfl

/-- The punch switched off, its entries released (R89, R172). -/
theorem State.punchOffNow_eq (s : State) :
    s.punchOffNow =
      State.recorderTested
        { s with
          punch := { s.punch with state := .off, op := none, timer := none, leader := 0, offRequest := false }
          store := s.storeWithout .punch } := State.detach_eq .punch _

theorem State.punchTake_idle (s : State) (hi : s.punch.state = .idle) (hm : s.motor.state = .running) :
    s.punchTake =
      if s.punch.leader ≠ 0 then some (s.beginPunch .leader)
      else
        match s.nextFor .punch with
        | none => none
        | some (i, e) =>
          some (State.beginPunch
            (.entry (if e.gapBefore then s.cfg .gapMarkerCount else 0) (BitVec.ofNat 5 (s.cfg .gapMarkerCode)) e.code)
            (s.modStore fun t => { t with cursors := t.cursors.set .punch i })) := by
  unfold State.punchTake
  rw [if_neg (by simp [hi, hm])]
  rfl

/-- Settles O43: what the punch takes, and PUNCH_DONE by the operation. -/
theorem punchWorks : Obligations.PunchWorks := by
  refine ⟨fun s => ⟨fun h => ?nothing, fun hi hm => ⟨fun hl => ?leader, fun i e hl hn => ?entry⟩⟩,
    fun s => ⟨fun h => ?idle, fun ht => ⟨fun m c hop howes => ?last, fun n m c hop => ?marker, fun hop => ?led⟩⟩⟩
  case nothing =>
    refine exec_event .punchTakeWork s s rfl ?_
    show s.punchTake.getD s = s
    by_cases hs : s.punch.state = .idle ∧ s.motor.state = .running
    · obtain ⟨hi, hm⟩ := hs
      obtain ⟨hl, hn⟩ := (h.resolve_left (not_not_intro hi)).resolve_left (not_not_intro hm)
      rw [s.punchTake_idle hi hm, if_neg (not_not_intro hl), hn]
      rfl
    · unfold State.punchTake
      rw [if_pos]
      · rfl
      · rw [Bool.or_eq_true, bne_iff_ne, bne_iff_ne]
        exact not_and_or.1 hs
  case leader =>
    refine exec_event .punchTakeWork s _ rfl ?_
    show s.punchTake.getD s = _
    rw [s.punchTake_idle hi hm, if_pos hl]
    rfl
  case entry =>
    refine exec_event .punchTakeWork s _ rfl ?_
    show s.punchTake.getD s = _
    rw [s.punchTake_idle hi hm, if_neg (not_not_intro hl), hn]
    rfl
  case idle =>
    refine exec_event .punchDone s s rfl ?_
    show s.punchDone = s
    unfold State.punchDone
    rw [h]
  case last =>
    refine exec_event .punchDone s _ rfl ?_
    show s.punchDone = _
    unfold State.punchDone
    rw [hop]
    dsimp only
    rw [s.countPunched_of_two ht, State.consume_one _ _ (show s.codePunched.owes .punch from howes)]
    refine (if_neg (show ¬s.punch.tape - 1 = 0 by omega)).trans ?_
    rw [State.punchOffNow_eq]
    rfl
  case marker =>
    refine exec_event .punchDone s _ rfl ?_
    show s.punchDone = _
    unfold State.punchDone
    rw [hop]
    dsimp only
    rw [s.countPunched_of_two ht]
    exact if_neg (show ¬s.punch.tape - 1 = 0 by omega)
  case led =>
    refine exec_event .punchDone s _ rfl ?_
    show s.punchDone = _
    unfold State.punchDone
    rw [hop]
    dsimp only
    rw [s.countPunched_of_two ht]
    have htape : s.punch.tape - 1 ≠ 0 := by omega
    have hdone : State.punchOperationDone (s.codePunched.modPunch fun p => { p with leader := p.leader - 1 }) =
        if s.punch.offRequest = true then
          State.punchOffNow (s.codePunched.modPunch fun p => { p with leader := p.leader - 1 })
        else State.punchIdle (s.codePunched.modPunch fun p => { p with leader := p.leader - 1 }) := if_neg htape
    by_cases hoff : s.punch.offRequest = true
    · rw [if_pos hoff]
      refine (if_neg fun h => Bool.false_ne_true (h.2.1.symm.trans hoff)).trans ?_
      rw [hdone, if_pos hoff, State.punchOffNow_eq]
      rfl
    · rw [if_neg hoff]
      by_cases hl : 2 ≤ s.punch.leader
      · rw [if_pos hl]
        exact if_pos ⟨htape, Bool.eq_false_iff.2 hoff, show s.punch.leader - 1 ≠ 0 by omega⟩
      · rw [if_neg hl]
        have hlast : s.punch.leader - 1 = 0 := by omega
        refine (if_neg fun h => h.2.2 hlast).trans ?_
        rw [hdone, if_neg hoff, ← hlast]
        rfl

/-! ## The punch lost, its tape and its orders (R167 to R173) -/

theorem State.latchIf_modPunch (b : Bool) (k : Nat) (f : Punch → Punch) (s : State) :
    (s.modPunch f).latchIf b k = (s.latchIf b k).modPunch f := by
  unfold State.latchIf State.latch
  cases b
  · rfl
  · show (if s.cond.faults.getLsbD k = true then _ else _) =
      State.modPunch f (if s.cond.faults.getLsbD k = true then _ else _)
    split <;> rfl

/-- The state after the last code of the tape, or one at a count of 0 (R165, R170; log 31). -/
def State.tapeRunOut (s : State) : State :=
  State.latchIf (s.punch.tape == 1) Cond.tapeOut
    { s with
      punch := { s.punch with tape := 0 }
      station := { s.station with record := s.station.record.map fun r => { r with punched := counted r.punched } } }

theorem State.countPunched_runOut (s : State) (h : s.punch.tape ≤ 1) :
    s.countPunched = s.tapeRunOut.modPunch fun p => { p with timer := none } := by
  have htape : s.punch.tape - 1 = 0 := by omega
  rw [State.countPunched_eq]
  unfold State.codePunched State.tapeRunOut
  rw [htape, ← State.latchIf_modPunch]
  rfl

theorem State.tapeRunOut_punch (s : State) :
    s.tapeRunOut.punch = { s.punch with tape := 0 } ∧ s.tapeRunOut.store = s.store ∧
      s.tapeRunOut.settings = s.settings := by
  unfold State.tapeRunOut
  rw [State.latchIf_frame]
  exact ⟨rfl, rfl, rfl⟩

/-- A start cause does not see the punch (R158). -/
theorem State.startCause_modPunch (f : Punch → Punch) (s : State) :
    (s.modPunch f).startCause = s.startCause.modPunch f := by
  unfold State.startCause
  show (match s.motor.state with | .stopped => _ | .runup => _ | .running => _) = _
  cases s.motor.state <;> rfl

/-- The recorder test leaves the punch (R92). -/
theorem State.recorderTested_punch (s : State) : s.recorderTested.punch = s.punch := by
  unfold State.recorderTested
  split
  · rw [State.localClearTaken_frame, State.latch_frame]
  · rfl

theorem State.punchLost_tape (jam : Bool) (s : State) : (s.punchLost jam).punch.tape = s.punch.tape := by
  unfold State.punchLost
  rw [State.recorderTested_punch]

theorem State.awaitsTape_iff (s : State) :
    s.awaitsTape = true ↔ s.punch.state = .off ∨ (s.punch.state = .out ∧ s.punch.jamHold = false) := by
  simp [State.awaitsTape]

theorem State.setTape_zero (s : State) : s.setTape 0 = s.tapeEmptied := by
  have hpunch : ({ s with punch := { s.punch with tape := 0 } }.latchIf (s.punch.tape != 0) Cond.tapeOut).punch.state =
      s.punch.state := by rw [State.latchIf_frame]
  unfold State.setTape State.tapeEmptied
  simp only [State.punchOut_eq, beq_self_eq_true, Bool.true_and, true_and]
  rw [show (State.latchIf (s.punch.tape != 0) Cond.tapeOut
    (s.modPunch fun p => { p with tape := 0 })).punch.state = s.punch.state from hpunch]
  rfl

theorem State.tapeEmptied_tape (s : State) : s.tapeEmptied.punch.tape = 0 := by
  unfold State.tapeEmptied
  dsimp only
  split
  · rw [State.punchLost_tape, State.latchIf_frame]
  · rw [State.latchIf_frame]

theorem State.setTape_of_ne_zero (n : Nat) (h : n ≠ 0) (s : State) :
    s.setTape n = { s with punch := { s.punch with tape := n } } := by
  unfold State.setTape
  rw [beq_eq_false_iff_ne.2 h]
  exact if_neg fun h' => h h'.1

/-- ORDER TAPE LOADED by the count that it sets (R168). -/
theorem State.tapeLoaded_eq (n : Nat) (s : State) :
    s.tapeLoaded n =
      if s.loadedTape n = 0 then s.tapeEmptied
      else if s.punch.state = .off ∨ (s.punch.state = .out ∧ s.punch.jamHold = false) then
        { s with
          punch := { s.punch with tape := s.loadedTape n, state := .idle, jamHold := false }
          store := { s.store with cursors := { s.store.cursors with punch := s.store.entries.length } } }
      else { s with punch := { s.punch with tape := s.loadedTape n } } := by
  unfold State.tapeLoaded
  by_cases h0 : s.loadedTape n = 0
  · rw [if_pos h0, h0, State.setTape_zero]
    refine if_neg ?_
    rw [State.tapeEmptied_tape]
    simp
  · rw [if_neg h0, State.setTape_of_ne_zero _ h0]
    by_cases hb : s.punch.state = .off ∨ (s.punch.state = .out ∧ s.punch.jamHold = false)
    · rw [if_pos hb]
      refine (if_pos ?_).trans rfl
      rw [(s.awaitsTape_iff).2 hb]
      simpa using h0
    · rw [if_neg hb]
      refine if_neg ?_
      rw [Bool.eq_false_iff.2 fun h => hb ((s.awaitsTape_iff).1 h)]
      simp

/-- Settles O44: the jam, the last code of the tape, and the tape count. -/
theorem punchLostAndTapeCount : Obligations.PunchLostAndTapeCount := by
  refine ⟨fun s => ⟨fun h => ?jam, fun ht => ⟨fun hop => ?lost, fun m c hop howes => ?last⟩⟩, fun s n low =>
    ⟨fun h => ⟨fun hn => ?zero, fun hn hc => ?emptied, fun hc => ?loaded⟩, fun hl => ?same, fun hl hp => ?high,
      fun hl hp => ?low⟩⟩
  case jam =>
    refine exec_event .punchResponseLimitExpiry s _ rfl ((if_pos h).trans ?_)
    exact State.punchOut_eq true _
  case lost =>
    refine exec_event .punchDone s (s.tapeRunOut.punchLost false) rfl ?_
    show s.punchDone = _
    obtain ⟨hpunch, -, -⟩ := s.tapeRunOut_punch
    have htape : s.tapeRunOut.punch.tape = 0 := by rw [hpunch]
    unfold State.punchDone
    rcases hop with ⟨k, m, c, hop⟩ | hop
    · rw [hop]
      dsimp only
      rw [s.countPunched_runOut ht]
      exact (if_pos htape).trans (State.punchOut_eq false _)
    · rw [hop]
      dsimp only
      rw [s.countPunched_runOut ht]
      refine (if_neg fun h => h.1 htape).trans ?_
      exact (if_pos htape).trans (State.punchOut_eq false _)
  case last =>
    refine exec_event .punchDone s (State.punchLost false { s.tapeRunOut with store := s.storeAfter .punch }) rfl ?_
    show s.punchDone = _
    obtain ⟨hpunch, hstore, hset⟩ := s.tapeRunOut_punch
    have htape : s.tapeRunOut.punch.tape = 0 := by rw [hpunch]
    have hcount : State.owes (s.tapeRunOut.modPunch fun p => { p with timer := none }) .punch :=
      (State.owes_congr .punch hstore).2 howes
    have hafter : State.storeAfter .punch (s.tapeRunOut.modPunch fun p => { p with timer := none }) =
        s.storeAfter .punch :=
      State.storeAfter_congr .punch hstore hset
    unfold State.punchDone
    rw [hop]
    dsimp only
    rw [s.countPunched_runOut ht, State.consume_one _ _ hcount, hafter]
    exact (if_pos htape).trans (State.punchOut_eq false _)
  case zero => exact exec_frame_refused (.orderTapeLoaded n) s _ rfl h (if_pos hn)
  case emptied =>
    refine exec_frame (.orderTapeLoaded n) s _ .grant rfl h ((if_neg hn).trans ?_)
    rw [State.tapeLoaded_eq]
    exact congrArg (·, Reply.grant) (if_pos hc)
  case loaded =>
    have hn : n ≠ 0 := by
      rintro rfl
      refine hc ?_
      split <;> simp
    refine exec_frame (.orderTapeLoaded n) s _ .grant rfl h ((if_neg hn).trans ?_)
    rw [State.tapeLoaded_eq]
    exact congrArg (·, Reply.grant) (if_neg hc)
  case same => exact exec_event (.tapeLowChange low) s s rfl (if_pos hl)
  case high =>
    refine exec_event (.tapeLowChange low) s _ rfl ((if_neg (by simp [hl, hp])).trans ?_)
    subst hl
    rfl
  case low =>
    refine exec_event (.tapeLowChange low) s _ rfl ((if_neg (by simp [hl, hp])).trans ?_)
    subst hl
    exact State.cutTape_eq _

/-- Settles O45: each order by the punch's state. -/
theorem ordersToThePunch : Obligations.OrdersToThePunch := by
  intro s n h
  refine ⟨fun hn => exec_frame_refused (.orderPunchLeader n) s _ rfl h (if_pos hn), fun hn hs => ?refused,
    fun hn hs ht => ?leader, ?off, ?on⟩
  case refused =>
    refine exec_frame_refused (.orderPunchLeader n) s _ rfl h ((if_neg hn).trans ?_)
    exact congrArg s.grantOr (if_pos hs)
  case leader =>
    refine exec_frame (.orderPunchLeader n) s _ .grant rfl h ((if_neg hn).trans ?_)
    refine (congrArg s.grantOr (if_neg fun hc => ?_)).trans ?_
    · rcases hc with hc | hc | hc
      · rcases hs with hs | hs <;> rw [hs] at hc <;> cases hc
      · rcases hs with hs | hs <;> rw [hs] at hc <;> cases hc
      · exact ht hc
    · rw [State.startCause_modPunch, State.startCause_frame]
      rfl
  case off =>
    refine exec_frame .orderPunchOff s _ .grant rfl h (congrArg (·, Reply.grant) ?_)
    show s.punchOff = _
    unfold State.punchOff
    rw [State.punchOffNow_eq]
    rfl
  case on =>
    have refused (hp : s.punchOn = none) :
        exec .orderPunchOn s = .next (s.idleWatched (s.answered (.reject .state))) :=
      exec_frame_refused .orderPunchOn s _ rfl h (congrArg s.grantOr hp)
    have granted (t : State) (hp : s.punchOn = some t) :
        exec .orderPunchOn s = .next (s.idleWatched (t.answered .grant)) :=
      exec_frame .orderPunchOn s t _ rfl h (congrArg s.grantOr hp)
    cases hs : s.punch.state
    case idle | busy =>
      rw [if_pos (by simp)]
      refine granted s ?_
      unfold State.punchOn
      rw [hs]
    case off =>
      rw [if_neg (by simp)]
      by_cases ht : s.punch.tape = 0
      · rw [if_pos (Or.inl ht)]
        refine refused ?_
        unfold State.punchOn
        rw [hs]
        exact if_pos ht
      · rw [if_neg (by simp [ht])]
        refine granted _ ?_
        unfold State.punchOn
        rw [hs]
        exact if_neg ht
    case out =>
      rw [if_neg (by simp)]
      by_cases ht : s.punch.tape = 0 ∨ s.punch.jamHold = false
      · rw [if_pos (ht.imp id fun hj => ⟨rfl, hj⟩)]
        refine refused ?_
        unfold State.punchOn
        rw [hs]
        exact if_pos ht
      · rw [if_neg fun hc => ht (hc.imp id And.right)]
        refine granted _ ?_
        unfold State.punchOn
        rw [hs]
        exact if_neg ht

/-! ## The motor (R158 to R161) -/

theorem State.idleConditions_iff (s : State) :
    s.idleConditions = true ↔
      s.call.state = .free ∧ (∀ e ∈ s.store.entries, e.pending.print = false ∧ e.pending.punch = false) ∧
        s.printer.op = none ∧ s.printer.aborted = none ∧ s.punch.op = none ∧ s.punch.leader = 0 := by
  simp [State.idleConditions, and_assoc]

/-- Settles O46: the motor's causes and timers. -/
theorem motor : Obligations.Motor := by
  intro s
  refine ⟨fun h => ⟨?start, ?stop⟩, fun hm ht => ?runUp, fun hm ht => ?idleStop⟩
  case start =>
    refine exec_frame .orderMotorStart s _ .grant rfl h (congrArg (·, Reply.grant) ?_)
    unfold State.startCause
    cases s.motor.state
    case stopped | runup => rfl
    case running =>
      dsimp only [State.modMotor]
      cases s.motor.idleStop <;> rfl
  case stop =>
    by_cases hi : s.idleConditions = true
    · rw [if_pos ((s.idleConditions_iff).1 hi)]
      exact exec_frame .orderMotorStop s _ .grant rfl h (congrArg s.grantOr (if_pos hi))
    · rw [if_neg fun hc => hi ((s.idleConditions_iff).2 hc)]
      exact exec_frame_refused .orderMotorStop s _ rfl h (congrArg s.grantOr (if_neg hi))
  case runUp =>
    refine exec_event .runUpExpiry s _ rfl ((if_neg (Timer.running ht)).trans ?_)
    unfold State.modMotor
    dsimp only
    rw [if_pos hm]
  case idleStop =>
    refine exec_event .idleStopExpiry s _ rfl ((if_neg (Timer.running ht)).trans ?_)
    unfold State.modMotor
    dsimp only
    rw [if_pos hm]

end Sys2Proof.Machine
end

section
/-! PROOFS. The host link: the frame receiver, READ and WRITE, the channels and the link transmitter. -/

namespace Sys2Proof.Machine

/-! ## The frame receiver, byte by byte (R189, R190) -/

theorem linkBits_getLsbD (b : Byte) (i : Nat) :
    (linkBits b).getLsbD i = if i = 0 then false else if i < 9 then b.getLsbD (i - 1) else decide (i = 9) := by
  show (1#1 ++ b ++ 0#1 : BitVec (1 + 8 + 1)).getLsbD i = _
  rw [BitVec.getLsbD_append, BitVec.getLsbD_append]
  by_cases h0 : i = 0
  · simp [h0]
  · rw [if_neg h0, if_neg (by omega)]
    by_cases h9 : i < 9
    · rw [if_pos h9, if_pos (by omega)]
    · rw [if_neg h9, if_neg (by omega)]
      by_cases h : i = 9
      · subst h
        rfl
      · rw [BitVec.getLsbD_of_ge _ _ (by omega)]
        simp [h]

/-- What the end of a byte on HOST_RX leads to: the receiver's next state, and the commands of a frame that it ends or
drops. -/
def State.byteEnded (byte : Option Byte) (s : State) : FrameRx × List Instr :=
  if s.link.resetPending = true ∨ s.link.busy = 65535 then (.hunt, [])
  else match s.link.rx, byte with
    | .hunt, some b => (if b = 0xA5 then .kind else .hunt, [])
    | .hunt, none => (.hunt, [])
    | .kind, some kind => (.len kind, [])
    | .len kind, some n =>
      if 64 < n.toNat then (.hunt, [.frameBadLength])
      else if n = 0 then (.check kind [], [])
      else (.body kind n.toNat [], [])
    | .body kind n stored, some b =>
      if n ≤ stored.length + 1 then (.check kind (stored ++ [b]), []) else (.body kind n (stored ++ [b]), [])
    | .check kind body, some b =>
      if b = frameCheck (kind :: BitVec.ofNat 8 body.length :: body) then (.hunt, [frameCommand kind body])
      else (.hunt, [.frameBadCheck])
    | _, none => (.hunt, [.frameByteError])

theorem State.byteEnded_eq (byte : Option Byte) (s : State) :
    s.byteEnded byte =
      ((if s.deaf then (.hunt, none) else s.link.rx.receive byte).1
      , (if s.deaf then ((.hunt, none) : FrameRx × Option Instr) else s.link.rx.receive byte).2.toList) := by
  have hdeaf : s.deaf = true ↔ s.link.resetPending = true ∨ s.link.busy = 65535 := by simp [State.deaf]
  unfold State.byteEnded
  by_cases hd : s.link.resetPending = true ∨ s.link.busy = 65535
  · rw [if_pos hd, if_pos (hdeaf.2 hd)]
    rfl
  · rw [if_neg hd, if_neg fun h => hd (hdeaf.1 h)]
    cases hrx : s.link.rx with
    | hunt | kind => cases byte <;> rfl
    | len kind =>
      cases byte with
      | none => rfl
      | some n =>
        have hn : n.toNat ≤ 0 ↔ n = 0 := by
          rw [Nat.le_zero]
          exact ⟨fun h => BitVec.eq_of_toNat_eq h, fun h => congrArg BitVec.toNat h⟩
        unfold FrameRx.receive FrameRx.storing
        dsimp only [List.length_nil]
        by_cases hl : 64 < n.toNat
        · rw [if_pos hl, if_pos hl]
          rfl
        · rw [if_neg hl, if_neg hl]
          by_cases h0 : n = 0
          · rw [if_pos h0, if_pos (hn.2 h0)]
            rfl
          · rw [if_neg h0, if_neg fun h => h0 (hn.1 h)]
            rfl
    | body kind n stored =>
      cases byte with
      | none => rfl
      | some b =>
        unfold FrameRx.receive FrameRx.storing
        dsimp only
        rw [List.length_append, List.length_singleton]
        split <;> rfl
    | check kind body =>
      cases byte with
      | none => rfl
      | some b =>
        unfold FrameRx.receive checkedCommand
        dsimp only
        split <;> rfl

theorem State.byteEnded_congr {s t : State} (byte : Option Byte) (hx : t.link.rx = s.link.rx)
    (hb : t.link.busy = s.link.busy) (hr : t.link.resetPending = s.link.resetPending) :
    t.byteEnded byte = s.byteEnded byte := by
  unfold State.byteEnded
  rw [hx, hb, hr]

theorem State.receiveByte_shows (byte : Option Byte) (s : State) :
    (s.receiveByte byte).hostRx = s.hostRx ∧ (s.receiveByte byte).link.rx = (s.byteEnded byte).1 ∧
      (s.receiveByte byte).link.gap = (if (s.byteEnded byte).1 = .hunt then none else some (288 * 50 + 1)) ∧
      (s.receiveByte byte).pending = s.pending ++ (s.byteEnded byte).2 := by
  rw [State.byteEnded_eq]
  exact ⟨rfl, rfl, rfl, rfl⟩

theorem State.timersTick_hostRx (s : State) : s.timersTick.hostRx = s.hostRx := by simp [State.timersTick]

theorem State.timersTick_pending (s : State) : s.timersTick.pending = s.pending := by simp [State.timersTick]

/-- One unit of time at the link (R189). -/
theorem State.timersTick_link (s : State) :
    s.timersTick.link =
      { s.link with
        timer := s.link.timer.tick, gap := s.link.gap.tick
        capture := { s.link.capture with flush := s.link.capture.flush.tick } } := by simp [State.timersTick]

/-- The tick of HOST_RX at the end of a byte (R189; log 39). -/
theorem State.tick_byteEnd (s : State) (w : LinkByte) (rest : List LinkByte) (hr : s.pins.reset = false)
    (hb : s.hostRx.bytes = w :: rest) (ht : s.hostRx.timer = some 1) :
    s.tick.hostRx = { bytes := rest, timer := none } ∧ s.tick.link.rx = (s.byteEnded (linkByte w.bits)).1 ∧
      s.tick.link.gap =
        (if (s.byteEnded (linkByte w.bits)).1 = .hunt then none else some (288 * 50 + 1)) ∧
      s.tick.pending = s.pending ++ (s.byteEnded (linkByte w.bits)).2 := by
  have htick : s.tick =
      State.receiveByte (linkByte w.bits) (s.timersTick.modHostRx fun _ => { bytes := rest, timer := none }) := by
    unfold State.tick
    rw [if_neg (by rw [hr]; exact Bool.false_ne_true)]
    unfold State.hostRxTick
    rw [s.timersTick_hostRx, hb, ht]
    rfl
  have hlink := s.timersTick_link
  have hpend := s.timersTick_pending
  rw [htick]
  generalize s.timersTick = v at *
  obtain ⟨h1, h2, h3, h4⟩ := State.receiveByte_shows (linkByte w.bits)
    (v.modHostRx fun _ => { bytes := rest, timer := none })
  have hended : State.byteEnded (linkByte w.bits) (v.modHostRx fun _ => { bytes := rest, timer := none }) =
      s.byteEnded (linkByte w.bits) := by
    refine State.byteEnded_congr (linkByte w.bits) ?_ ?_ ?_
    · exact (congrArg (·.rx) hlink :)
    · exact (congrArg (·.busy) hlink :)
    · exact (congrArg (·.resetPending) hlink :)
  rw [hended] at h2 h3 h4
  exact ⟨h1, h2, h3, h4.trans (congrArg (· ++ _) hpend)⟩

/-- The tick of HOST_RX before the end of a byte (R189; log 39). -/
theorem State.tick_midByte (s : State) (w : LinkByte) (rest : List LinkByte) (hr : s.pins.reset = false)
    (hb : s.hostRx.bytes = w :: rest) :
    (s.hostRx.timer = none → w.idle ≠ 0 →
      s.tick = s.timersTick.modHostRx fun r => { r with bytes := { w with idle := w.idle - 1 } :: rest }) ∧
    (s.hostRx.timer = none → w.idle = 0 →
      s.tick =
        (s.timersTick.modHostRx fun r => { r with timer := some (byteUnits s.timersTick.link.rateStrap - 1) }).modLink
          fun l => { l with gap := none }) ∧
    ∀ n, s.hostRx.timer = some (n + 2) →
      s.tick = s.timersTick.modHostRx fun r => { r with timer := some (n + 1) } := by
  have htick : s.tick = s.timersTick.hostRxTick := if_neg (by rw [hr]; exact Bool.false_ne_true)
  have hbytes := congrArg HostWire.bytes s.timersTick_hostRx
  have htimer := congrArg HostWire.timer s.timersTick_hostRx
  rw [htick]
  generalize s.timersTick = v at *
  unfold State.hostRxTick
  refine ⟨fun ht hi => ?_, fun ht hi => ?_, fun n ht => ?_⟩
  · rw [hbytes, htimer, hb, ht]
    exact if_neg hi
  · rw [hbytes, htimer, hb, ht]
    exact if_pos hi
  · rw [hbytes, htimer, hb, ht]
    exact if_neg (show ¬n + 2 ≤ 1 by omega)

theorem exec_frameBadLength_ready (s : State) (h : s.ready) :
    exec .frameBadLength s = .next (s.idleWatched
      { s with link := { s.link with rx := .hunt, gap := none, replies := s.link.replies ++ [.reject .length] } }) :=
  exec_event .frameBadLength s _ rfl (State.refuseFrame_ready .length s h)

/-- Settles O48: the frames refused and dropped, then the receiver's ticks. -/
theorem refusedAndDroppedFrames : Obligations.RefusedAndDroppedFrames := by
  refine ⟨fun s first bytes => ⟨fun h => ?refused, exec_event .frameGapTimeout s _ rfl rfl,
    exec_event .frameByteError s _ rfl rfl⟩, fun b => ⟨?start, ?stop, fun k hk => ?data⟩, fun _ => rfl,
    by decide, by decide, by decide, by decide, fun s w rest hr hb => ?ticks, fun s hrx hg => ?gap⟩
  case refused =>
    exact ⟨exec_frameBadLength_ready s h, exec_frame_refused .frameUnknownKind s _ rfl h rfl,
      exec_frame_refused (.orderUnknownCode bytes) s _ rfl h rfl,
      exec_frame_refused (.writeUnknownTable bytes) s _ rfl h rfl,
      exec_frame_refused (.writeLog first bytes) s _ rfl h rfl⟩
  case start => rw [linkBits_getLsbD, if_pos rfl]
  case stop => rw [linkBits_getLsbD, if_neg (by decide), if_neg (by decide), decide_eq_true rfl]
  case data => rw [linkBits_getLsbD, if_neg (by omega), if_pos (by omega), Nat.add_sub_cancel]
  case ticks =>
    obtain ⟨hidle, hstart, hbits⟩ := s.tick_midByte w rest hr hb
    have hlink := s.timersTick_link
    have hpend := s.timersTick_pending
    have hhost := s.timersTick_hostRx
    have hrx : s.timersTick.link.rx = s.link.rx := by rw [hlink]
    have hgap : s.timersTick.link.gap = s.link.gap.map (· - 1) := by rw [hlink]; rfl
    have hrate : s.timersTick.link.rateStrap = s.link.rateStrap := by rw [hlink]
    refine ⟨fun ht hi => ?_, fun ht hi => ?_, fun n ht => ?_, fun ht => s.tick_byteEnd w rest hr hb ht⟩
    · rw [hidle ht hi]
      clear hidle hstart hbits
      generalize s.timersTick = v at *
      refine ⟨?_, hgap, hrx, hpend⟩
      show ({ bytes := { w with idle := w.idle - 1 } :: rest, timer := v.hostRx.timer } : HostWire) = _
      rw [hhost, ht]
    · rw [hstart ht hi, ← hrate]
      clear hidle hstart hbits
      generalize s.timersTick = v at *
      refine ⟨?_, rfl, hrx, hpend⟩
      show ({ bytes := v.hostRx.bytes, timer := some (byteUnits v.link.rateStrap - 1) } : HostWire) = _
      rw [hhost, hb]
    · rw [hbits n ht]
      clear hidle hstart hbits
      generalize s.timersTick = v at *
      refine ⟨?_, hrx, hpend⟩
      show ({ bytes := v.hostRx.bytes, timer := some (n + 1) } : HostWire) = _
      rw [hhost, hb]
  case gap =>
    have hat : s.dueEvents[20]? =
        some (dueWhen (s.link.rx != .hunt && s.link.gap.expired) .frameGapTimeout) := rfl
    have hdue : dueWhen (s.link.rx != .hunt && s.link.gap.expired) .frameGapTimeout = some .frameGapTimeout :=
      if_pos (by simp [hrx, hg, Timer.expired])
    exact List.mem_of_getElem? (hat.trans (congrArg some hdue))

/-- Settles O49: a deaf receiver, and one without a place for the reply. -/
theorem busyAndDeafReceiver : Obligations.BusyAndDeafReceiver := by
  intro c s hc
  have htake : exec c s = .next (s.idleWatched (s.takeFrame (frameRule c))) := by
    rw [exec_eq_next]
    unfold effect
    rw [if_pos hc]
  refine ⟨fun hr => ?deaf, fun hr hb hfull => ?busy⟩
  case deaf =>
    rw [htake]
    unfold State.takeFrame
    rw [if_pos (by simp [State.deaf, hr])]
  case busy =>
    rw [htake]
    unfold State.takeFrame
    rw [if_neg (by simp [State.deaf, hr]; omega)]
    unfold State.answerFrame
    rw [if_neg (by simp [State.replyRoom]; omega)]
    rfl

/-! ## The entries of a WRITE, byte by byte (R193) -/

/-- A body that spells entries is taken when they stay inside the table (R193). -/
theorem writeEntries_flatMap {α : Type} (size n : Nat) (hn : 0 < n) (parse : List Byte → Option α)
    (bytes : α → List Byte)
    (first : Byte) (es : List α) (he : es ≠ []) (hb : ∀ e ∈ es, (bytes e).length = n ∧ parse (bytes e) = some e) :
    writeEntries size n parse first (es.flatMap bytes) =
      if first.toNat + es.length ≤ size then some es else none := by
  unfold writeEntries
  rw [parseEntries_flatMap n hn parse bytes es hb he]

/-- Each entry of a body that is taken is read from its own bytes. -/
theorem writeEntries_parse {α : Type} {size n : Nat} {parse : List Byte → Option α} {first : Byte} {data : List Byte}
    {es : List α} (h : writeEntries size n parse first data = some es) (i : Nat) (hi : n * i < data.length) :
    ∃ e, parse ((data.drop (n * i)).take n) = some e := by
  obtain ⟨hp, -⟩ := writeEntries_some h
  obtain ⟨-, hlen, hread⟩ := parseEntries_some n parse data es hp
  have hlt : i < es.length := by
    rw [hlen] at hi
    exact Nat.lt_of_mul_lt_mul_left hi
  exact ⟨es[i], hread i es[i] (List.getElem?_eq_getElem hlt)⟩

/-- In a body that is taken each byte has what the parse of an entry asks of its place. -/
theorem writeEntries_byte {α : Type} {size n : Nat} (hn : 0 < n) {parse : List Byte → Option α} {first : Byte}
    {data : List Byte} {es : List α} (h : writeEntries size n parse first data = some es) (P : Nat → Byte → Prop)
    (hP : ∀ l e, parse l = some e → ∀ j b, l[j]? = some b → P j b) (i : Nat) (b : Byte) (hb : data[i]? = some b) :
    P (i % n) b := by
  obtain ⟨hi, -⟩ := List.getElem?_eq_some_iff.1 hb
  have hdiv := Nat.div_add_mod i n
  obtain ⟨e, he⟩ := writeEntries_parse h (i / n) (by omega)
  refine hP _ e he (i % n) b ?_
  rw [List.getElem?_take_of_lt (Nat.mod_lt i hn), List.getElem?_drop, hdiv]
  exact hb

/-- A body that is empty, no whole number of entries, or has a byte that no entry has at its place is not taken
(R193). -/
theorem writeEntries_eq_none {α : Type} {size n : Nat} (hn : 0 < n) {parse : List Byte → Option α} (first : Byte)
    {data : List Byte} (P : Nat → Byte → Prop) (hP : ∀ l e, parse l = some e → ∀ j b, l[j]? = some b → P j b)
    (h : data = [] ∨ data.length % n ≠ 0 ∨ ∃ i b, data[i]? = some b ∧ ¬P (i % n) b) :
    writeEntries size n parse first data = none := by
  cases hw : writeEntries size n parse first data with
  | none => rfl
  | some es =>
    obtain ⟨hp, -⟩ := writeEntries_some hw
    obtain ⟨hne, hlen, -⟩ := parseEntries_some n parse data es hp
    rcases h with rfl | h | ⟨i, b, hb, hbad⟩
    · have h0 : es.length = 0 := by
        rw [List.length_nil] at hlen
        exact (Nat.mul_eq_zero.1 hlen.symm).resolve_left (by omega)
      exact absurd (List.length_eq_zero_iff.1 h0) hne
    · rw [hlen, Nat.mul_mod_right] at h
      exact absurd rfl h
    · exact absurd (writeEntries_byte hn hw P hP i b hb) hbad

/-! ## Each kind of entry and its bytes (section 10.9) -/

theorem icharOf_icharByte (c : IChar) : icharOf (icharByte c) = some c := by
  have hc : c.toNat < 128 := c.isLt
  have hb : (icharByte c).toNat = c.toNat := by
    unfold icharByte
    rw [BitVec.toNat_setWidth]
    exact Nat.mod_eq_of_lt (by omega)
  unfold icharOf
  rw [if_pos (by omega)]
  refine congrArg some (BitVec.eq_of_toNat_eq ?_)
  rw [BitVec.toNat_setWidth, hb]
  exact Nat.mod_eq_of_lt hc

theorem icharOf_some {b : Byte} {c : IChar} (h : icharOf b = some c) : b.toNat ≤ 127 := by
  unfold icharOf at h
  split at h
  · assumption
  · cases h

theorem CharClass.ofCode_code (k : CharClass) : CharClass.ofCode (byteOf k.code).toNat = some k := by cases k <;> rfl

theorem CharClass.ofCode_some {n : Nat} {k : CharClass} (h : CharClass.ofCode n = some k) : n ≤ 9 := by
  unfold CharClass.ofCode at h
  split at h
  case h_11 => cases h
  all_goals omega

theorem TransEntry.ofBytes_bytes (e : TransEntry) :
    e.bytes.length = 2 ∧ TransEntry.ofBytes e.bytes = some e := by
  refine ⟨rfl, ?_⟩
  show (match icharOf (icharByte e.char), CharClass.ofCode (byteOf e.cls.code).toNat with
    | some c, some k => some { char := c, cls := k }
    | _, _ => none) = some e
  rw [icharOf_icharByte, CharClass.ofCode_code]

theorem TransEntry.ofBytes_some (l : List Byte) (e : TransEntry) (h : TransEntry.ofBytes l = some e) (j : Nat)
    (b : Byte)
    (hb : l[j]? = some b) : b.toNat ≤ if j = 0 then 127 else 9 := by
  unfold TransEntry.ofBytes at h
  split at h
  · split at h
    · rename_i hc hk
      match j with
      | 0 =>
        cases hb
        exact icharOf_some hc
      | 1 =>
        cases hb
        exact CharClass.ofCode_some hk
    · cases h
  · cases h

theorem RouteEntry.ofBytes_bytes (e : RouteEntry) :
    e.bytes.length = 1 ∧ RouteEntry.ofBytes e.bytes = some e := by
  obtain ⟨print, punch, capture, line⟩ := e
  refine ⟨rfl, ?_⟩
  revert print punch capture line
  decide

theorem RouteEntry.ofBytes_some (l : List Byte) (e : RouteEntry) (h : RouteEntry.ofBytes l = some e) (j : Nat)
    (b : Byte)
    (hb : l[j]? = some b) : b.toNat ≤ 15 := by
  unfold RouteEntry.ofBytes at h
  split at h
  · split at h
    · match j with
      | 0 =>
        cases hb
        assumption
    · cases h
  · cases h

theorem SeqAction.ofCode_code (a : SeqAction) : SeqAction.ofCode (byteOf a.code).toNat = some a := by cases a <;> rfl

theorem SeqAction.ofCode_some {n : Nat} {a : SeqAction} (h : SeqAction.ofCode n = some a) : n ≤ 6 := by
  unfold SeqAction.ofCode at h
  split at h
  case h_8 => cases h
  all_goals omega

theorem allSome_icharOf (cs : List IChar) : allSome ((cs.map icharByte).map icharOf) = some cs := by
  rw [List.map_map]
  have : cs.map (icharOf ∘ icharByte) = cs.map some := List.map_congr_left fun c _ => icharOf_icharByte c
  rw [this, allSome_map_some]

theorem SeqEntry.modes_bytes (a b c d : Bool) :
    byteOf (bit a 0 + bit b 1 + bit c 2 + bit d 7) &&& 0x78 = 0 ∧
      (byteOf (bit a 0 + bit b 1 + bit c 2 + bit d 7)).getLsbD 0 = a ∧
      (byteOf (bit a 0 + bit b 1 + bit c 2 + bit d 7)).getLsbD 1 = b ∧
      (byteOf (bit a 0 + bit b 1 + bit c 2 + bit d 7)).getLsbD 2 = c ∧
      (byteOf (bit a 0 + bit b 1 + bit c 2 + bit d 7)).getLsbD 7 = d := by
  revert a b c d
  decide

theorem SeqEntry.ofBytes_bytes (e : SeqEntry) (hl : e.length ≤ 8) (hp : e.pattern.length = 8) :
    e.bytes.length = 11 ∧ SeqEntry.ofBytes e.bytes = some e := by
  obtain ⟨length, pattern, action, inLocal, inAttended, inUnattended, noticeFlag⟩ := e
  dsimp only at hl hp
  match pattern, hp with
  | [p1, p2, p3, p4, p5, p6, p7, p8], _ =>
    refine ⟨rfl, ?_⟩
    have hchars := allSome_icharOf [p1, p2, p3, p4, p5, p6, p7, p8]
    have hlen : (byteOf length).toNat = length := by
      unfold byteOf
      rw [BitVec.toNat_ofNat]
      exact Nat.mod_eq_of_lt (by omega)
    obtain ⟨hm, h0, h1, h2, h7⟩ := SeqEntry.modes_bytes inLocal inAttended inUnattended noticeFlag
    simp only [List.map_cons, List.map_nil] at hchars
    simp only [SeqEntry.bytes, List.map_cons, List.map_nil, List.cons_append, List.nil_append,
      SeqEntry.ofBytes, hchars, SeqAction.ofCode_code, hlen, hl, hm, h0, h1, h2, h7, and_self, if_true]

theorem SeqEntry.ofBytes_some (l : List Byte) (e : SeqEntry) (h : SeqEntry.ofBytes l = some e) (j : Nat) (b : Byte)
    (hb : l[j]? = some b) :
    if j = 0 then b.toNat ≤ 8
    else if j ≤ 8 then b.toNat ≤ 127
    else if j = 9 then b.toNat ≤ 6
    else b &&& 0x78 = 0 := by
  unfold SeqEntry.ofBytes at h
  split at h
  · rename_i len p1 p2 p3 p4 p5 p6 p7 p8 act modes
    split at h
    · rename_i pattern action hpat hact
      split at h
      · rename_i hlm
        obtain ⟨hlen, hmodes⟩ := hlm
        have hchars : ∀ q ∈ [p1, p2, p3, p4, p5, p6, p7, p8], q.toNat ≤ 127 := by
          intro q hq
          have hmem : icharOf q ∈ [p1, p2, p3, p4, p5, p6, p7, p8].map icharOf := List.mem_map_of_mem hq
          rw [allSome_some _ _ hpat] at hmem
          obtain ⟨c, -, hc⟩ := List.mem_map.1 hmem
          exact icharOf_some hc.symm
        match j with
        | 0 => cases hb; exact hlen
        | 9 => cases hb; exact SeqAction.ofCode_some hact
        | 10 => cases hb; exact hmodes
        | 1 | 2 | 3 | 4 | 5 | 6 | 7 | 8 => cases hb; exact hchars _ (by simp)
      · cases h
    · cases h
  · cases h

theorem KeyFunction.ofCode_code (f : KeyFunction) : KeyFunction.ofCode (byteOf f.code).toNat = some f := by
  cases f <;> rfl

theorem KeyFunction.ofCode_some {n : Nat} {f : KeyFunction} (h : KeyFunction.ofCode n = some f) : n ≤ 7 := by
  unfold KeyFunction.ofCode at h
  split at h
  case h_9 => cases h
  all_goals omega

theorem KeyEntry.ofBytes_bytes (e : KeyEntry) : e.bytes.length = 2 ∧ KeyEntry.ofBytes e.bytes = some e := by
  cases e with
  | none => exact ⟨rfl, rfl⟩
  | char c =>
    refine ⟨rfl, ?_⟩
    show (icharOf (icharByte c)).map KeyEntry.char = _
    rw [icharOf_icharByte]
    rfl
  | function f =>
    refine ⟨rfl, ?_⟩
    show (KeyFunction.ofCode (byteOf f.code).toNat).map KeyEntry.function = _
    rw [KeyFunction.ofCode_code]
    rfl

theorem KeyEntry.ofBytes_some (k v : Byte) (e : KeyEntry) (h : KeyEntry.ofBytes [k, v] = some e) :
    ¬(2 < k.toNat ∨ (k = 0 ∧ v ≠ 0) ∨ (k = 1 ∧ 127 < v.toNat) ∨ (k = 2 ∧ 7 < v.toNat)) := by
  unfold KeyEntry.ofBytes at h
  dsimp only at h
  rintro (hk | ⟨rfl, hv⟩ | ⟨rfl, hv⟩ | ⟨rfl, hv⟩)
  · split at h
    · omega
    · omega
    · omega
    · cases h
  · have h : (if v.toNat = 0 then some KeyEntry.none else Option.none) = some e := h
    split at h
    · exact hv (BitVec.eq_of_toNat_eq ‹_›)
    · cases h
  · have h : (icharOf v).map KeyEntry.char = some e := h
    obtain ⟨c, hc, -⟩ := Option.map_eq_some_iff.1 h
    have := icharOf_some hc
    omega
  · have h : (KeyFunction.ofCode v.toNat).map KeyEntry.function = some e := h
    obtain ⟨f, hf, -⟩ := Option.map_eq_some_iff.1 h
    have := KeyFunction.ofCode_some hf
    omega

theorem codeOfByte_setWidth (c : Code) : codeOfByte (c.setWidth 8) = some c := by
  have hc : c.toNat < 32 := c.isLt
  have hb : (c.setWidth 8).toNat = c.toNat := by
    rw [BitVec.toNat_setWidth]
    exact Nat.mod_eq_of_lt (by omega)
  unfold codeOfByte
  rw [if_pos (by omega)]
  refine congrArg some (BitVec.eq_of_toNat_eq ?_)
  rw [BitVec.toNat_setWidth, hb]
  exact Nat.mod_eq_of_lt hc

/-- Three bytes, most significant first, and the set that they spell. -/
theorem set3_bytes3 (m : CondSet) :
    set3 (byteOf (m.toNat / 65536)) (byteOf (m.toNat / 256)) (byteOf m.toNat) = m := by
  have hm : m.toNat < 2 ^ 24 := m.isLt
  refine BitVec.eq_of_toNat_eq ?_
  unfold set3 byteOf
  rw [BitVec.toNat_append, BitVec.toNat_append, BitVec.toNat_ofNat, BitVec.toNat_ofNat, BitVec.toNat_ofNat,
    ← Nat.shiftLeft_add_eq_or_of_lt (Nat.mod_lt _ (by decide)),
    ← Nat.shiftLeft_add_eq_or_of_lt (Nat.mod_lt _ (by decide)),
    Nat.shiftLeft_eq, Nat.shiftLeft_eq]
  omega

theorem SignalEntry.flags_bytes (m : SignalMode) (a b c : Bool) :
    (byteOf (m.code + bit a 2 + bit b 3 + bit c 4)).toNat ≤ 31 ∧
      (byteOf (m.code + bit a 2 + bit b 3 + bit c 4)).getLsbD 2 = a ∧
      (byteOf (m.code + bit a 2 + bit b 3 + bit c 4)).getLsbD 3 = b ∧
      (byteOf (m.code + bit a 2 + bit b 3 + bit c 4)).getLsbD 4 = c ∧
      (byteOf (m.code + bit a 2 + bit b 3 + bit c 4)).toNat % 4 = m.code := by
  cases m <;> revert a b c <;> decide

theorem SignalEntry.ofBytes_bytes (e : SignalEntry) (h : e.mask.toNat < 2 ^ 18) :
    e.bytes.length = 4 ∧ SignalEntry.ofBytes e.bytes = some e := by
  obtain ⟨mode, activeLow, latched, directLevel, mask⟩ := e
  obtain ⟨h31, h2, h3, h4, hmode⟩ := SignalEntry.flags_bytes mode activeLow latched directLevel
  refine ⟨rfl, ?_⟩
  simp only [SignalEntry.bytes, bytes3, SignalEntry.ofBytes, set3_bytes3, h31, h, h2, h3, h4, hmode, and_self, if_true]
  cases mode <;> rfl

theorem SignalEntry.ofBytes_some (l : List Byte) (e : SignalEntry) (h : SignalEntry.ofBytes l = some e) (j : Nat)
    (b : Byte)
    (hb : l[j]? = some b) :
    ¬((j = 0 ∧ (31 < b.toNat ∨ b.toNat % 4 = 3)) ∨ (j = 1 ∧ 3 < b.toNat)) := by
  unfold SignalEntry.ofBytes at h
  split at h
  · rename_i c m2 m1 m0
    dsimp only at h
    split at h
    · rename_i hc
      obtain ⟨h31, hmask⟩ := hc
      rintro (⟨rfl, hbad⟩ | ⟨rfl, hbad⟩)
      · cases hb
        rcases hbad with hbad | hbad
        · omega
        · rw [hbad] at h
          cases h
      · cases hb
        unfold set3 at hmask
        rw [BitVec.toNat_append, BitVec.toNat_append, ← Nat.shiftLeft_add_eq_or_of_lt m0.isLt,
          ← Nat.shiftLeft_add_eq_or_of_lt m1.isLt, Nat.shiftLeft_eq, Nat.shiftLeft_eq] at hmask
        omega
    · cases h
  · cases h

/-! ## WRITE of the tables (R4, R14, R83, R97, R105, R120, R193, R210) -/

theorem State.tableLock_iff (s : State) :
    s.tableLock = true ↔ s.call.state ≠ .free ∨ s.kb.queue ≠ [] ∨ s.link.send.queue ≠ [] := by
  simp [State.tableLock, or_assoc]

theorem addresses_iff (first : Byte) (n i : Nat) :
    addresses first n i = true ↔ first.toNat ≤ i ∧ i < first.toNat + n := by
  simp [addresses]

theorem lineMisplaced_iff (first : Byte) (es : List RouteEntry) :
    lineMisplaced first es = true ↔
      ∃ (n : Nat) (e : RouteEntry), es[n]? = some e ∧ e.line = true ∧
        (first.toNat + n < 3 ∨ 9 ≤ first.toNat + n) := by
  unfold lineMisplaced
  rw [List.any_eq_true]
  refine ⟨fun ⟨⟨n, e⟩, hx, h⟩ => ⟨n, e, (mem_range_zip es n e).1 hx, by simpa using h⟩,
    fun ⟨n, e, hn, h⟩ => ⟨(n, e), (mem_range_zip es n e).2 hn, by simpa using h⟩⟩

/-- A table write behind the lock: refused with STATE, then RANGE, then granted (R14). -/
theorem State.writeTranslate_eq (first : Byte) (data : List Byte) (s : State) :
    s.writeTranslate first data =
      if s.call.state ≠ .free ∨ s.kb.queue ≠ [] ∨ s.link.send.queue ≠ [] then s.reject .state
      else
        match writeEntries 64 2 TransEntry.ofBytes first data with
        | none => s.reject .range
        | some es => ({ s with translate := overwrite first.toNat es s.translate }, .grant) := by
  unfold State.writeTranslate
  by_cases h : s.call.state ≠ .free ∨ s.kb.queue ≠ [] ∨ s.link.send.queue ≠ []
  · rw [if_pos h, if_pos ((s.tableLock_iff).2 h)]
  · rw [if_neg h, if_neg fun hl => h ((s.tableLock_iff).1 hl)]
    rfl

theorem State.writeKeymap_eq (first : Byte) (data : List Byte) (s : State) :
    s.writeKeymap first data =
      if s.call.state ≠ .free ∨ s.kb.queue ≠ [] ∨ s.link.send.queue ≠ [] then s.reject .state
      else
        match writeEntries 64 2 KeyEntry.ofBytes first data with
        | none => s.reject .range
        | some es => ({ s with kb := { s.kb with keymap := overwrite first.toNat es s.kb.keymap } }, .grant) := by
  unfold State.writeKeymap
  by_cases h : s.call.state ≠ .free ∨ s.kb.queue ≠ [] ∨ s.link.send.queue ≠ []
  · rw [if_pos h, if_pos ((s.tableLock_iff).2 h)]
  · rw [if_neg h, if_neg fun hl => h ((s.tableLock_iff).1 hl)]
    rfl

theorem writeRoute_flatMap (first : Byte) (es : List RouteEntry) (he : es ≠ []) :
    writeEntries 12 1 RouteEntry.ofBytes first (es.flatMap RouteEntry.bytes) =
      if first.toNat + es.length ≤ 12 then some es else none :=
  writeEntries_flatMap 12 1 (by decide) _ _ first es he fun e _ => e.ofBytes_bytes

/-- A WRITE of ROUTE whose entries stay inside the table (R83, R92). -/
theorem State.writeRoute_flatMap (first : Byte) (es : List RouteEntry) (he : es ≠ [])
    (hl : first.toNat + es.length ≤ 12)
    (s : State) :
    s.writeRoute first (es.flatMap RouteEntry.bytes) =
      if lineMisplaced first es = true then s.reject .range
      else
        let t : State := { s with route := { s.route with table := overwrite first.toNat es s.route.table } }
        (if first.toNat ≤ 2 ∧ 2 < first.toNat + es.length then t.recorderTested else t, .grant) := by
  unfold State.writeRoute
  rw [Machine.writeRoute_flatMap first es he, if_pos hl]
  dsimp only
  simp only [addresses_iff, State.recorderTest_eq]
  rfl

theorem State.writeRoute_none (first : Byte) (data : List Byte) (s : State)
    (h : writeEntries 12 1 RouteEntry.ofBytes first data = none) : s.writeRoute first data = s.reject .range := by
  unfold State.writeRoute
  rw [h]

theorem State.writeSequence_none (first : Byte) (data : List Byte) (s : State)
    (h : writeEntries 16 11 SeqEntry.ofBytes first data = none) : s.writeSequence first data = s.reject .range := by
  unfold State.writeSequence
  rw [h]

/-- Settles O50: each table's entries, whole and in place, or the refusal. -/
theorem writeTranslateRouteSequence : Obligations.WriteTranslateRouteSequence := by
  intro s first h
  have translate (es : List TransEntry) (he : es ≠ []) :
      writeEntries 64 2 TransEntry.ofBytes first (es.flatMap TransEntry.bytes) =
        if first.toNat + es.length ≤ 64 then some es else none :=
    writeEntries_flatMap 64 2 (by decide) _ _ first es he fun e _ => e.ofBytes_bytes
  have sequence (es : List SeqEntry) (he : es ≠ []) (hes : ∀ e ∈ es, e.length ≤ 8 ∧ e.pattern.length = 8) :
      writeEntries 16 11 SeqEntry.ofBytes first (es.flatMap SeqEntry.bytes) =
        if first.toNat + es.length ≤ 16 then some es else none :=
    writeEntries_flatMap 16 11 (by decide) _ _ first es he fun e hm => e.ofBytes_bytes (hes e hm).1 (hes e hm).2
  refine ⟨fun es he => ⟨fun hl => ?_, fun hl hn => ?_, fun hl hn => ?_⟩,
    fun data => ⟨fun hl => ?_, fun hl hbad => ?_, fun hbad => ?_, fun hbad => ?_⟩,
    fun es he => ⟨fun hn => ?_, fun hbad => ?_, fun hn hline => ?_⟩,
    fun es he hes => ⟨fun hn => ?_, fun hn => ?_⟩⟩
  · exact exec_frame_refused (.writeTranslate first _) s _ rfl h ((s.writeTranslate_eq _ _).trans (if_pos hl))
  · refine exec_frame_refused (.writeTranslate first _) s _ rfl h
      ((s.writeTranslate_eq _ _).trans ((if_neg hl).trans ?_))
    rw [translate es he, if_neg (by omega)]
  · refine exec_frame (.writeTranslate first _) s _ _ rfl h ((s.writeTranslate_eq _ _).trans ((if_neg hl).trans ?_))
    rw [translate es he, if_pos hn]
    rfl
  · exact exec_frame_refused (.writeTranslate first data) s _ rfl h ((s.writeTranslate_eq _ _).trans (if_pos hl))
  · refine exec_frame_refused (.writeTranslate first data) s _ rfl h
      ((s.writeTranslate_eq _ _).trans ((if_neg hl).trans ?_))
    rw [writeEntries_eq_none (by decide) first (fun j b => b.toNat ≤ if j = 0 then 127 else 9) TransEntry.ofBytes_some]
    exact hbad.imp id (.imp id fun ⟨i, b, hb, hlt⟩ => ⟨i, b, hb, Nat.not_le.2 hlt⟩)
  · refine exec_frame_refused (.writeRoute first data) s _ rfl h (s.writeRoute_none first data ?_)
    refine writeEntries_eq_none (by decide) first (fun _ b => b.toNat ≤ 15) RouteEntry.ofBytes_some ?_
    refine hbad.imp id fun ⟨b, hm, hlt⟩ => Or.inr ?_
    obtain ⟨i, hb⟩ := List.mem_iff_getElem?.1 hm
    exact ⟨i, b, hb, Nat.not_le.2 hlt⟩
  · refine exec_frame_refused (.writeSequence first data) s _ rfl h (s.writeSequence_none first data ?_)
    refine writeEntries_eq_none (by decide) first _ SeqEntry.ofBytes_some ?_
    refine hbad.imp id (.imp id fun ⟨i, b, hb, hlt⟩ => ⟨i, b, hb, fun hok => ?_⟩)
    split at hlt
    · rw [if_pos ‹_›] at hok
      omega
    · rw [if_neg ‹_›] at hok
      split at hlt
      · rw [if_pos ‹_›] at hok
        omega
      · rw [if_neg ‹_›] at hok
        split at hlt
        · rw [if_pos ‹_›] at hok
          omega
        · rw [if_neg ‹_›] at hok
          exact hlt hok
  · refine exec_frame_refused (.writeRoute first _) s _ rfl h (s.writeRoute_none first _ ?_)
    rw [writeRoute_flatMap first es he, if_neg (by omega)]
  · refine exec_frame_refused (.writeRoute first _) s _ rfl h ?_
    by_cases hn : first.toNat + es.length ≤ 12
    · exact (s.writeRoute_flatMap first es he hn).trans (if_pos ((lineMisplaced_iff first es).2 hbad))
    · refine s.writeRoute_none first _ ?_
      rw [Machine.writeRoute_flatMap first es he, if_neg hn]
  · refine exec_frame (.writeRoute first _) s _ _ rfl h
      ((s.writeRoute_flatMap first es he hn).trans (if_neg fun hbad => ?_))
    obtain ⟨n, e, hne, hline', hplace⟩ := (lineMisplaced_iff first es).1 hbad
    have := hline n e hne hline'
    omega
  · refine exec_frame_refused (.writeSequence first _) s _ rfl h (s.writeSequence_none first _ ?_)
    rw [sequence es he hes, if_neg (by omega)]
  · refine exec_frame (.writeSequence first _) s _ _ rfl h ?_
    show s.writeSequence first _ = _
    unfold State.writeSequence
    rw [sequence es he hes, if_pos hn]
    simp only [overwrite, State.modMatcher, List.length_map]

/-! ## WRITE of KEYMAP, ANSWERBACK and SIGNALS -/

/-- A WRITE of ANSWERBACK (R105). -/
theorem State.writeAnswerback_eq (first : Byte) (data : List Byte) (s : State) :
    s.writeAnswerback first data =
      if s.answer.run.isSome = true then s.reject .state
      else
        match allSome (data.map codeOfByte) with
        | none => s.reject .range
        | some codes =>
          if first.toNat ≠ 0 ∨ 20 < codes.length then s.reject .range
          else ({ s with answer := { s.answer with memory := codes } }, .grant) := rfl

theorem State.writeSignals_eq (first : Byte) (data : List Byte) (s : State) :
    s.writeSignals first data =
      match writeEntries 4 4 SignalEntry.ofBytes first data with
      | none => s.reject .range
      | some es =>
        ({ s with cond := { s.cond with signals := overwrite first.toNat es s.cond.signals } }, .grant) := rfl

/-- A keymap body with an entry that has no meaning is not taken (R120, R193). -/
theorem writeKeymap_none (first : Byte) (data : List Byte)
    (h : data = [] ∨ data.length % 2 ≠ 0 ∨
      ∃ (i : Nat) (k v : Byte), data[2 * i]? = some k ∧ data[2 * i + 1]? = some v ∧
        (2 < k.toNat ∨ (k = 0 ∧ v ≠ 0) ∨ (k = 1 ∧ 127 < v.toNat) ∨ (k = 2 ∧ 7 < v.toNat))) :
    writeEntries 64 2 KeyEntry.ofBytes first data = none := by
  rcases h with h | h | ⟨i, k, v, hk, hv, hbad⟩
  · exact writeEntries_eq_none (by decide) first (fun _ _ => True) (fun _ _ _ _ _ _ => trivial) (Or.inl h)
  · exact writeEntries_eq_none (by decide) first (fun _ _ => True) (fun _ _ _ _ _ _ => trivial) (Or.inr (Or.inl h))
  · cases hw : writeEntries 64 2 KeyEntry.ofBytes first data with
    | none => rfl
    | some es =>
      obtain ⟨hlt, hk⟩ := List.getElem?_eq_some_iff.1 hk
      obtain ⟨hlt', hv⟩ := List.getElem?_eq_some_iff.1 hv
      obtain ⟨e, he⟩ := writeEntries_parse hw i hlt
      rw [List.drop_eq_getElem_cons hlt, List.drop_eq_getElem_cons hlt', hk, hv] at he
      exact absurd hbad (KeyEntry.ofBytes_some k v e he)

theorem allSome_codeOfByte (codes : List Code) :
    allSome ((codes.map fun c => (c.setWidth 8 : Byte)).map codeOfByte) = some codes := by
  rw [List.map_map]
  have : codes.map (codeOfByte ∘ fun c => (c.setWidth 8 : Byte)) = codes.map some :=
    List.map_congr_left fun c _ => codeOfByte_setWidth c
  rw [this, allSome_map_some]

/-- Settles O51: each table's entries, whole and in place, or the refusal. -/
theorem writeKeymapAnswerbackSignals : Obligations.WriteKeymapAnswerbackSignals := by
  intro s first h
  have keymap (es : List KeyEntry) (he : es ≠ []) :
      writeEntries 64 2 KeyEntry.ofBytes first (es.flatMap KeyEntry.bytes) =
        if first.toNat + es.length ≤ 64 then some es else none :=
    writeEntries_flatMap 64 2 (by decide) _ _ first es he fun e _ => e.ofBytes_bytes
  have signals (es : List SignalEntry) (he : es ≠ []) (hes : ∀ e ∈ es, e.mask.toNat < 2 ^ 18) :
      writeEntries 4 4 SignalEntry.ofBytes first (es.flatMap SignalEntry.bytes) =
        if first.toNat + es.length ≤ 4 then some es else none :=
    writeEntries_flatMap 4 4 (by decide) _ _ first es he fun e hm => e.ofBytes_bytes (hes e hm)
  have noRun (hr : s.answer.run = none) : ¬s.answer.run.isSome = true := by
    rw [hr]
    exact Bool.false_ne_true
  refine ⟨fun es he => ⟨fun hl => ?_, fun hl hn => ?_, fun hl hn => ?_⟩,
    fun codes => ⟨fun hr => ?_, fun hr hbad => ?_, fun hr hf hn => ?_⟩,
    fun data => ⟨fun hl => ?_, fun hl hbad => ?_, fun hr => ?_, fun hr hbad => ?_, fun hbad => ?_⟩,
    fun es he hes => ⟨fun hn => ?_, fun hn => ?_⟩⟩
  · exact exec_frame_refused (.writeKeymap first _) s _ rfl h ((s.writeKeymap_eq _ _).trans (if_pos hl))
  · refine exec_frame_refused (.writeKeymap first _) s _ rfl h ((s.writeKeymap_eq _ _).trans ((if_neg hl).trans ?_))
    rw [keymap es he, if_neg (by omega)]
  · refine exec_frame (.writeKeymap first _) s _ _ rfl h ((s.writeKeymap_eq _ _).trans ((if_neg hl).trans ?_))
    rw [keymap es he, if_pos hn]
    rfl
  · exact exec_frame_refused (.writeAnswerback first _) s _ rfl h (if_pos hr)
  · refine exec_frame_refused (.writeAnswerback first _) s _ rfl h
      ((s.writeAnswerback_eq _ _).trans ((if_neg (noRun hr)).trans ?_))
    rw [allSome_codeOfByte]
    exact if_pos (hbad.imp (fun hf h0 => hf (BitVec.eq_of_toNat_eq h0)) id)
  · refine exec_frame (.writeAnswerback first _) s _ _ rfl h
      ((s.writeAnswerback_eq _ _).trans ((if_neg (noRun hr)).trans ?_))
    rw [allSome_codeOfByte]
    refine if_neg fun hbad => hbad.elim (fun h0 => h0 ?_) fun hlt => absurd hn (Nat.not_le.2 hlt)
    rw [hf]
    rfl
  · exact exec_frame_refused (.writeKeymap first data) s _ rfl h ((s.writeKeymap_eq _ _).trans (if_pos hl))
  · refine exec_frame_refused (.writeKeymap first data) s _ rfl h ((s.writeKeymap_eq _ _).trans ((if_neg hl).trans ?_))
    rw [writeKeymap_none first data hbad]
  · exact exec_frame_refused (.writeAnswerback first data) s _ rfl h (if_pos hr)
  · refine exec_frame_refused (.writeAnswerback first data) s _ rfl h
      ((s.writeAnswerback_eq _ _).trans ((if_neg (noRun hr)).trans ?_))
    obtain ⟨b, hm, hlt⟩ := hbad
    have hnone : none ∈ data.map codeOfByte := List.mem_map.2 ⟨b, hm, if_neg (Nat.not_le.2 hlt)⟩
    rw [allSome_eq_none _ hnone]
  · refine exec_frame_refused (.writeSignals first data) s _ rfl h ((s.writeSignals_eq _ _).trans ?_)
    rw [writeEntries_eq_none (by decide) first _ SignalEntry.ofBytes_some]
    exact hbad.imp id (.imp id fun ⟨i, b, hb, hlt⟩ => ⟨i, b, hb, not_not_intro hlt⟩)
  · refine exec_frame_refused (.writeSignals first _) s _ rfl h ((s.writeSignals_eq _ _).trans ?_)
    rw [signals es he hes, if_neg (by omega)]
  · refine exec_frame (.writeSignals first _) s _ _ rfl h ((s.writeSignals_eq _ _).trans ?_)
    rw [signals es he hes, if_pos hn]
    rfl

/-! ## WRITE of SETTINGS (R23, R169, R193, R194) -/

theorem settingOfBytes_bytes2 (n : Nat) (h : n < 65536) : settingOfBytes (bytes2 n) = some n := by
  show some (nat2 (byteOf (n / 256)) (byteOf n)) = some n
  unfold nat2 byteOf
  rw [BitVec.toNat_ofNat, BitVec.toNat_ofNat]
  exact congrArg some (by omega)

/-- The values of a WRITE of SETTINGS as its body spells them. -/
theorem writeEntries_settings (first : Byte) (vs : List (BitVec 16)) (he : vs ≠ []) :
    writeEntries 46 2 settingOfBytes first
        (vs.flatMap fun v => [BitVec.ofNat 8 (v.toNat / 256), BitVec.ofNat 8 v.toNat]) =
      if first.toNat + vs.length ≤ 46 then some (vs.map (·.toNat)) else none := by
  have hw := writeEntries_flatMap 46 2 (by decide) settingOfBytes bytes2 first (vs.map (·.toNat))
    (by simpa using he) (fun n hn => by
      obtain ⟨v, -, rfl⟩ := List.mem_map.1 hn
      exact ⟨rfl, settingOfBytes_bytes2 v.toNat v.isLt⟩)
  rw [List.flatMap_map, List.length_map] at hw
  exact hw

/-- The settings table as a WRITE leaves it (R194). -/
def State.settingsWritten (s : State) (first : Byte) (vs : List Nat) : State :=
  { s with settings := overwrite first.toNat vs s.settings }

/-- A setting as a WRITE leaves it: the value written, or the one that stood. -/
theorem State.settingsWritten_cfg (s : State) (first : Byte) (vs : List Nat) (hlen : s.settings.length = 46)
    (hn : first.toNat + vs.length ≤ 46) (k : Setting) :
    some ((s.settingsWritten first vs).cfg k) =
      if first.toNat ≤ k.index ∧ k.index < first.toNat + vs.length then vs[k.index - first.toNat]?
      else some (s.cfg k) := by
  have hnew : (s.settingsWritten first vs).settings.length = 46 :=
    (overwrite_length _ _ _ (by omega)).trans hlen
  rw [← cfg_of_settings _ k hnew, ← cfg_of_settings s k hlen]
  exact overwrite_getElem? _ _ _ (by omega) _

/-- The range tests of a WRITE of SETTINGS, on the table as it leaves it (R194). -/
theorem writtenOk_settingsWritten (s : State) (first : Byte) (vs : List Nat) (hlen : s.settings.length = 46)
    (hn : first.toNat + vs.length ≤ 46) :
    writtenOk first vs (s.settingsWritten first vs).settings = true ↔
      (∀ k : Setting, first.toNat ≤ k.index ∧ k.index < first.toNat + vs.length →
        k.ok ((s.settingsWritten first vs).cfg k) = true) ∧
        (s.settingsWritten first vs).cfg .marginBellColumn ≤ (s.settingsWritten first vs).cfg .width := by
  rw [writtenOk_iff _ first vs hn]
  refine and_congr_left fun _ => ⟨fun h k hk => ?_, fun h k v hk hv => ?_⟩
  · have hc := s.settingsWritten_cfg first vs hlen hn k
    rw [if_pos hk] at hc
    exact h k _ hk.1 hc.symm
  · obtain ⟨hlt, -⟩ := List.getElem?_eq_some_iff.1 hv
    have hw : first.toNat ≤ k.index ∧ k.index < first.toNat + vs.length := ⟨hk, by omega⟩
    have hc := s.settingsWritten_cfg first vs hlen hn k
    rw [if_pos hw, hv] at hc
    exact Option.some.inj hc ▸ h k hw

/-- A window abandoned and started afresh by a change of the calibration mode (R23). -/
theorem Calibrator.restart_eq (c : Calibrator) (connected : Prop) [Decidable connected] :
    c.restart (decide connected) =
      if c.state = .measuring ∨ c.state = .settled ∨ (c.state = .idle ∧ connected) then
        { c with sumT := 0, sumS := 0, maxM := 0, count := 0, state := .measuring }
      else c := by
  unfold Calibrator.restart
  cases hc : c.state
  case idle => by_cases h : connected <;> simp [h, Calibrator.fresh]
  all_goals simp [Calibrator.fresh]

/-- The calibrator after a WRITE of SETTINGS (R23). -/
def State.calWritten (s t : State) (wrote : Prop) [Decidable wrote] : Calibrator :=
  let window : Calibrator := { s.cal with sumT := 0, sumS := 0, maxM := 0, count := 0 }
  let restarted : Calibrator :=
    if s.cal.state = .measuring ∨ s.cal.state = .settled ∨ (s.cal.state = .idle ∧ s.call.state = .connected) then
      { window with state := .measuring }
    else s.cal
  if t.cfg .calibrationMode = s.cfg .calibrationMode then
    if t.cfg .calibrationMode = 1 ∧ wrote then { s.cal with p := t.cfg .fixedSamplePoint } else s.cal
  else if t.cfg .calibrationMode = 0 then { window with p := 8, state := .idle, holdoff := none }
  else if t.cfg .calibrationMode = 1 then { restarted with p := t.cfg .fixedSamplePoint }
  else restarted

theorem State.calibratorAfter_eq (s t : State) (wrote : Prop) [Decidable wrote] :
    calibratorAfter (s.cfg .calibrationMode) (t.cfg .calibrationMode) (t.cfg .fixedSamplePoint) (decide wrote)
        (s.call.state == .connected) s.cal = s.calWritten t wrote := by
  have hc : (s.call.state == .connected) = decide (s.call.state = .connected) := rfl
  unfold calibratorAfter State.calWritten
  rw [hc]
  by_cases heq : t.cfg .calibrationMode = s.cfg .calibrationMode
  · rw [if_pos heq]
    simp only [if_pos heq, decide_eq_true_eq]
  · rw [if_neg heq]
    simp only [if_neg heq]
    split
    · rename_i h0
      rw [if_pos h0]
      rfl
    · rename_i h1
      rw [h1, Calibrator.restart_eq]
      rfl
    · rename_i h0 h1
      rw [if_neg h0, if_neg h1, Calibrator.restart_eq]

theorem addresses_eq_decide (first : Byte) (n i : Nat) :
    addresses first n i = decide (first.toNat ≤ i ∧ i < first.toNat + n) :=
  Bool.eq_iff_iff.2 ((addresses_iff first n i).trans decide_eq_true_iff.symm)

/-- Without a write of the mode or of the sample point the calibrator stands. -/
theorem State.calWritten_of_not_written (s : State) (first : Byte) (vs : List Nat) (hlen : s.settings.length = 46)
    (hn : first.toNat + vs.length ≤ 46) (wrote : Prop) [Decidable wrote] (hw : ¬wrote)
    (hm : ¬(first.toNat ≤ Setting.calibrationMode.index ∧
      Setting.calibrationMode.index < first.toNat + vs.length)) :
    s.calWritten (s.settingsWritten first vs) wrote = s.cal := by
  have hc := s.settingsWritten_cfg first vs hlen hn .calibrationMode
  rw [if_neg hm] at hc
  unfold State.calWritten
  rw [if_pos (Option.some.inj hc), if_neg fun h => hw h.2]

/-- The settings written take effect at once (R23, R169). -/
theorem State.applySettings_eq (s : State) (first : Byte) (vs : List Nat) (hlen : s.settings.length = 46)
    (hn : first.toNat + vs.length ≤ 46) :
    s.applySettings first vs.length (overwrite first.toNat vs s.settings) =
      let written (k : Setting) : Prop := first.toNat ≤ k.index ∧ k.index < first.toNat + vs.length
      let u : State :=
        { s.settingsWritten first vs with cal := s.calWritten (s.settingsWritten first vs) (written .fixedSamplePoint) }
      if written .tapeLowReserve ∧ s.pins.tapeLow = true then u.tapeCut else u := by
  have hu :
      (if addresses first vs.length Setting.calibrationMode.index ||
          addresses first vs.length Setting.fixedSamplePoint.index then
        (s.settingsWritten first vs).modCal
          (calibratorAfter (s.cfg .calibrationMode) ((s.settingsWritten first vs).cfg .calibrationMode)
            ((s.settingsWritten first vs).cfg .fixedSamplePoint)
            (addresses first vs.length Setting.fixedSamplePoint.index) (s.call.state == .connected))
      else s.settingsWritten first vs) =
        { s.settingsWritten first vs with
          cal :=
            s.calWritten (s.settingsWritten first vs)
              (first.toNat ≤ Setting.fixedSamplePoint.index ∧
                Setting.fixedSamplePoint.index < first.toNat + vs.length) } := by
    split
    · rw [addresses_eq_decide]
      exact congrArg (fun c => ({ s.settingsWritten first vs with cal := c } : State)) (s.calibratorAfter_eq _ _)
    · rename_i hno
      rw [Bool.or_eq_true, not_or, addresses_iff, addresses_iff] at hno
      rw [s.calWritten_of_not_written first vs hlen hn _ hno.2 hno.1]
      rfl
  have happly : s.applySettings first vs.length (overwrite first.toNat vs s.settings) =
      if addresses first vs.length Setting.tapeLowReserve.index &&
          ({ s.settingsWritten first vs with
            cal :=
              s.calWritten (s.settingsWritten first vs)
                (first.toNat ≤ Setting.fixedSamplePoint.index ∧
                  Setting.fixedSamplePoint.index < first.toNat + vs.length) } : State).pins.tapeLow then
        State.cutTape
          { s.settingsWritten first vs with
            cal :=
              s.calWritten (s.settingsWritten first vs)
                (first.toNat ≤ Setting.fixedSamplePoint.index ∧
                  Setting.fixedSamplePoint.index < first.toNat + vs.length) }
      else
        { s.settingsWritten first vs with
          cal :=
            s.calWritten (s.settingsWritten first vs)
              (first.toNat ≤ Setting.fixedSamplePoint.index ∧
                Setting.fixedSamplePoint.index < first.toNat + vs.length) } := by
    rw [← hu]
    rfl
  rw [happly, State.cutTape_eq]
  simp only [Bool.and_eq_true, addresses_iff]
  rfl

/-- Settles O52: the range tests, the state test, then the settings at once. -/
theorem writeOneSetting : Obligations.WriteOneSetting := by
  intro s first h hlen
  refine ⟨fun data hbad => ?_, fun vs he => ?_⟩
  · refine exec_frame_refused (.writeSettings first data) s _ rfl h ?_
    have hnone : writeEntries 46 2 settingOfBytes first data = none :=
      writeEntries_eq_none (by decide) first (fun _ _ => True) (fun _ _ _ _ _ _ => trivial) (hbad.imp id Or.inl)
    show s.writeSettings first data = _
    unfold State.writeSettings
    rw [hnone]
  · intro write t written good barred window restarted cal u
    have hsize : (vs.map (·.toNat)).length = vs.length := List.length_map _
    have hpos : 0 < vs.length := List.length_pos_iff.2 he
    have ht : s.settingsWritten first (vs.map (·.toNat)) = t := by
      unfold State.settingsWritten overwrite
      rw [hsize]
    have hwrite (hn : first.toNat + vs.length ≤ 46) :
        frameRule write s =
          if !writtenOk first (vs.map (·.toNat)) t.settings then s.reject .range
          else if first.toNat < 2 ∧ s.call.state ≠ .free then s.reject .state
          else (s.applySettings first vs.length t.settings, .grant) := by
      show s.writeSettings first _ = _
      unfold State.writeSettings
      rw [writeEntries_settings first vs he, if_pos hn, ← ht, ← hsize]
      rfl
    have hok (hn : first.toNat + vs.length ≤ 46) : writtenOk first (vs.map (·.toNat)) t.settings = true ↔ good := by
      rw [← ht, writtenOk_settingsWritten s first _ hlen (by omega), hsize, ht]
      exact ⟨fun h => ⟨hn, h⟩, fun h => h.2⟩
    have hbarred : barred ↔ first.toNat < 2 ∧ s.call.state ≠ .free := by
      show ((_ ∧ _) ∨ (_ ∧ _)) ∧ _ ↔ _
      refine and_congr_left fun _ => ?_
      show (first.toNat ≤ 0 ∧ 0 < first.toNat + vs.length) ∨ (first.toNat ≤ 1 ∧ 1 < first.toNat + vs.length) ↔ _
      omega
    refine ⟨fun hg => ?_, fun hg hb => ?_, fun hg hb => ?_⟩
    · refine exec_frame_refused write s _ rfl h ?_
      by_cases hn : first.toNat + vs.length ≤ 46
      · rw [hwrite hn, if_pos (by simpa using fun hw => hg ((hok hn).1 hw))]
      · show s.writeSettings first _ = _
        unfold State.writeSettings
        rw [writeEntries_settings first vs he, if_neg hn]
    · have hn := hg.1
      refine exec_frame_refused write s _ rfl h ?_
      rw [hwrite hn, (hok hn).2 hg, if_neg (by simp), if_pos (hbarred.1 hb)]
    · have hn := hg.1
      refine exec_frame write s _ .grant rfl h ?_
      rw [hwrite hn, (hok hn).2 hg, if_neg (by simp), if_neg fun hc => hb (hbarred.2 hc)]
      have happly := s.applySettings_eq first (vs.map (·.toNat)) hlen (by omega)
      rw [hsize, ht] at happly
      refine congrArg (·, Reply.grant) (Eq.trans ?_ happly)
      rw [← ht]
      rfl

/-! ## READ (R186, R193) -/

theorem toNat_eq_zero_iff (b : Byte) : b.toNat = 0 ↔ b = 0 :=
  ⟨fun h => BitVec.eq_of_toNat_eq h, fun h => h ▸ rfl⟩

/-- The bytes of entries that all have one size. -/
theorem flatMap_length_of_size {α : Type} (bytes : α → List Byte) (size : Nat) :
    ∀ es : List α, (∀ e ∈ es, (bytes e).length = size) → (es.flatMap bytes).length = size * es.length
  | [], _ => rfl
  | e :: es, h => by
    rw [List.flatMap_cons, List.length_append, h e (List.mem_cons_self ..),
      flatMap_length_of_size bytes size es fun x hx => h x (List.mem_cons_of_mem _ hx), List.length_cons, Nat.mul_succ,
      Nat.add_comm]

/-- What a READ of a table whose entries have one size gives (R193). -/
theorem readEntries_eq {α : Type} (bytes : α → List Byte) (size first count : Nat) (table : List α)
    (hb : ∀ e ∈ table, (bytes e).length = size) :
    readEntries bytes first count table =
      if count = 0 ∨ table.length < first + count ∨ 64 < size * count then none
      else some (((table.drop first).take count).flatMap bytes) := by
  unfold readEntries
  by_cases hn : table.length < first + count
  · rw [if_pos (Or.inr (Or.inl hn)), if_pos (Or.inr (Or.inl hn))]
  · have hlen := flatMap_length_of_size bytes size ((table.drop first).take count)
      fun e he => hb e (List.mem_of_mem_drop (List.mem_of_mem_take he))
    rw [List.length_take, List.length_drop, Nat.min_eq_left (by omega)] at hlen
    simp only [hlen]

/-- A READ is answered with the body of the TABLE, or refused (R193). -/
theorem frameRule_read (s : State) (id first count : Byte) :
    frameRule (.read [id, first, count]) s =
      match s.tableBody id.toNat first.toNat count.toNat with
      | some b => (s, .table b)
      | none => s.reject .range := rfl

theorem exec_read_some {s : State} (h : s.ready) {id first count : Byte} {b : List Byte}
    (hb : s.tableBody id.toNat first.toNat count.toNat = some b) :
    exec (.read [id, first, count]) s = .next (s.idleWatched (s.answered (.table b))) :=
  exec_frame _ s s (.table b) rfl h (by rw [frameRule_read, hb])

theorem exec_read_none {s : State} (h : s.ready) {id first count : Byte}
    (hb : s.tableBody id.toNat first.toNat count.toNat = none) :
    exec (.read [id, first, count]) s = .next (s.idleWatched (s.answered (.reject .range))) :=
  exec_frame_refused _ s .range rfl h (by rw [frameRule_read, hb])

/-- READ of a table whose entries have one size (R193). -/
theorem exec_read_entries {s : State} (h : s.ready) (id : Byte) {α : Type} (bytes : α → List Byte) (size : Nat)
    (table : List α) (hb : ∀ e ∈ table, (bytes e).length = size)
    (hid : ∀ first count, s.tableBody id.toNat first count = readEntries bytes first count table) (first count : Byte) :
    ((count = 0 ∨ table.length < first.toNat + count.toNat ∨ 64 < size * count.toNat) →
      exec (.read [id, first, count]) s = .next (s.idleWatched (s.answered (.reject .range)))) ∧
    (count ≠ 0 → first.toNat + count.toNat ≤ table.length → size * count.toNat ≤ 64 →
      exec (.read [id, first, count]) s = .next (s.idleWatched
        (s.answered (.table (((table.drop first.toNat).take count.toNat).flatMap bytes))))) := by
  have hbody := (hid first.toNat count.toNat).trans (readEntries_eq bytes size _ _ table hb)
  simp only [toNat_eq_zero_iff] at hbody
  refine ⟨fun hbad => exec_read_none h (hbody.trans (if_pos hbad)), fun hc hn hs => exec_read_some h ?_⟩
  refine hbody.trans (if_neg ?_)
  rintro (h0 | hlt | hbig)
  · exact hc h0
  · omega
  · omega

theorem KeyEntry.bytes_length (e : KeyEntry) : e.bytes.length = 2 := e.ofBytes_bytes.1

theorem SeqEntry.bytes_length (e : SeqEntry) (h : e.pattern.length = 8) : e.bytes.length = 11 := by
  simp [SeqEntry.bytes, h]

/-- READ of the answerback memory gives the whole memory, and only at index 0 with count 0 (R186, R193). -/
theorem exec_read_answerback {s : State} (h : s.ready) (first count : Byte) :
    exec (.read [5, first, count]) s = .next (s.idleWatched
      (s.answered (if first = 0 ∧ count = 0 then .table (s.answer.memory.map fun c => c.setWidth 8)
        else .reject .range))) := by
  have hbody : s.tableBody (5 : Byte).toNat first.toNat count.toNat =
      if first.toNat = 0 ∧ count.toNat = 0 then some (s.answer.memory.map fun c => c.setWidth 8) else none := rfl
  simp only [toNat_eq_zero_iff] at hbody
  by_cases hz : first = 0 ∧ count = 0
  · rw [if_pos hz, exec_read_some h (hbody.trans (if_pos hz))]
  · rw [if_neg hz, exec_read_none h (hbody.trans (if_neg hz))]

theorem tableBody_log (s : State) (first count : Byte) :
    s.tableBody (8 : Byte).toNat first.toNat count.toNat =
      if count.toNat = 1 then readEntries CallRecord.bytes first.toNat 1 s.station.log else none := rfl

/-- One record of the log as READ gives it (R186). -/
theorem readEntries_one {α : Type} (bytes : α → List Byte) (first : Nat) (table : List α) (e : α)
    (he : table[first]? = some e) (hlen : (bytes e).length ≤ 64) :
      readEntries bytes first 1 table = some (bytes e) := by
  obtain ⟨hlt, hget⟩ := List.getElem?_eq_some_iff.1 he
  have hone : (table.drop first).take 1 = [e] := by
    rw [List.drop_eq_getElem_cons hlt, List.take_succ_cons, List.take_zero, hget]
  unfold readEntries
  simp only [hone, List.flatMap_cons, List.flatMap_nil, List.append_nil]
  exact if_neg (by omega)

theorem readEntries_beyond {α : Type} (bytes : α → List Byte) (first count : Nat) (table : List α)
    (h : table.length ≤ first) : readEntries bytes first count table = none := by
  unfold readEntries
  refine if_pos ?_
  omega

/-- An identifier that names no table (R193). -/
theorem tableBody_unknown (s : State) (id first count : Nat) (h : id = 0 ∨ 8 < id) :
    s.tableBody id first count = none := by
  unfold State.tableBody
  split
  case h_9 => rfl
  all_goals omega

theorem frameRule_read_length (s : State) (body : List Byte) (h : body.length ≠ 3) :
    frameRule (.read body) s = s.reject .range := by
  match body, h with
  | [], _ | [_], _ | [_, _], _ | _ :: _ :: _ :: _ :: _, _ => rfl

/-! ## STATUS and the REPORT (R195, section 10.9) -/

theorem bit_eq (b : Bool) (k : Nat) : bit b k = 2 ^ k * b.toNat := by
  unfold bit
  cases b
  · rfl
  · exact (Nat.mul_one _).symm

theorem oldestNumber_eq (s : State) :
    s.oldestNumber =
      match s.station.log with
      | [] => 0
      | r :: _ => r.number := by
  unfold State.oldestNumber
  cases s.station.log <;> rfl

theorem recordFlags_byte (r : CallRecord) :
    1 + 2 * r.direction.code + bit r.outcome.isSome 2 + 8 * r.flags.bits =
      1 + 2 * r.direction.code + 4 * r.outcome.isSome.toNat + 8 * r.flags.printerLost.toNat
        + 16 * r.flags.punchLost.toNat + 32 * r.flags.calError.toNat + 64 * r.flags.breakReceived.toNat := by
  unfold RecordFlags.bits
  simp only [bit_eq]
  omega

theorem State.reportStates_eq (s : State) :
    s.reportStates =
      let two (n : Nat) : List Byte := [BitVec.ofNat 8 (n / 256), BitVec.ofNat 8 n]
      let one (n : Nat) : List Byte := [BitVec.ofNat 8 n]
      one (s.station.mode.code + 4 * s.station.restartPending.toNat + 8 * s.rx.shift.code + 16 * s.tx.shift.code
          + 32 * s.route.printSwitch.toNat + 64 * s.route.punchSwitch.toNat)
        ++ one (s.call.state.code + 16 * s.motor.state.code)
        ++ one (s.printer.state.code + 8 * s.printer.jamHold.toNat + 16 * s.punch.state.code
          + 64 * s.punch.jamHold.toNat)
        ++ one s.printer.column ++ two s.punch.tape ++ two s.punch.leader ++ two s.store.entries.length
        ++ one (s.tx.reservation.toNat + 2 * s.store.armed.toNat + 4 * (s.attached .print).toNat
          + 8 * (s.attached .punch).toNat + 16 * (s.attached .capture).toNat)
        ++ two (s.store.entries.length - s.store.cursors.print)
        ++ two (s.store.entries.length - s.store.cursors.punch)
        ++ two (s.store.entries.length - s.store.cursors.capture) ++ two s.store.gap := by
  unfold State.reportStates
  simp only [bit_eq, Nat.reducePow, Nat.one_mul]
  rfl

theorem State.reportUnits_eq (s : State) :
    s.reportUnits =
      let two (n : Nat) : List Byte := [BitVec.ofNat 8 (n / 256), BitVec.ofNat 8 n]
      let three (n : Nat) : List Byte := [BitVec.ofNat 8 (n / 65536), BitVec.ofNat 8 (n / 256), BitVec.ofNat 8 n]
      let one (n : Nat) : List Byte := [BitVec.ofNat 8 n]
      one s.kb.queue.length ++ one s.link.send.queue.length
        ++ one (s.link.send.armed.toNat + 2 * s.link.send.held.toNat + 4 * s.link.capture.state.code)
        ++ two s.link.send.remaining ++ two s.link.capture.remaining
        ++ one s.cal.p ++ one (s.cal.state.code + 16 * (BitVec.ofInt 4 s.cal.lastBias).toNat) ++ one s.stuckCount
        ++ three s.live.toNat ++ three s.cond.faults.toNat ++ two s.link.mask.toNat
        ++ two s.station.nextNumber ++ one s.station.log.length
        ++ two (match s.station.log with
          | [] => 0
          | r :: _ => r.number) := by
  unfold State.reportUnits
  simp only [oldestNumber_eq, bit_eq, Nat.reducePow, Nat.one_mul]
  rfl

theorem State.reportRecord_eq (s : State) :
    s.reportRecord =
      let two (n : Nat) : List Byte := [BitVec.ofNat 8 (n / 256), BitVec.ofNat 8 n]
      let three (n : Nat) : List Byte := [BitVec.ofNat 8 (n / 65536), BitVec.ofNat 8 (n / 256), BitVec.ofNat 8 n]
      let one (n : Nat) : List Byte := [BitVec.ofNat 8 n]
      match s.station.record with
      | none => List.replicate 13 0
      | some r =>
        one (1 + 2 * r.direction.code + 4 * r.outcome.isSome.toNat + 8 * r.flags.printerLost.toNat
            + 16 * r.flags.punchLost.toNat + 32 * r.flags.calError.toNat + 64 * r.flags.breakReceived.toNat)
          ++ (match r.outcome with
            | some o => one o.code
            | none => [Config.freeByte s.freeCount])
          ++ two r.number ++ three (s.connectedSeconds r) ++ two r.received ++ two r.sent ++ two r.lost := by
  unfold State.reportRecord
  cases s.station.record with
  | none => rfl
  | some r =>
    dsimp only
    rw [recordFlags_byte]
    cases r.outcome <;> rfl

theorem report_length (s : State) : s.report.length = 55 := by
  unfold State.report State.reportRecord
  cases s.station.record <;> rfl

/-- STATUS with an empty body gives the REPORT (R195). -/
theorem frameRule_status (s : State) :
    frameRule (.status []) s =
      (if s.station.record.map (·.outcome) = some none then s.modFreeCount (· + 1) else s, .report s.report) := rfl

/-- Settles O53: each table by what a READ of its entries gives, the REPORT byte by byte. -/
theorem readAndStatus : Obligations.ReadAndStatus := by
  intro s h reads two three one
  refine ⟨?_, ?_, fun hp => ?_, ?_, ?_, ?_, exec_read_answerback h, ?_, ?_, ?_, ?_, ?_, report_length s, ?_, ?_, ?_⟩
  · exact exec_read_entries h 1 _ 2 _ (fun e _ => e.ofBytes_bytes.1) fun _ _ => rfl
  · exact exec_read_entries h 2 _ 1 _ (fun e _ => e.ofBytes_bytes.1) fun _ _ => rfl
  · exact exec_read_entries h 3 _ 11 _ (fun e he => e.bytes_length (hp e he)) fun _ _ => rfl
  · exact exec_read_entries h 4 _ 2 _ (fun e _ => e.bytes_length) fun _ _ => rfl
  · exact exec_read_entries h 6 _ 2 _ (fun _ _ => rfl) fun _ _ => rfl
  · exact exec_read_entries h 7 _ 4 _ (fun _ _ => rfl) fun _ _ => rfl
  · refine fun first count r hr hlen => ⟨?_, fun hc => exec_read_none h ?_⟩
    · rintro rfl
      exact exec_read_some h ((tableBody_log s first 1).trans ((if_pos rfl).trans (readEntries_one _ _ _ r hr hlen)))
    · exact (tableBody_log s first count).trans (if_neg fun h1 => hc (BitVec.eq_of_toNat_eq h1))
  · refine fun first count hlt => exec_read_none h ?_
    rw [tableBody_log, readEntries_beyond _ _ _ _ hlt, ite_self]
  · refine fun table first count hid => exec_read_none h (tableBody_unknown s _ _ _ ?_)
    exact hid.imp (toNat_eq_zero_iff table).2 id
  · exact fun body hb => exec_frame_refused (.read body) s .range rfl h (frameRule_read_length s body hb)
  · refine fun body hb => exec_frame_refused (.status body) s .range rfl h ?_
    cases body with
    | nil => exact absurd rfl hb
    | cons _ _ => rfl
  · rw [State.report, s.reportStates_eq, s.reportUnits_eq, s.reportRecord_eq]
    simp only [List.append_assoc] <;> rfl
  · intro hr
    refine exec_frame (.status []) s s _ rfl h ((frameRule_status s).trans ?_)
    rw [if_neg]
    intro hm
    obtain ⟨r, hrec, ho⟩ := Option.map_eq_some_iff.1 hm
    have := hr r hrec
    rw [ho] at this
    cases this
  · intro r hr ho
    refine exec_frame (.status []) s _ _ rfl h ((frameRule_status s).trans ?_)
    rw [if_pos (by rw [hr, Option.map_some, ho])]
    rfl

/-! ## The SEND channel (R198 to R200) -/

/-- An argument of a HOLD order is 0 or 1 (section 10.9). -/
theorem one_lt_toNat_iff (on : Byte) : 1 < on.toNat ↔ on ≠ 0 ∧ on ≠ 1 := by
  rw [Ne, Ne, ← BitVec.toNat_inj, ← BitVec.toNat_inj (y := 1)]
  show _ ↔ on.toNat ≠ 0 ∧ on.toNat ≠ 1
  omega

theorem State.armSend_granted (s : State) (n : Nat) (hn : n ≠ 0) (ha : s.link.send.armed = false) :
    s.armSend n =
      ({ s with
          link :=
            { s.link with send := { s.link.send with armed := true, held := false, remaining := n } } }, .grant) := by
  unfold State.armSend
  rw [if_neg hn, ha]
  rfl

theorem exec_orderArmSend (s : State) (h : s.ready) (n : BitVec 16) :
    exec (.orderArmSend n) s = .next (s.idleWatched
      (if n = 0 then s.answered (.reject .range)
      else if s.link.send.armed = true then s.answered (.reject .state)
      else
        State.answered
          { s with
            link :=
              { s.link with
                send := { s.link.send with armed := true, held := false, remaining := n.toNat } } }
          .grant)) := by
  split
  · next hn =>
    subst hn
    exact exec_frame_refused _ s .range rfl h rfl
  · next hn =>
    have hnat : n.toNat ≠ 0 := fun h0 => hn (BitVec.eq_of_toNat_eq h0)
    split
    · next ha => exact exec_frame_refused _ s .state rfl h ((if_neg hnat).trans (if_pos ha))
    · next ha => exact exec_frame _ s _ .grant rfl h (s.armSend_granted _ hnat (Bool.eq_false_iff.2 ha))

theorem exec_orderHoldSend (s : State) (h : s.ready) (on : Byte) :
    exec (.orderHoldSend on) s = .next (s.idleWatched
      (if on ≠ 0 ∧ on ≠ 1 then s.answered (.reject .range)
      else if s.link.send.armed = false then s.answered (.reject .state)
      else
        State.answered { s with link := { s.link with send := { s.link.send with held := on == 1 } } } .grant)) := by
  split
  · next hon => exact exec_frame_refused _ s .range rfl h (if_pos ((one_lt_toNat_iff on).2 hon))
  · next hon =>
    have hnot : ¬1 < on.toNat := mt (one_lt_toNat_iff on).1 hon
    split
    · next ha =>
      exact exec_frame_refused _ s .state rfl h ((if_neg hnot).trans (if_neg (Bool.eq_false_iff.1 ha)))
    · next ha => exact exec_frame _ s _ .grant rfl h ((if_neg hnot).trans (if_pos (Bool.of_not_eq_false ha)))

/-- R199: TEXT without an arming. -/
theorem State.textFrame_not_armed (s : State) (chars : List Byte) (ha : s.link.send.armed = false) :
    s.textFrame chars = s.reject .state := by
  unfold State.textFrame
  rw [ha]
  rfl

/-- R199: more characters than the open count, or one without a resolution. -/
theorem State.textFrame_out_of_range (s : State) (chars : List Byte) (ha : s.link.send.armed = true)
    (hr : s.openCount < chars.length ∨
      ∃ b ∈ chars, ¬(b.toNat ≤ 127 ∧ s.hasResolution (b.setWidth 7) = true)) :
    s.textFrame chars = s.reject .range := by
  unfold State.textFrame
  rw [ha, if_neg (by decide)]
  split
  · rfl
  · next hlen =>
    obtain ⟨b, hb, hn⟩ := hr.resolve_left hlen
    have hnone : none ∈ chars.map s.resolvable := List.mem_map.2 ⟨b, hb, by rw [State.resolvable_eq, if_neg hn]⟩
    rw [allSome_eq_none _ hnone]

/-- R199: TEXT whose characters have places in the open count and resolutions waits for room, or is taken. -/
theorem State.textFrame_in_range (s : State) (chars : List Byte) (ha : s.link.send.armed = true)
    (hlen : chars.length ≤ s.openCount)
    (hr : ∀ b ∈ chars, b.toNat ≤ 127 ∧ s.hasResolution (b.setWidth 7) = true) :
    s.textFrame chars =
      if 64 < s.link.send.queue.length + chars.length then (s, .wait (64 - s.link.send.queue.length))
      else
        ({ s with
            link :=
              { s.link with
                send :=
                  { s.link.send with queue := s.link.send.queue ++ chars.map fun b => b.setWidth 7 } } }, .grant) := by
  have hmap : chars.map s.resolvable = (chars.map fun b => b.setWidth 7).map some := by
    rw [List.map_map]
    exact List.map_congr_left fun b hb => by rw [State.resolvable_eq, if_pos (hr b hb)]; rfl
  unfold State.textFrame
  rw [ha, if_neg (by decide), if_neg (by omega), hmap, allSome_map_some]
  dsimp only
  rw [List.length_map]
  rfl

/-- Settles O54: each order by the tests it makes, TEXT by its three outcomes. -/
theorem sendChannel : Obligations.SendChannel := by
  intro s h
  refine ⟨exec_orderArmSend s h, exec_orderHoldSend s h, fun ha => ?_, fun ha => ?_, ?_⟩
  · exact exec_frame_refused .orderDisarmSend s .state rfl h (if_neg (Bool.eq_false_iff.1 ha))
  · refine exec_frame .orderDisarmSend s _ .grant rfl h ((if_pos ha).trans ?_)
    exact congrArg (·, Reply.grant) (if_pos ha)
  · intro chars cs resolved
    refine ⟨fun ha => ?_, fun ha => ⟨fun hr => ?_, fun hlen hr => ⟨fun hfull => ?_, fun hroom => ?_⟩⟩⟩
    · exact exec_frame_refused (.text chars) s .state rfl h (s.textFrame_not_armed chars ha)
    · exact exec_frame_refused (.text chars) s .range rfl h (s.textFrame_out_of_range chars ha hr)
    · exact exec_frame (.text chars) s s _ rfl h ((s.textFrame_in_range chars ha hlen hr).trans (if_pos hfull))
    · exact exec_frame (.text chars) s _ .grant rfl h
        ((s.textFrame_in_range chars ha hlen hr).trans (if_neg (Nat.not_lt.2 hroom)))

/-! ## The CAPTURE channel (R88, R89, R92, R201, R202) -/

/-- R201: the early end of an arming. -/
theorem State.endCapture_eq (why : EndReason) (s : State) (h : s.link.capture.state ≠ .disarmed) :
    s.endCapture why = s.captureEnded why := by
  unfold State.endCapture
  rw [if_neg h, State.detach_eq]
  rfl

/-- Nothing is gathered where the frame holds all it can (R202). -/
theorem State.gather_of_held (s : State) (h : s.heldForCapture.length ≤ s.link.capture.taken) : s.gather = s := by
  unfold State.gather
  dsimp only
  rw [if_pos]
  rw [Bool.or_eq_true, decide_eq_true_iff]
  exact Or.inr (Nat.le_trans (Nat.min_le_right _ _) h)

/-- Nothing is gathered into a closed frame (R202). -/
theorem State.gather_of_closed (s : State) (h : s.link.capture.closed = true) : s.gather = s := by
  unfold State.gather
  dsimp only
  rw [h, Bool.or_true, Bool.true_or, if_pos rfl]

theorem State.gather_remaining (s : State) : s.gather.link.capture.remaining = s.link.capture.remaining := by
  unfold State.gather
  dsimp only
  (repeat' split) <;> rfl

theorem State.gather_entries (s : State) : s.gather.store.entries = s.store.entries := by
  rw [State.gather_own]

/-- R88, R201: an arming begins behind all that the store holds, with an empty frame. -/
theorem State.armCapture_granted (s : State) (n f : Nat) (hr : ¬(n = 0 ∨ f = 0 ∨ 32 < f))
    (hs : s.link.capture.state = .disarmed) :
    s.armCapture n f =
      ({ s with
          link :=
            { s.link with
              capture :=
                { state := .armed, remaining := n, size := f, taken := 0, closed := false, flush := none } }
          store := { s.store with cursors := { s.store.cursors with capture := s.store.entries.length } } }
      , .grant) := by
  unfold State.armCapture
  rw [if_neg hr, if_neg (not_not.2 hs), State.gather_of_held]
  · rfl
  · show ((s.store.entries.drop s.store.entries.length).filter fun e => e.holds .capture).length ≤ 0
    rw [List.drop_length]
    exact Nat.le_refl 0

theorem exec_orderArmCapture (s : State) (h : s.ready) (n : BitVec 16) (size : Byte) :
    exec (.orderArmCapture n size) s = .next (s.idleWatched
      (if n = 0 ∨ size = 0 ∨ 32 < size.toNat then s.answered (.reject .range)
      else if s.link.capture.state ≠ .disarmed then s.answered (.reject .state)
      else
        State.answered
          { s with
            link :=
              { s.link with
                capture :=
                  { state := .armed, remaining := n.toNat, size := size.toNat, taken := 0, closed := false
                    flush := none } }
            store :=
              { s.store with cursors := { s.store.cursors with capture := s.store.entries.length } } }
          .grant)) := by
  have hrange : (n = 0 ∨ size = 0 ∨ 32 < size.toNat) ↔ (n.toNat = 0 ∨ size.toNat = 0 ∨ 32 < size.toNat) := by
    rw [toNat_eq_zero_iff, ← BitVec.toNat_inj (x := n)]
    rfl
  split
  · next hr => exact exec_frame_refused _ s .range rfl h (if_pos (hrange.1 hr))
  · next hr =>
    have hr' := mt hrange.2 hr
    split
    · next hs => exact exec_frame_refused _ s .state rfl h ((if_neg hr').trans (if_pos hs))
    · next hs => exact exec_frame _ s _ .grant rfl h (s.armCapture_granted _ _ hr' (not_not.1 hs))

/-- The order HOLD for CAPTURE with an argument in range, by the channel's state (R201). -/
theorem frameRule_orderHoldCapture (s : State) (on : Byte) (hon : on = 0 ∨ on = 1) :
    frameRule (.orderHoldCapture on) s =
      match s.link.capture.state with
      | .disarmed => s.reject .state
      | .armed => (if on = 1 then s.holdFrame else s, .grant)
      | .held => (if on = 1 then s else s.releaseFrame, .grant) := by
  refine if_neg fun hlt => ?_
  obtain ⟨h0, h1⟩ := (one_lt_toNat_iff on).1 hlt
  exact hon.elim h0 h1

/-- A HELD channel ARMED again, before it gathers: a frame that holds items has its flush timer started afresh
(R201). -/
def State.frameReleased (s : State) : State :=
  { s with
    link :=
      { s.link with
        capture :=
          { s.link.capture with
            state := .armed
            flush :=
              if s.link.capture.closed = true ∨ s.link.capture.taken = 0 then none
              else some (288 * s.cfg .captureFlushTime) } } }

theorem State.releaseFrame_eq (s : State) : s.releaseFrame = s.frameReleased.gather := by
  unfold State.releaseFrame State.frameReleased
  simp only [Bool.or_eq_true, beq_iff_eq]
  rfl

theorem exec_orderHoldCapture_release (s : State) (h : s.ready) (hs : s.link.capture.state = .held) :
    exec (.orderHoldCapture 0) s = .next (s.idleWatched (s.frameReleased.gather.answered .grant)) := by
  refine exec_frame _ s _ .grant rfl h ((frameRule_orderHoldCapture s 0 (Or.inl rfl)).trans ?_)
  rw [hs, ← State.releaseFrame_eq]
  rfl

/-- Settles O55: each order by the channel's state; a release by what it gathers. -/
theorem captureChannel : Obligations.CaptureChannel := by
  intro s
  refine ⟨fun hf => ?_, fun h => ⟨exec_orderArmCapture s h, fun on => ?_, fun hs => ?_, fun hs => ?_⟩⟩
  · exact exec_event .captureFlushExpiry s _ rfl (if_neg (Timer.running hf))
  · refine ⟨fun h0 h1 => ?_, fun hon hs => ?_, ?_, ?_, ?_, ?_, ?_⟩
    · exact exec_frame_refused _ s .range rfl h (if_pos ((one_lt_toNat_iff on).2 ⟨h0, h1⟩))
    · exact exec_frame_refused _ s .state rfl h ((frameRule_orderHoldCapture s on hon).trans (by rw [hs]))
    · rintro rfl hs
      refine exec_frame _ s _ .grant rfl h ((frameRule_orderHoldCapture s 1 (Or.inr rfl)).trans ?_)
      rw [hs]
      rfl
    · rintro (⟨rfl, hs⟩ | ⟨rfl, hs⟩)
      · exact exec_frame _ s _ .grant rfl h ((frameRule_orderHoldCapture s 0 (Or.inl rfl)).trans (by rw [hs]; rfl))
      · exact exec_frame _ s _ .grant rfl h ((frameRule_orderHoldCapture s 1 (Or.inr rfl)).trans (by rw [hs]; rfl))
    · rintro rfl hs
      refine ⟨_, exec_orderHoldCapture_release s h hs, ?_⟩
      show s.frameReleased.gather.link.capture.state = .armed ∧
        s.frameReleased.gather.link.capture.remaining = s.link.capture.remaining ∧
        s.frameReleased.gather.store.entries = s.store.entries
      rw [State.gather_capture, State.gather_remaining, State.gather_entries]
      exact ⟨rfl, rfl, rfl⟩
    · rintro rfl hs hc flush
      rw [exec_orderHoldCapture_release s h hs, s.frameReleased.gather_eq hc]
      rfl
    · rintro rfl hs hc
      rw [exec_orderHoldCapture_release s h hs, State.gather_of_closed s.frameReleased hc]
      unfold State.frameReleased
      rw [if_pos (Or.inl hc)]
  · exact exec_frame_refused .orderDisarmCapture s .state rfl h (if_pos hs)
  · refine exec_frame .orderDisarmCapture s _ .grant rfl h ((if_neg hs).trans ?_)
    rw [State.endCapture_eq _ _ hs]

/-! ## The link transmitter (R192, R203, R204) -/

/-- Nothing is taken while a frame is sent (R192). -/
theorem State.linkTake_sending (s : State) (h : s.link.sending.isSome = true) : s.linkTake = none := if_pos h

/-- A reply goes first (R192). -/
theorem State.linkTake_reply (s : State) (hs : s.link.sending = none) (r : Reply) (rest : List Reply)
    (hr : s.link.replies = r :: rest) :
    s.linkTake = some ((s.modLink fun l => { l with replies := rest }).beginFrame (.reply r)) := by
  unfold State.linkTake
  rw [hs, hr]
  rfl

/-- Then a REJECT BUSY (R192). -/
theorem State.linkTake_busy (s : State) (hs : s.link.sending = none) (hr : s.link.replies = []) (hb : s.link.busy ≠ 0) :
    s.linkTake = some ((s.modLink fun l => { l with busy := l.busy - 1 }).beginFrame (.reply (.reject .busy))) := by
  unfold State.linkTake
  rw [hs, hr]
  exact if_pos hb

/-- Without a reply and a REJECT BUSY: nothing before a reset, else a closed DATA frame, else a notice (R192, R196). -/
theorem State.linkTake_rest (s : State) (hs : s.link.sending = none) (hr : s.link.replies = []) (hb : s.link.busy = 0) :
    s.linkTake =
      if s.link.resetPending = true then none
      else if s.link.capture.state = .armed ∧ s.link.capture.closed = true then some s.sendData
      else s.nextNotice.map fun n => s.sendNotice n := by
  unfold State.linkTake
  rw [hs, hr]
  exact if_neg (not_not.2 hb)

theorem exec_linkTransmitterTake_some {s t : State} (h : s.linkTake = some t) :
    exec .linkTransmitterTake s = .next (s.idleWatched t) :=
  exec_event _ s t rfl (congrArg (·.getD s) h)

theorem exec_linkTransmitterTake_none {s : State} (h : s.linkTake = none) :
    exec .linkTransmitterTake s = .next (s.idleWatched s) :=
  exec_event _ s s rfl (congrArg (·.getD s) h)

/-! ### A DATA frame (R203) -/

theorem State.trim_capture_le (s : State) (h : s.store.cursors.capture ≤ s.store.entries.length) :
    s.trim.store.cursors.capture ≤ s.trim.store.entries.length := by
  unfold State.trim
  dsimp only
  split
  · exact h
  · show s.store.cursors.capture - _ ≤ (s.store.entries.drop _).length
    rw [List.length_drop]
    omega

/-- The cursor of CAPTURE stays in the store when the entries of a frame leave CAPTURE (R71, R74). -/
theorem State.storeTaken_capture_le (s : State) (n : Nat) (h : s.store.cursors.capture ≤ s.store.entries.length) :
    (s.storeTaken n).cursors.capture ≤ (s.storeTaken n).entries.length := by
  have hc := s.consume_capture n h
  have hstore : s.storeTaken n = (s.consume .capture n).store := by rw [hc]
  rw [hstore]
  refine State.trim_capture_le _ ?_
  refine nextHeld_getD_le_length _ _ _ ?_
  rw [List.length_append, releaseHeld_length, ← List.length_append, List.take_append_drop]
  exact h

/-- The state in which a DATA frame's entries have left CAPTURE (R203). -/
def State.dataTaken (s : State) : State :=
  { s with
    store := s.storeTaken s.link.capture.taken
    link :=
      { s.link with
        sending := some (.data ((s.heldForCapture.take s.link.capture.taken).flatMap Entry.item))
        timer :=
          some ((((s.heldForCapture.take s.link.capture.taken).flatMap Entry.item).length + 4)
            * byteUnits s.link.rateStrap)
        capture :=
          { s.link.capture with
            remaining := s.link.capture.remaining - s.link.capture.taken, taken := 0, closed := false
            flush := none } } }

theorem State.sendData_taken (s : State) (h : s.store.cursors.capture ≤ s.store.entries.length) :
    s.sendData =
      if s.link.capture.remaining - s.link.capture.taken = 0 then
        ((s.dataTaken.modCapture fun c => { c with state := .disarmed }).detach .capture).note (.channel true .done 0)
      else s.dataTaken.gather := by
  have hconsume :=
    (s.beginFrame (.data ((s.heldForCapture.take s.link.capture.taken).flatMap Entry.item))).consume_capture
      s.link.capture.taken h
  unfold State.sendData
  dsimp only
  rw [hconsume]
  rfl

theorem State.sendData_eq (s : State) (h : s.store.cursors.capture ≤ s.store.entries.length) :
    s.sendData =
      if s.link.capture.remaining ≤ s.link.capture.taken then s.dataTaken.captureEnded .done
      else s.dataTaken.gathered := by
  rw [s.sendData_taken h, s.dataTaken.gather_eq (s.storeTaken_capture_le _ h)]
  by_cases hle : s.link.capture.remaining ≤ s.link.capture.taken
  · have hzero : s.dataTaken.link.capture.remaining = 0 := Nat.sub_eq_zero_of_le hle
    rw [if_pos (Nat.sub_eq_zero_of_le hle), if_pos hle, State.detach_eq]
    unfold State.captureEnded
    rw [hzero]
    rfl
  · rw [if_neg (by omega), if_neg hle]

/-! ### A notice (R204) -/

/-- The pending notice of the lowest kind that the mask allows. -/
theorem find_first {α : Type} (p : α → Bool) (pre post : List α) (a : α) (hpre : ∀ m ∈ pre, p m = false)
    (ha : p a = true) : (pre ++ a :: post).find? p = some a := by
  rw [List.find?_append, List.find?_eq_none.2 fun m hm => Bool.eq_false_iff.1 (hpre m hm), List.find?_cons_of_pos ha]
  rfl

/-- A notice of a kind that stands once in the list is taken out of it. -/
theorem filter_kind_ne (pre post : List Notice) (n : Notice) (hpre : ∀ m ∈ pre, m.kind < n.kind)
    (hpost : ∀ m ∈ post, n.kind < m.kind) :
    ((pre ++ n :: post).filter fun m => m.kind != n.kind) = pre ++ post := by
  rw [List.filter_append, List.filter_cons_of_neg (by simp), List.filter_eq_self.2, List.filter_eq_self.2]
  · exact fun m hm => bne_iff_ne.2 (Nat.ne_of_gt (hpost m hm))
  · exact fun m hm => bne_iff_ne.2 (Nat.ne_of_lt (hpre m hm))

theorem State.nextNotice_of_talking (s : State) (h : s.station.hostSilent = false) :
    s.nextNotice = s.link.notices.find? fun n => s.link.mask.getLsbD (n.kind - 1) := by
  unfold State.nextNotice
  rw [h]
  rfl

theorem State.sendNotice_eq (s : State) (pre post : List Notice) (n : Notice) (hn : s.link.notices = pre ++ n :: post)
    (hpre : ∀ m ∈ pre, m.kind < n.kind) (hpost : ∀ m ∈ post, n.kind < m.kind) :
    s.sendNotice n = (s.modLink fun l => { l with notices := pre ++ post }).beginFrame (.note n) := by
  have hfilter := filter_kind_ne pre post n hpre hpost
  rw [← hn] at hfilter
  show State.beginFrame (.note n)
    { s with link := { s.link with notices := s.link.notices.filter fun m => m.kind != n.kind } } = _
  rw [hfilter]
  rfl

/-- Settles O56, by the transmitter's order of preference. -/
theorem linkTransmitter : Obligations.LinkTransmitter := by
  intro s sent
  refine ⟨fun h => exec_linkTransmitterTake_none (s.linkTake_sending h), fun f rate hf hne => ?_, fun hs =>
    ⟨fun r rest hr => exec_linkTransmitterTake_some (s.linkTake_reply hs r rest hr), fun hr hb =>
      exec_linkTransmitterTake_some (s.linkTake_busy hs hr hb), fun hr hb => ?_⟩⟩
  · refine exec_event (.linkFrameSent rate) s _ rfl ?_
    show s.frameSent rate = _
    unfold State.frameSent
    rw [hf]
    exact if_neg hne
  · have hrest := s.linkTake_rest hs hr hb
    refine ⟨fun hp => exec_linkTransmitterTake_none (hrest.trans (if_pos hp)), fun hp => ?_⟩
    have hrest := hrest.trans (if_neg (Bool.eq_false_iff.1 hp))
    refine ⟨fun ha hc hcur => ?_, fun hno => ?_⟩
    · exact exec_linkTransmitterTake_some
        ((hrest.trans (if_pos ⟨ha, hc⟩)).trans (congrArg some (s.sendData_eq hcur)))
    · have hrest := hrest.trans (if_neg fun h => hno.elim (· h.1) fun hf => Bool.eq_false_iff.1 hf h.2)
      refine ⟨fun hsil => exec_linkTransmitterTake_none ?_, fun hsil => ?_⟩
      · rw [hrest, State.nextNotice, if_pos hsil]
        rfl
      · rw [s.nextNotice_of_talking hsil] at hrest
        refine ⟨fun hall => exec_linkTransmitterTake_none ?_, fun pre n post hn hmask hpre hpost => ?_⟩
        · rw [hrest, List.find?_eq_none.2 fun m hm => Bool.eq_false_iff.1 (hall m hm)]
          rfl
        · refine exec_linkTransmitterTake_some ?_
          rw [hrest, hn, find_first _ pre post n (fun m hm => (hpre m hm).1) hmask, Option.map_some,
            s.sendNotice_eq pre post n hn (fun m hm => (hpre m hm).2) hpost]
          rfl

end Sys2Proof.Machine
end

section
/-! PROOFS. The station unit and the conditions: ORDER MODE, the host watchdog, the orders to both (Chapter 9). -/

namespace Sys2Proof.Machine

/-! ## A change of mode leaves the CAPTURE channel (R176) -/

theorem State.latch_capture (k : Nat) (s : State) : (s.latch k).link.capture = s.link.capture := by
  rw [State.latch_frame]

theorem State.recorderTested_capture (s : State) : s.recorderTested.link.capture = s.link.capture := by
  unfold State.recorderTested
  split
  · rw [State.localClearTaken_frame, State.latch_frame]
  · rfl

theorem State.connectionBegun_capture (s : State) : s.connectionBegun.link.capture = s.link.capture := by
  unfold State.connectionBegun
  dsimp only
  split
  · exact State.latch_capture _ _
  · rfl

theorem State.answerBegun_capture (s : State) : s.answerBegun.link.capture = s.link.capture := by
  unfold State.answerBegun
  rw [State.startCause_frame]
  split
  · rw [State.recorderTested_capture, State.connectionBegun_capture]
  · rfl

theorem State.acceptanceTested_capture (s : State) : s.acceptanceTested.link.capture = s.link.capture := by
  unfold State.acceptanceTested
  split
  · exact State.latch_capture _ s
  · split
    · exact s.answerBegun_capture
    · rfl

theorem State.modeMoved_capture (new : Mode) (byWatchdog : Bool) (s : State) :
    (s.modeMoved new byWatchdog).link.capture = s.link.capture := by
  unfold State.modeMoved
  dsimp only
  split
  · rfl
  · split
    · rfl
    · cases s.call.state
      case offered => exact State.acceptanceTested_capture _
      case connected => exact State.recorderTested_capture _
      all_goals rfl

/-! ## ORDER MODE and the host watchdog (R175, R179) -/

theorem Mode.ofCode_code (m : Mode) : Mode.ofCode (BitVec.ofNat 8 m.code).toNat = some m := by cases m <;> rfl

theorem Mode.ofCode_eq_none {n : Nat} (h : 2 < n) : Mode.ofCode n = none := by
  match n, h with
  | _ + 3, _ => rfl

/-- ORDER MODE that names a mode: its tests in order, then the change (R175). -/
theorem State.orderMode_eq (s : State) (m : Mode) :
    s.orderMode (BitVec.ofNat 8 m.code) =
      if m ≠ .unattended ∧ (s.station.restartPending = true ∨ s.station.hostSilent = true) then s.reject .state
      else if m = .localMode ∧ s.call.state ≠ .free then s.reject .state
      else (s.modeMoved m false, .grant) := by
  unfold State.orderMode
  rw [Mode.ofCode_code, ← State.changeMode_eq]

/-- The state that the expiry of the watchdog leaves, before CAPTURE ends: HOST_SILENT latched, UNATTENDED (R179). -/
def State.hostLost (s : State) : State :=
  (State.latch Cond.hostSilent
    { s with station := { s.station with hostSilent := true, watchdog := none } }).modeMoved .unattended true

theorem State.hostLost_capture (s : State) : s.hostLost.link.capture = s.link.capture :=
  (State.modeMoved_capture _ _ _).trans (State.latch_capture _ _)

/-- The host has been silent (R179). -/
theorem State.watchdogExpiry_eq (s : State) (h : s.station.watchdog.isSome = true) :
    s.watchdogExpiry =
      if s.link.capture.state = .disarmed then s.hostLost else s.hostLost.captureEnded .hostSilent := by
  have hcapture := s.hostLost_capture
  have hexpiry : s.watchdogExpiry = s.hostLost.endCapture .hostSilent := by
    refine (if_neg (Timer.running h)).trans ?_
    exact congrArg (State.endCapture .hostSilent) (State.changeMode_eq .unattended true _)
  rw [hexpiry]
  split
  · next hd => exact if_pos (hcapture ▸ hd)
  · next hd => exact State.endCapture_eq _ _ (hcapture ▸ hd)

/-- Settles O57: the order by its tests, the expiry by `watchdogExpiry_eq`. -/
theorem modeByOrderAndByWatchdog : Obligations.ModeByOrderAndByWatchdog := by
  intro s
  refine ⟨fun h => ⟨fun b hb => ?_, ?_⟩, fun hw => exec_event .hostWatchdogExpiry s _ rfl (s.watchdogExpiry_eq hw)⟩
  · refine exec_frame_refused (.orderMode b) s .range rfl h ?_
    show s.orderMode b = _
    unfold State.orderMode
    rw [Mode.ofCode_eq_none hb]
  · intro m order barred busy
    have hmode : frameRule order s = _ := s.orderMode_eq m
    refine ⟨fun hno => exec_frame_refused order s .state rfl h (hmode.trans ?_), fun hbar hbusy => ?_⟩
    · by_cases hbar : barred
      · exact if_pos hbar
      · exact (if_neg hbar).trans (if_pos (hno.resolve_left hbar))
    · have hmoved : exec order s = .next (s.idleWatched ((s.modeMoved m false).answered .grant)) :=
        exec_frame order s _ .grant rfl h (hmode.trans ((if_neg hbar).trans (if_neg hbusy)))
      refine ⟨hmoved, fun hm => ?_⟩
      have hstands : s.modeMoved m false = s := if_pos hm.symm
      rw [hmoved, hstands]

/-! ## The orders to the station and the conditions (R177, R196, R204, R207) -/

/-- A named fault leaves unless it is a live one of bits 0 to 6 (R207). -/
theorem clearedFaults_eq (named live faults : CondSet) :
    clearedFaults named live faults = faults &&& ~~~(named &&& ~~~(live &&& 0x00007F)) := by
  have hbit : ∀ f n l c : Bool, ((f && !n) || (f && n && l && c)) = (f && !(n && !(l && c))) := by decide
  refine BitVec.eq_of_getLsbD_eq fun i hi => ?_
  simp only [clearedFaults, Cond.liveFaults, BitVec.getLsbD_or, BitVec.getLsbD_and, BitVec.getLsbD_not, hi, decide_true,
    Bool.true_and, hbit]

theorem exec_orderNoticeMask (s : State) (h : s.ready) (mask : BitVec 16) :
    exec (.orderNoticeMask mask) s = .next (s.idleWatched
      (if 2 ^ 11 ≤ mask.toNat then s.answered (.reject .range)
      else State.answered { s with link := { s.link with mask := mask.setWidth 11 } } .grant)) := by
  split
  · next hm => exact exec_frame_refused _ s .range rfl h (if_pos hm)
  · next hm => exact exec_frame _ s _ .grant rfl h (if_neg hm)

theorem exec_orderClearFaults (s : State) (h : s.ready) (named : CondSet) :
    exec (.orderClearFaults named) s = .next (s.idleWatched
      (if 2 ^ 18 ≤ named.toNat then s.answered (.reject .range)
      else
        State.answered
          { s with
            cond := { s.cond with faults := s.cond.faults &&& ~~~ (named &&& ~~~ (s.live &&& 0x00007F)) } }
          .grant)) := by
  split
  · next hm => exact exec_frame_refused _ s .range rfl h (if_pos hm)
  · next hm =>
    refine exec_frame _ s _ .grant rfl h ((if_neg hm).trans ?_)
    rw [← clearedFaults_eq]
    rfl

/-- Settles O58: each order by its rule as a good frame. -/
theorem ordersToTheStationAndTheConditions : Obligations.OrdersToTheStationAndTheConditions := by
  intro s h
  exact ⟨exec_frame .orderAckRestart s _ .grant rfl h rfl, exec_frame .orderReset s _ .resetGrant rfl h rfl,
    exec_orderNoticeMask s h, exec_orderClearFaults s h⟩

end Sys2Proof.Machine
end

section
/-! PROOFS. The output pins as functions of the state (sections 2 to 11). -/

namespace Sys2Proof.Machine

/-! ## The levels while RESET is asserted (R211) -/

theorem State.unlessReset_reset (s : State) (active : Bool) (h : s.pins.reset = true) :
    s.unlessReset active = false := by
  unfold State.unlessReset
  rw [h]
  rfl

theorem State.unlessReset_run (s : State) (active : Bool) (h : s.pins.reset = false) :
    s.unlessReset active = active := by
  unfold State.unlessReset
  rw [h]
  rfl

theorem State.hostTx_reset (s : State) (h : s.pins.reset = true) : s.hostTx = none := if_pos h

theorem State.hostTxLevel_idle (s : State) (h : s.hostTx = none) : s.hostTxLevel = .mark := by
  unfold State.hostTxLevel
  rw [h]

/-! ## The keyboard matrix (R114) -/

theorem scanDrive_getLsbD (d j : Nat) (hj : j < 8) : (scanDrive d).getLsbD j = true ↔ j = d := by
  unfold scanDrive
  rw [BitVec.getLsbD_ofNat, decide_eq_true hj, Bool.true_and, Nat.testBit_two_pow, decide_eq_true_iff]
  exact eq_comm

theorem scanSense_getLsbD (keys : BitVec 64) (d j : Nat) (hj : j < 8) :
    (scanSense keys d).getLsbD j = keys.getLsbD (8 * d + j) := by
  unfold scanSense
  rw [BitVec.getLsbD_extractLsb', decide_eq_true hj, Bool.true_and]

/-! ## The call, the bell and the motor (R44, R122, R157) -/

theorem State.seize_iff (s : State) (h : s.pins.reset = false) :
    s.seize = true ↔ s.call.state = .answering ∨ s.call.state = .calling ∨ s.call.state = .selecting ∨
      s.call.state = .connected := by
  unfold State.seize
  rw [State.unlessReset_run _ _ h]
  cases s.call.state <;> decide

theorem State.motorOn_iff (s : State) (h : s.pins.reset = false) :
    s.motorOn = true ↔ s.motor.state = .runup ∨ s.motor.state = .running := by
  unfold State.motorOn
  rw [State.unlessReset_run _ _ h]
  cases s.motor.state <;> decide

theorem State.bellOn_iff (s : State) (h : s.pins.reset = false) : s.bellOn = true ↔ s.bell ≠ none := by
  unfold State.bellOn
  rw [State.unlessReset_run _ _ h, Option.isSome_iff_ne_none]

/-! ## The printer (R137, R141, R142, R146, R148) -/

/-- An action is in flight: the operation's action, whatever parts come after it. -/
theorem State.printerAction_iff (s : State) (a : PrinterAction) :
    s.printerAction = some a ↔ ∃ rest, s.printer.op = some { action := a, rest := rest } := by
  unfold State.printerAction
  rw [Option.map_eq_some_iff]
  constructor
  · rintro ⟨⟨action, rest⟩, hop, rfl⟩
    exact ⟨rest, hop⟩
  · rintro ⟨rest, hop⟩
    exact ⟨_, hop, rfl⟩

theorem State.strike_iff (s : State) (h : s.pins.reset = false) :
    s.strike = true ↔ ∃ c, s.printerAction = some (.strike c) := by
  unfold State.strike
  rw [State.unlessReset_run _ _ h]
  cases s.printerAction with
  | none => simp
  | some a => cases a <;> simp

theorem State.feed_iff (s : State) (h : s.pins.reset = false) :
    s.feed = true ↔ ∃ c, s.printerAction = some (.feed c) := by
  unfold State.feed
  rw [State.unlessReset_run _ _ h]
  cases s.printerAction with
  | none => simp
  | some a => cases a <;> simp

theorem State.carStep_iff (s : State) (h : s.pins.reset = false) :
    s.carStep = true ↔ s.printer.aborted ≠ none ∨ s.printerAction = some .space ∨
      ∃ w c, s.printerAction = some (.slew w c) := by
  unfold State.carStep
  rw [State.unlessReset_run _ _ h, Bool.or_eq_true, Option.isSome_iff_ne_none]
  refine or_congr_right ?_
  cases s.printerAction with
  | none => simp
  | some a => cases a <;> simp

theorem State.carRev_iff (s : State) (h : s.pins.reset = false) :
    s.carRev = true ↔ s.printer.aborted ≠ none ∨ ∃ w c, s.printerAction = some (.slew w c) := by
  unfold State.carRev
  rw [State.unlessReset_run _ _ h, Bool.or_eq_true, Option.isSome_iff_ne_none]
  refine or_congr_right ?_
  cases s.printerAction with
  | none => simp
  | some a => cases a <;> simp

/-- PR_SEL where no aborted slew ends its step: the character of a strike, the length of a step (R137, R141, R146). -/
theorem State.prSel_of_action (s : State) (h : s.pins.reset = false) (ha : s.printer.aborted = none) :
    (∀ c, s.printerAction = some (.strike c) → s.prSel = some c) ∧
      (s.printerAction = some .space → s.prSel = some 1) ∧
      (∀ w c, s.printerAction = some (.slew w c) → s.prSel = some (BitVec.ofNat 7 w.len)) := by
  unfold State.prSel
  rw [h, if_neg Bool.false_ne_true, ha]
  refine ⟨fun c hop => ?_, fun hop => ?_, fun w c hop => ?_⟩
  all_goals rw [hop]

theorem State.prSel_of_aborted (s : State) (h : s.pins.reset = false) (len : Nat) (ha : s.printer.aborted = some len) :
    s.prSel = some (BitVec.ofNat 7 (if len = 0 then 1 else len)) := by
  have hmax : max len 1 = if len = 0 then 1 else len := by
    split <;> omega
  unfold State.prSel
  rw [h, if_neg Bool.false_ne_true, ha, ← hmax]

/-! ## The punch (R165, R166, R171) -/

theorem State.punchDrive_iff (s : State) (h : s.pins.reset = false) : s.punchDrive = true ↔ s.punch.op ≠ none := by
  unfold State.punchDrive
  rw [State.unlessReset_run _ _ h, Option.isSome_iff_ne_none]

theorem State.puCode_of_op (s : State) (h : s.pins.reset = false) :
    (∀ m c, s.punch.op = some (.entry 0 m c) → s.puCode = some c) ∧
      (∀ n m c, s.punch.op = some (.entry (n + 1) m c) → s.puCode = some m) ∧
      (s.punch.op = some .leader → s.puCode = some 0) := by
  unfold State.puCode
  rw [h, if_neg Bool.false_ne_true]
  refine ⟨fun m c hop => ?_, fun n m c hop => ?_, fun hop => ?_⟩
  all_goals simp only [hop]

/-! ## The line (R1, R31, R41) -/

theorem State.lineTx_run (s : State) (h : s.pins.reset = false) :
    s.lineTx =
      match s.tx.phase with
      | .code c _ _ el st => codeLevel c el (6 * el + st - s.tx.timer.getD 0)
      | .brk => .space
      | .free | .unitWait .. | .breakGuard => .mark :=
  if_neg (Bool.eq_false_iff.1 h)

theorem State.lineTx_mark (s : State) (h : s.pins.reset = false)
    (hp : s.tx.phase = .free ∨ s.tx.phase = .breakGuard ∨ ∃ c u owed, s.tx.phase = .unitWait c u owed) :
    s.lineTx = .mark := by
  have hl := s.lineTx_run h
  rcases hp with hp | hp | ⟨c, u, owed, hp⟩
  all_goals rw [hp] at hl; exact hl

/-- The start element is at space. -/
theorem codeLevel_start (c : Code) (el past : Nat) (h : past < el) : codeLevel c el past = .space := by
  unfold codeLevel
  rw [Nat.div_eq_of_lt h]

/-- A unit is at the level of its bit. -/
theorem codeLevel_unit (c : Code) (el past k : Nat) (hk : k < 5) (hlow : (k + 1) * el ≤ past)
    (hhigh : past < (k + 2) * el) : codeLevel c el past = if c.getLsbD k = true then .mark else .space := by
  have hdiv : past / el = k + 1 := Nat.div_eq_of_lt_le hlow hhigh
  unfold codeLevel
  rw [hdiv]
  cases hb : c.getLsbD k with
  | false => exact if_pos ⟨hk, hb⟩
  | true => exact if_neg fun h => Bool.false_ne_true (h.2.symm.trans hb)

/-- The stop element is at mark. -/
theorem codeLevel_stop (c : Code) (el past : Nat) (hel : el ≠ 0) (h : 6 * el ≤ past) : codeLevel c el past = .mark := by
  have hdiv : 6 ≤ past / el := (Nat.le_div_iff_mul_le (Nat.pos_of_ne_zero hel)).2 h
  unfold codeLevel
  split
  · omega
  · next k hk => exact if_neg fun hc => by omega

/-! ## The host link's output (R189, R192) -/

/-- The bit on HOST_TX when part of a run of bytes has been sent. -/
theorem linkLevel_bit (bytes : List Byte) (rate : BitVec 2) (past k j : Nat) (b : Byte) (hb : bytes[k]? = some b)
    (hj : j < 10) (hlow : (10 * k + j) * byteUnits rate ≤ 10 * past)
    (hhigh : 10 * past < (10 * k + j + 1) * byteUnits rate) :
    linkLevel bytes rate past = if (linkBits b).getLsbD j = true then .mark else .space := by
  have hdiv : 10 * past / byteUnits rate = 10 * k + j := Nat.div_eq_of_lt_le hlow hhigh
  have hbyte : (10 * k + j) / 10 = k := by omega
  have hbit : (10 * k + j) % 10 = j := by omega
  unfold linkLevel
  simp only [hdiv, hbyte, hbit, hb]

theorem State.hostTx_run (s : State) (h : s.pins.reset = false) : s.hostTx = s.link.sending.map OutFrame.bytes :=
  if_neg (Bool.eq_false_iff.1 h)

theorem State.hostTxLevel_sending (s : State) (h : s.pins.reset = false) (f : OutFrame) (hf : s.link.sending = some f) :
    s.hostTxLevel =
      linkLevel f.bytes s.link.rateStrap
        (f.bytes.length * byteUnits s.link.rateStrap - s.link.timer.getD 0) := by
  have ht : s.hostTx = some f.bytes := by rw [s.hostTx_run h, hf, Option.map_some]
  unfold State.hostTxLevel
  rw [ht]

/-! ## The signal outputs (R209, R210) -/

/-- A set is not empty when a bit of it is set. -/
theorem bne_zero_iff {w : Nat} (m : BitVec w) : (m != 0) = true ↔ ∃ b, b < w ∧ m.getLsbD b = true := by
  rw [bne_iff_ne]
  constructor
  · intro hne
    by_contra hno
    refine hne (BitVec.eq_of_getLsbD_eq fun i hi => ?_)
    refine Eq.trans ?_ BitVec.getLsbD_zero.symm
    exact Bool.eq_false_iff.2 fun hb => hno ⟨i, hi, hb⟩
  · rintro ⟨b, -, hb⟩ rfl
    exact Bool.false_ne_true (BitVec.getLsbD_zero.symm.trans hb)

/-- Where each kind of condition has its bits (R209). -/
theorem Cond.bit_kinds : ∀ b, b < 24 →
    Cond.liveFaults.getLsbD b = decide (b ≤ 6) ∧ Cond.statuses.getLsbD b = decide (6 < b ∧ b ≤ 10) ∧
      Cond.events.getLsbD b = decide (10 < b ∧ b ≤ 17) := by
  decide

/-- What a bit of a LINKED output's mask is tested against (R209). -/
theorem State.testedSet_getLsbD (s : State) (latched : Bool) (b : Nat) (hb : b < 24) :
    (s.testedSet latched).getLsbD b =
      if b ≤ 6 then (if latched then s.cond.faults.getLsbD b else s.live.getLsbD b)
      else if b ≤ 10 then s.live.getLsbD b
      else b ≤ 17 && s.cond.faults.getLsbD b := by
  obtain ⟨hfaults, hstatuses, hevents⟩ := Cond.bit_kinds b hb
  unfold State.testedSet
  rw [BitVec.getLsbD_or, BitVec.getLsbD_or, BitVec.getLsbD_and, BitVec.getLsbD_and, BitVec.getLsbD_and, hfaults,
    hstatuses,
    hevents]
  by_cases h6 : b ≤ 6
  · have h10 : ¬10 < b := by omega
    rw [if_pos h6]
    cases latched <;> simp [h6, h10, Nat.not_lt.2 h6]
  · rw [if_neg h6]
    by_cases h10 : b ≤ 10
    · simp [h6, h10, Nat.lt_of_not_le h6, Nat.not_lt.2 h10]
    · simp [h6, h10, Nat.lt_of_not_le h10, Bool.and_comm]

/-- A LINKED output is active while a bit of its mask is set in what it is tested against (R209). -/
theorem linked_active_iff (mask set : CondSet) :
    (mask &&& set != 0) = true ↔ ∃ b, b < 24 ∧ mask.getLsbD b = true ∧ set.getLsbD b = true := by
  rw [bne_zero_iff]
  simp only [BitVec.getLsbD_and, Bool.and_eq_true]

theorem State.signalActive_iff (s : State) (e : SignalEntry) :
    s.signalActive e = true ↔
      (e.mode = .direct ∧ e.directLevel = true) ∨
        (e.mode = .linked ∧ ∃ b, b < 24 ∧ e.mask.getLsbD b = true ∧ (s.testedSet e.latched).getLsbD b = true) := by
  unfold State.signalActive
  cases e.mode with
  | off => simp
  | direct => simp
  | linked =>
    rw [linked_active_iff]
    simp

theorem State.sigLevel_iff (s : State) (h : s.pins.reset = false) (n : Nat) (e : SignalEntry)
    (he : s.cond.signals[n]? = some e) : s.sigLevel n = true ↔ (s.signalActive e = true ↔ e.activeLow = false) := by
  unfold State.sigLevel
  rw [State.unlessReset_run _ _ h, he]
  show (s.signalActive e != e.activeLow) = true ↔ _
  cases s.signalActive e <;> cases e.activeLow <;> decide

/-! ## The output pins (R31 to R211) -/

/-- RESET asserted brings every output to its cold-reset level (R211). -/
theorem outputs_reset (s : State) (h : s.pins.reset = true) :
    s.seize = false ∧ s.lineTx = .mark ∧ s.strike = false ∧ s.feed = false ∧ s.carStep = false ∧ s.carRev = false ∧
      s.prSel = none ∧ s.bellOn = false ∧ s.punchDrive = false ∧ s.puCode = none ∧ s.motorOn = false ∧
      (∀ n, s.sigLevel n = false) ∧ s.hostTx = none ∧ s.hostTxLevel = .mark :=
  have dropped (active : Bool) : s.unlessReset active = false := s.unlessReset_reset active h
  ⟨dropped _, if_pos h, dropped _, dropped _, dropped _, dropped _, if_pos h, dropped _, dropped _, if_pos h, dropped _,
    fun _ => dropped _, s.hostTx_reset h, s.hostTxLevel_idle (s.hostTx_reset h)⟩

/-- Settles O60: the levels under RESET, then each output by its own lemma. -/
theorem outputsFollowTheState : Obligations.OutputsFollowTheState := by
  refine ⟨fun _ => rfl, fun d j _ hj => scanDrive_getLsbD d j hj, fun keys d j _ hj => scanSense_getLsbD keys d j hj,
    outputs_reset, ?_⟩
  intro s h printing
  have hprint (a : PrinterAction) : printing a ↔ s.printerAction = some a := (s.printerAction_iff a).symm
  refine ⟨s.seize_iff h, s.motorOn_iff h, s.bellOn_iff h, ?strike, ?feed, ?carStep, ?carRev, ?prSel, ?aborted,
    s.punchDrive_iff h, ?_⟩
  case strike => simpa only [hprint] using s.strike_iff h
  case feed => simpa only [hprint] using s.feed_iff h
  case carStep => simpa only [hprint] using s.carStep_iff h
  case carRev => simpa only [hprint] using s.carRev_iff h
  case prSel =>
    intro ha
    simpa only [hprint] using s.prSel_of_action h ha
  case aborted => exact fun len ha => s.prSel_of_aborted h len ha
  obtain ⟨hcode, hmarker, hleader⟩ := s.puCode_of_op h
  refine ⟨hcode, hmarker, hleader, s.lineTx_mark h, ?brk, ?code, s.hostTx_run h, ?idle, ?sending, ?signals⟩
  case brk =>
    intro hp
    have hl := s.lineTx_run h
    rw [hp] at hl
    exact hl
  case code =>
    intro c u f el st hp hel past
    have hl := s.lineTx_run h
    rw [hp] at hl
    have hl : s.lineTx = codeLevel c el past := hl
    rw [hl]
    exact ⟨codeLevel_start c el past, fun k => codeLevel_unit c el past k, codeLevel_stop c el past hel⟩
  case idle =>
    intro hf
    refine s.hostTxLevel_idle ?_
    rw [s.hostTx_run h, hf]
    rfl
  case sending =>
    intro f hf unit past k j b hb hj hlow hhigh
    rw [s.hostTxLevel_sending h f hf]
    exact linkLevel_bit f.bytes _ _ k j b hb hj hlow hhigh
  case signals =>
    intro n e he tested active
    have hactive : s.signalActive e = true ↔ active := by
      refine (s.signalActive_iff e).trans (or_congr_right (and_congr_right fun _ => exists_congr fun b => ?_))
      refine and_congr_right fun hb => ?_
      rw [s.testedSet_getLsbD e.latched b hb]
    rw [s.sigLevel_iff h n e he, hactive]

end Sys2Proof.Machine
end
